-- ==== Sys2Proof/Word.lean ====
section
/-! DEFINITION. The word types of the model. -/

namespace Sys2Proof

/-- One byte. -/
abbrev Byte := BitVec 8
/-- A DWord (00_scope.md section 6). -/
abbrev DWord := BitVec 32
/-- A QWord. -/
abbrev QWord := BitVec 64
/-- An OWord, also the size of a native instruction. -/
abbrev OWord := BitVec 128
/-- A HWord: one general register (R4). -/
abbrev HWord := BitVec 256

end Sys2Proof
end

