-- ==== Sys2Proof/Config.lean ====
section
/-! DEFINITION. What an implementation fixes, the open parameters of 00_scope.md section 5, and the free values.
A constant without a body is a free value: no proof can see what it is, so a statement about it holds for every value.
`State.draws` numbers the draws, so that two draws are two different arguments. -/

namespace Sys2Proof.Config

/-- A free value: draw number, channel, purpose (R96 `draw`). -/
opaque free : Nat → Nat → Nat → QWord

/-- A free byte of a register that nothing has defined (R4, D3; responses of disabled slots). -/
opaque freeReg : Nat → Nat → HWord

/-- The interleaving of agents that no source fixes (R593): a choice for each step. -/
opaque schedule : Nat → Nat

/-- The order in which one message performs slots that touch the same bytes (R26, D12), as the code of a permutation. -/
opaque slotOrder : Nat → Nat

/-- What an accumulator channel reads as, from the bits stored in it and a draw (R8, D4, R148). -/
opaque accRead : QWord → QWord → QWord

/-- A 64-bit immediate made from the 32 bits the instruction carries: the layout is not in the sources (R65). -/
opaque wideImm : BitVec 4 → DWord → QWord

/-- `MATH_FUNCS` (R90, R139): function code, operand format code, the two operands' bits. -/
opaque mathFn : BitVec 4 → BitVec 4 → QWord → QWord → QWord

/-- The second result of `math` INT DIV Quotient and remainder (R139), on the same arguments as `mathFn`. -/
opaque mathRem : BitVec 4 → BitVec 4 → QWord → QWord → QWord

/-- Initial contents of shared local memory: group, byte offset (R14, D6). -/
opaque slmFill : Nat → Nat → Byte

/-- Initial contents of the unified return buffer (R16). -/
opaque urbFill : Nat → Byte

/-- `URB_SIZE` in bytes (R16). -/
opaque urbSize : Nat

/-- `THREADS_PER_SUBSLICE` (R484). -/
opaque threadsPerSubslice : Nat

/-- `NUM_SUBSLICES` (R554), of the whole machine. -/
opaque subslices : Nat

/-- `NUM_SLICES` (R579). -/
opaque slices : Nat

/-- What the blitter decodes from its opcode and control bits (R496: BR00 bits 29 and 4:0, in this order). -/
opaque blitDecode : BitVec 32 → BitVec 6

/-- Whether a blit opcode is an X, Y blit (R496, R503, R505: the opcode list is not in the sources). -/
opaque blitIsXy : BitVec 7 → Bool

/-- Whether a blit opcode takes its monochrome source with the command (R508). -/
opaque blitTakesSource : BitVec 7 → Bool

/-- A value reported by a free-running counter (R551): draw number and counter, as an increment of it. -/
opaque tick : Nat → Nat → Nat

/-- The extended function control that a `sends` takes from the address register (R192, D22), from its eight words: which of
them hold it is not in the sources. -/
opaque registerExDesc : List (BitVec 16) → BitVec 20

/-- Results of the shared functions whose processing is not in the sources (sampler, video motion estimation,
check-and-refinement, pixel interpolator; 93 "parameter"): the shared function, its descriptor, its extended descriptor's
function control, the payload, the draw (their results depend on memory and on state of their own), the index of the
response register. -/
opaque sharedFn : BitVec 4 → DWord → BitVec 20 → List HWord → Nat → Nat → HWord

/-- Whether a gateway message is a barrier arrival (R15, R134): the opcode field of the gateway descriptor is not in the
sources. -/
opaque gatewayIsBarrier : DWord → Bool

/-- Byte address in the URB of a 128-bit unit of a URB message (R16): descriptor, first payload register, register, half of
the register. -/
opaque urbAddress : DWord → HWord → Nat → Nat → Nat

/-- Whether a URB message writes (its payload rows) or reads (R16). -/
opaque urbIsWrite : DWord → Bool

/-- Byte offset of texel (u, v, r, LOD, sample) from the surface base, from the eight first DWords of its surface state,
without the bits that the access ignores (R436, R441; tiling, mip placement and `SURFACE_FORMAT_TABLE` are not in the sources). -/
opaque texelOffset : BitVec 256 → Nat → Nat → Nat → Nat → Nat → Nat

/-- Address of the counter of an atomic counter message on a surface without an append buffer (R186, R450): not in the
sources. -/
opaque counterAddress : BitVec 256 → Nat

/-- The texel a render target write leaves (R405-R408: alpha test, blend, logic operation, depth and stencil tests; the
pointers to their state are set by commands outside the sources): the texel before, colours of source 0 and of source 1
(RGBA), and a list of numbers: the header's viewport index, facing, the 24 bytes of COLOR_CALC_STATE, render target index,
surface format, whether colours are half precision, source 0 alpha, antialias alpha, source depth, stencil, sample; source 0
alpha, depth and stencil each after whether it is present. -/
opaque renderTexel : BitVec 128 → List DWord → List DWord → List Nat → BitVec 128

/-- 3D_Compare_Function (R405): the functions by code are not in the sources; each looks at the order of its operands. -/
opaque compareFunction : BitVec 3 → Option Ordering → Bool

/-- The UNORM8 value of a float alpha (R410): how it is rounded is not in the sources. -/
opaque unorm8 : DWord → Byte

/-- The alpha from which on a sample is covered (R405), for an alpha between 0 and 1: samples, sample, and the pixel's X and
Y when coverage is dithered. -/
opaque coverageThreshold : Nat → Nat → Nat × Nat → DWord

/-- The range, as floats, of a channel of a surface format (R407; `SURFACE_FORMAT_TABLE`). -/
opaque formatRange : BitVec 10 → Nat → DWord × DWord

/-- The clamp of a destination or constant channel before a blend that clamps only its sources (R407: its table is not in the
sources): surface format, channel, value. -/
opaque unclampedInput : BitVec 10 → Nat → DWord → DWord

/-- ColorBufferBlending (R407: the codes of factors and functions are not in the sources): source factor, destination factor,
function, the channels of source 0, source 1, destination and constant, the channel asked for. -/
opaque blend : Nat × Nat × Nat → List DWord → Nat → DWord

/-- The dither table (R405: not in the sources): surface format, column and row of the table, channel, colour. -/
opaque dither : BitVec 10 → Nat × Nat → Nat → DWord → DWord

/-- Whether dithering is cancelled because of the data that the blend uses (R410; when is not in the sources): the blend entry, the
blend's inputs, the channel. -/
opaque ditherCancelled : Nat → List DWord → Nat → Bool

/-- Whether a surface format is SINT (R407; `SURFACE_FORMAT_TABLE`). -/
opaque isSigned : BitVec 10 → Bool

/-- The bits of a channel of a surface format (R407; `SURFACE_FORMAT_TABLE`). -/
opaque channelBits : BitVec 10 → Nat → Nat

/-- Whether a surface format is UINT or SINT (R407; `SURFACE_FORMAT_TABLE`). -/
opaque isInteger : BitVec 10 → Bool

/-- Whether a value of Swizzle Control Mode selects attributes 16 to 31 (R423): the source prints no value table. -/
opaque swizzleUpper : Bool → Bool

/-- The 64-bit components of a surface format, when it is a `*64*_PASSTHRU` one, else 0 (R427; `SURFACE_FORMAT_TABLE`). -/
opaque passthruComponents : BitVec 9 → Nat

/-- Whether a surface format has 64-bit floating point components (R426; `SURFACE_FORMAT_TABLE`). -/
opaque hasFloat64 : BitVec 9 → Bool

/-- Position (Y ++ X) of a subspan of a thread's pixels when a render target message has no header ("bypassed" data, R200):
thread, subspan. -/
opaque bypassSubspan : Nat → Nat → DWord

/-- The coverage of a pixel's samples ("bypassed" data, R200): thread, slot. -/
opaque bypassCoverage : Nat → Nat → BitVec 16

/-- The antialias alpha of a pixel ("bypassed" data, R200, R212): thread, slot. -/
opaque bypassAlpha : Nat → Nat → Byte

/-- Whether the pixel shader is dispatched in PER_SAMPLE mode (R246, R249): set by a command outside the sources. -/
opaque psPerSample : Bool

/-- Whether the Per-Sample PS Enable of a per-pixel dispatch is set (R249): set by a command outside the sources. -/
opaque psPerSampleEnable : Bool

/-- The sample a subspan slot stands for in PER_SAMPLE mode (R246): number of samples, first sample pair, subspan. -/
opaque subspanSample : Nat → Nat → Nat → Nat

/-- What the 5-bit message types of the sampling engine do (R201: the table is not in the sources). -/
inductive SamplerKind
  /-- Reads a surface through a sampler. -/
  | sample
  /-- An `ld*` message: reads a surface without a sampler. -/
  | load
  /-- `resinfo`, `sampleinfo`: reads a surface without a sampler. -/
  | info
  /-- `LOD`: reads a surface through a sampler. -/
  | lod
  /-- Reads a MEDIA_SURFACE_STATE (R431). -/
  | deinterlace
  /-- Reads a MEDIA_SURFACE_STATE (R431). -/
  | sample8x8
  /-- `cache_flush`: reads nothing. -/
  | flush
deriving DecidableEq, Repr, Inhabited

/-- The kind of a sampler message type (R201). -/
opaque samplerKind : BitVec 5 → SamplerKind

/-- Whether a sampler message type is `ld_mcs` (R201). -/
opaque samplerLdMcs : BitVec 5 → Bool

/-- Whether a sampler message is of SIMD mode SIMD4x2 or SIMD32/64 (R201; the value table is not in the sources): SIMD
Mode[1:0], and the header, which has its extension. -/
opaque samplerWide : BitVec 2 → HWord → Bool

/-- What a sample message does with the texels of its footprint (R469). -/
inductive Reduction
  /-- The filter. -/
  | filter
  /-- A comparison, then the filter. -/
  | comparison
  /-- The least texel. -/
  | minimum
  /-- The greatest texel. -/
  | maximum
deriving DecidableEq, Repr, Inhabited

/-- What a sampler message type by itself does with the texels of its footprint (R466, R469, R201). -/
opaque samplerReduction : BitVec 5 → Reduction

/-- Whether a sampler message type ignores the Reduction Type (R469, R201). -/
opaque samplerIgnoresReduction : BitVec 5 → Bool

/-- Whether a surface format supports Sampling Engine Filtering (R466; `SURFACE_FORMAT_TABLE`). -/
opaque formatFilters : BitVec 10 → Bool

/-- The Texture Border Color Mode that a surface format must be used with (R466; `SURFACE_FORMAT_TABLE`): DX9 (true) of
P4A4_UNORM and A4P4_UNORM, DX10/OGL (false) of YCRCB_SWAPUV and YCRCB_SWAPY. -/
opaque formatBorderMode : BitVec 10 → Option Bool

/-- Whether the shadow comparison puts the message's reference value first (R467: not stated). -/
opaque shadowRefFirst : Bool

/-- The LOD an `ld*` message asks for in a slot (R448): descriptor, payload, slot. -/
opaque samplerLod : DWord → List HWord → Nat → Nat

/-- The slot that a bit of a sampler response belongs to: descriptor, response register, byte. -/
opaque samplerSlot : DWord → Nat → Nat → Nat

/-- The kinds of surface format that the restrictions of R437-R455 tell apart. -/
inductive FormatKind
  /-- A format that none of the restrictions names. -/
  | other
  /-- YCRCB_*. -/
  | yuv
  /-- PLANAR_420_8. -/
  | planar420x8
  /-- Another PLANAR_420_* format. -/
  | planar420
  /-- Another PLANAR_* format. -/
  | planar
  /-- BC*, DXT*, ETC*, EAC*, ASTC*: compressed, and allowed as a tiled resource (R448). -/
  | compressed
  /-- FXT1: compressed. -/
  | fxt1
  /-- RAW. -/
  | raw
  /-- MONO8. -/
  | mono8
  /-- R8_UINT. -/
  | r8Uint
  /-- R32_FLOAT, R24_UNORM_X8_TYPELESS, R16_UNORM: what a hierarchical depth buffer goes with (R450). -/
  | depth
  /-- The formats of a rotated render target (R447). -/
  | rotatable
deriving DecidableEq, Repr, Inhabited

/-- The kind of a surface format (`SURFACE_FORMAT_TABLE`). A surface format here is the field's nine bits below ASTC_Enable,
which selects the convention of its encoding (R437). -/
opaque formatKind : BitVec 10 → FormatKind

/-- The channels a surface format has, red in bit 0 (R452; `SURFACE_FORMAT_TABLE`). -/
opaque formatChannels : BitVec 10 → BitVec 4

/-- 1 or 1.0, by the class of a surface format (R452; `SURFACE_FORMAT_TABLE`). -/
opaque formatOne : BitVec 10 → DWord

/-- Whether a surface format is supported for render target compression (R450; `SURFACE_FORMAT_TABLE`). -/
opaque compressesTarget : BitVec 10 → Bool

/-- Whether a surface format is supported for fast clears (R450; `SURFACE_FORMAT_TABLE`). -/
opaque clearsFast : BitVec 10 → Bool

/-- Size in bytes of one texel of a surface format (`SURFACE_FORMAT_TABLE`). -/
opaque texelSize : BitVec 10 → Nat

/-- The 32-bit value of channel `c` read from the bytes of a texel (`SURFACE_FORMAT_TABLE`). -/
opaque texelDecode : BitVec 10 → BitVec 128 → Nat → DWord

/-- The bytes of a texel after channels are written: format, old bytes, channel enables, the four channel values
(`SURFACE_FORMAT_TABLE`). -/
opaque texelEncode : BitVec 10 → BitVec 128 → BitVec 4 → DWord → DWord → DWord → DWord → BitVec 128

/-- The width in bytes of a tile of a tiled resource, 2^Cu (R445; Cu is not in the sources), from the eight first DWords of
the surface state. -/
opaque tileWidth : BitVec 256 → Nat

/-- The rows of a tile, 2^Cv (R443; not in the sources), from the eight first DWords of the surface state. -/
opaque tileRows : BitVec 256 → Nat

/-- Whether a sampler message type is a `sample_unorm*` (R451, R452, R201). -/
opaque samplerUnorm : BitVec 5 → Bool

/-- Whether a sampler message is a SIMD16 `sample` (R451, R201; the value tables are not in the sources): message type, SIMD
Mode[1:0], the header. -/
opaque samplerSimd16 : BitVec 5 → BitVec 2 → HWord → Bool

/-- Which function of `sample_8x8` a message asks for (R431, R432; its encoding is not in the sources). -/
inductive Avs
  /-- AVS. -/
  | avs
  /-- AVS with a direct write or of 16x8. -/
  | avsDirect
  /-- Another function. -/
  | other
deriving DecidableEq, Repr, Inhabited

/-- The function of a `sample_8x8` message: descriptor, payload. -/
opaque avsFunction : DWord → List HWord → Avs

/-- The width in bytes of a tile of a tiled resource that is a media surface (R431; not in the sources): Tiled Resource Mode,
bits of a pixel. -/
opaque mediaTileWidth : Nat → Nat → Nat

/-- Whether a sampler message type is one of `ld2dms`, `resinfo` and `sampleinfo` (R447, R201). -/
opaque samplerDepthStencil : BitVec 5 → Bool

/-- `EU_SRC_INDEX_TABLE` (R72; open, no default in the sources). PRESUMED: the table the processor family publishes for
this field; unsafe, log 7. -/
def srcIndexTable : List (BitVec 12) :=
  [0x000#12, 0x002#12, 0x010#12, 0x012#12, 0x018#12, 0x020#12, 0x028#12, 0x048#12,
   0x050#12, 0x070#12, 0x078#12, 0x300#12, 0x302#12, 0x308#12, 0x310#12, 0x312#12] ++
  [0x320#12, 0x328#12, 0x338#12, 0x340#12, 0x342#12, 0x348#12, 0x350#12, 0x360#12,
   0x368#12, 0x370#12, 0x371#12, 0x378#12, 0x468#12, 0x469#12, 0x46A#12, 0x588#12]

/-- `FOP2_SNAN_RESULT` (92 OPEN; default: the signalling operand is returned unquietized). -/
def fop2SnanUnquietized : Bool := true

/-- `LRI_PAIR_ORDER` (92 OPEN; default: offset DWord first, R577). -/
def lriOffsetFirst : Bool := true

/-- `SRD_PUSH_DONE_PRESENT` (92 OPEN; default true, R581). -/
def srdPushDonePresent : Bool := true

/-- Presence of the second video command streamer (fuse dependent, 10_state.md section 6): a product parameter. -/
opaque vcs2Present : Bool

end Sys2Proof.Config
end

