-- ==== Sys2Proof/Syntax.lean ====
section
/-! DEFINITION. The instructions as syntax: the fields of every form of 40_eu_instruction_forms.md, and `Instr` with one
constructor for each row of spec/opcode_table.json. Raw encodings do not pass this point. -/

namespace Sys2Proof

/-- `RegFile` of a register operand (R70): 00b ARF, 01b GRF. -/
inductive RegFile | arf | grf
deriving DecidableEq, Repr

/-- `SrcType`/`DstType` of a register operand (R70, R71). -/
inductive RType | ud | d | uw | w | ub | b | df | f | uq | q | hf
deriving DecidableEq, Repr

/-- `SrcImmType` (R70, R71). -/
inductive IType | ud | d | uw | w | uv | vf | v | f | uq | q | df | hf
deriving DecidableEq, Repr

/-- The 3-bit type of the three-source form (R83). -/
inductive TType | f | d | ud | df | hf
deriving DecidableEq, Repr

/-- `CondModifier` (R71). -/
inductive CondMod | none | z | nz | g | ge | l | le | o | u
deriving DecidableEq, Repr

/-- `ExecSize` (R70, R71). -/
inductive ExecSize | s1 | s2 | s4 | s8 | s16 | s32
deriving DecidableEq, Repr

/-- `ThreadCtrl` (R48, R71). -/
inductive ThreadCtrl | normal | atomic | switch | noPreempt
deriving DecidableEq, Repr

/-- `PredCtrl` of both access modes (R47, R71). -/
inductive PredCtrl
  | none | seq | anyv | allv | any2h | all2h | any4h | all4h | any8h | all8h | any16h | all16h | any32h | all32h
  | x | y | z | w
deriving DecidableEq, Repr

/-- `AccessMode` (R51). -/
inductive AccessMode | align1 | align16
deriving DecidableEq, Repr

/-- `HorzStride` (R70, R71), in elements. -/
inductive HStride | s0 | s1 | s2 | s4
deriving DecidableEq, Repr

/-- `VertStride` (R71); `vxh` is 1111b. -/
inductive VStride | s0 | s1 | s2 | s4 | s8 | s16 | s32 | vxh
deriving DecidableEq, Repr

/-- `Width` (R71). -/
inductive Width | w1 | w2 | w4 | w8 | w16
deriving DecidableEq, Repr

/-- `SrcMod` (R71): bit 1 negate, bit 0 absolute value. -/
structure SrcMod where
  neg : Bool
  abs : Bool
deriving DecidableEq, Repr

/-- Where an operand is (R58, R61): a register and byte number, or a0 subregister plus a signed byte offset. -/
inductive Loc
  | direct (reg : BitVec 8) (sub : BitVec 5)
  | indirect (a : BitVec 3) (imm : BitVec 10)
deriving DecidableEq, Repr

/-- Region of a source (R61 Align1, R62 Align16). -/
inductive SrcRegion
  | align1 (vs : VStride) (w : Width) (hs : HStride)
  | align16 (vs : VStride) (swz : BitVec 8)
deriving DecidableEq, Repr

/-- Region of a destination (R58 Align1, R59 Align16). -/
inductive DstRegion
  | align1 (hs : HStride)
  | align16 (chanEn : BitVec 4)
deriving DecidableEq, Repr

/-- A register source of the one- and two-source forms. -/
structure SrcOp where
  file : RegFile
  ty : RType
  mod : SrcMod
  loc : Loc
  region : SrcRegion
deriving DecidableEq, Repr

/-- A destination of the one- and two-source forms. -/
structure DstOp where
  file : RegFile
  ty : RType
  loc : Loc
  region : DstRegion
deriving DecidableEq, Repr

/-- A source: register or 32-bit immediate. -/
inductive Src
  | reg (r : SrcOp)
  | imm (ty : IType) (v : BitVec 32)
deriving DecidableEq, Repr

/-- A register-file and type field pair that names no operand of its own (R85, R86). -/
inductive Tag
  | reg (file : RegFile) (ty : RType)
  | imm (ty : IType)
deriving DecidableEq, Repr

/-- Controls of instruction bits 34:32 and 31:8 but for bits 27:24 (R45, R46, R52, R56). `cmpt` is `CmptCtrl`: false in
every native word (R55); the expansion of a compact word sets it, so that the operation knows the word's length. -/
structure Ctl where
  access : AccessMode
  noDDClr : Bool
  noDDChk : Bool
  nib : Bool
  qtr : BitVec 2
  thread : ThreadCtrl
  pred : PredCtrl
  predInv : Bool
  exec : ExecSize
  accWr : Bool
  cmpt : Bool
  debug : Bool
  sat : Bool
  flagSub : Bool
  flagReg : Bool
  noMask : Bool
deriving DecidableEq, Repr

/-- R81. -/
structure OneSrc where
  ctl : Ctl
  cond : CondMod
  dst : DstOp
  src0 : Src
deriving DecidableEq, Repr

/-- R82. -/
structure TwoSrc where
  ctl : Ctl
  cond : CondMod
  dst : DstOp
  src0 : SrcOp
  src1 : Src
deriving DecidableEq, Repr

/-- One source of the three-source form (R63); `sub` is SubRegNum[4:1]. -/
structure TriOp where
  reg : BitVec 8
  sub : BitVec 4
  swz : BitVec 8
  rep : Bool
  mod : SrcMod
deriving DecidableEq, Repr

/-- R83. -/
structure ThreeSrc where
  ctl : Ctl
  cond : CondMod
  dstReg : BitVec 8
  dstSub : BitVec 3
  chanEn : BitVec 4
  dstTy : TType
  srcTy : TType
  half1 : Bool
  half2 : Bool
  s0 : TriOp
  s1 : TriOp
  s2 : TriOp
deriving DecidableEq, Repr

/-- The jump offset of the one-source branch form: the immediate `JIP`, or for `jmpi` a register scalar (R119). -/
inductive Offset
  | jip (v : BitVec 32)
  | reg (r : SrcOp)
deriving DecidableEq, Repr

/-- R85. `tag1` is the file and type of source 1 when the offset is the immediate. -/
structure BranchOne where
  ctl : Ctl
  dst : DstOp
  src0 : SrcOp
  tag1 : Tag
  off : Offset
deriving DecidableEq, Repr

/-- R86. -/
structure BranchTwo where
  ctl : Ctl
  dst : DstOp
  tag0 : Tag
  jip : BitVec 32
  uip : BitVec 32
deriving DecidableEq, Repr

/-- R89, for a function control that R90 names. -/
structure MathOp where
  ctl : Ctl
  dst : DstOp
  src0 : SrcOp
  src1 : SrcOp
deriving DecidableEq, Repr

/-- R89 with a function control R90 prints Reserved: 0000b, or 1000b when `high` is set. -/
structure MathReserved where
  high : Bool
  op : MathOp
deriving DecidableEq, Repr

/-- The shared functions R93 names. -/
inductive Sfid
  | null | sampler | gateway | dp2 | renderCache | urb | spawner | vme | readOnly | dp0 | pixelInterp | dp1 | cre
deriving DecidableEq, Repr

/-- The message descriptor (R69): 31 immediate bits, or a0.1 ++ a0.0. -/
inductive Desc
  | imm (v : BitVec 31)
  | reg
deriving DecidableEq, Repr

/-- R91 with the payload position of `SEND_SRC0_LAYOUT`. `ex` is ExDesc[31:16]. -/
structure SendOp where
  ctl : Ctl
  sfid : Sfid
  dst : DstOp
  tag0 : Tag
  src0 : Loc
  ex : BitVec 16
  eot : Bool
  desc : Desc
deriving DecidableEq, Repr

/-- R92. -/
structure SendsOp where
  ctl : Ctl
  sfid : Sfid
  dstFile : RegFile
  dstTy : RType
  dst : Loc
  src0 : Loc
  src1File : RegFile
  src1 : BitVec 8
  ex : BitVec 16
  exLen : BitVec 4
  eot : Bool
  desc : Desc
deriving DecidableEq, Repr

/-- One of the four send opcodes (R135-R138): `wait` is set for `sendc` and `sendsc`. -/
inductive SendForm
  | plain (wait : Bool) (o : SendOp)
  | split (wait : Bool) (o : SendsOp)
deriving DecidableEq, Repr

/-- R72. -/
structure CompactTwo where
  op : BitVec 7
  debug : Bool
  control : BitVec 5
  dataType : BitVec 5
  subReg : BitVec 5
  accWr : Bool
  cond : BitVec 4
  src0Index : BitVec 5
  src1Index : BitVec 5
  dst : BitVec 8
  src0 : BitVec 8
  src1 : BitVec 8
deriving DecidableEq, Repr

/-- R76. -/
structure CompactThree where
  op : BitVec 7
  control : BitVec 2
  source : BitVec 2
  dst : BitVec 7
  rep0 : Bool
  debug : Bool
  sat : Bool
  rep1 : Bool
  rep2 : Bool
  sub0 : BitVec 3
  sub1 : BitVec 3
  sub2 : BitVec 3
  src0 : BitVec 7
  src1 : BitVec 7
  src2 : BitVec 7
deriving DecidableEq, Repr

/-- The forms of 40_eu_instruction_forms.md with the opcode number (R95), before it is given its name. -/
inductive Shape
  | illegal
  | nop (debug : Bool)
  | one (op : BitVec 7) (o : OneSrc)
  | two (op : BitVec 7) (o : TwoSrc)
  | three (op : BitVec 7) (o : ThreeSrc)
  | br1 (op : BitVec 7) (o : BranchOne)
  | br2 (op : BitVec 7) (o : BranchTwo)
  | math (fc : BitVec 4) (o : MathOp)
  | send (f : SendForm)
  | compact2 (o : CompactTwo)
  | compact3 (o : CompactThree)
deriving DecidableEq, Repr

/-- The instructions: one constructor for each row of spec/opcode_table.json (log 8 says which row a word that matches
several rows is given). -/
inductive Instr
  /-- R100, form R87. -/
  | illegal
  /-- `mov`, R101. -/
  | mov (o : OneSrc)
  /-- `sel`, R102. -/
  | sel (o : TwoSrc)
  /-- `movi`, R103. -/
  | movi (o : OneSrc)
  /-- `not`, R104. -/
  | not (o : OneSrc)
  /-- `and`, R105. -/
  | and (o : TwoSrc)
  /-- `or`, R106. -/
  | or (o : TwoSrc)
  /-- `xor`, R107. -/
  | xor (o : TwoSrc)
  /-- `shr`, R108. -/
  | shr (o : TwoSrc)
  /-- `shl`, R109. -/
  | shl (o : TwoSrc)
  /-- `smov`, R110. -/
  | smov (o : OneSrc)
  /-- `asr`, R111. -/
  | asr (o : TwoSrc)
  /-- `cmp`, R112. -/
  | cmp (o : TwoSrc)
  /-- `cmpn`, R113. -/
  | cmpn (o : TwoSrc)
  /-- `csel`, R114. -/
  | csel (o : ThreeSrc)
  /-- `bfrev`, R115. -/
  | bfrev (o : OneSrc)
  /-- `bfe`, R116. -/
  | bfe (o : ThreeSrc)
  /-- `bfi1`, R117. -/
  | bfi1 (o : TwoSrc)
  /-- `bfi2`, R118. -/
  | bfi2 (o : ThreeSrc)
  /-- `jmpi`, R119. -/
  | jmpi (o : BranchOne)
  /-- `brd`, R120. -/
  | brd (o : BranchOne)
  /-- `if`, R121. -/
  | ifOp (o : BranchTwo)
  /-- `brc`, R122. -/
  | brc (o : BranchTwo)
  /-- `else`, R123. -/
  | elseOp (o : BranchTwo)
  /-- `endif`, R124. -/
  | endif (o : BranchOne)
  /-- `while`, R125. -/
  | whileOp (o : BranchOne)
  /-- `break`, R126. -/
  | breakOp (o : BranchTwo)
  /-- `cont`, R127. -/
  | cont (o : BranchTwo)
  /-- `halt`, R128. -/
  | halt (o : BranchTwo)
  /-- `calla`, R129. -/
  | calla (o : BranchOne)
  /-- `call`, R130. -/
  | call (o : BranchOne)
  /-- `ret`, R131. -/
  | ret (o : BranchOne)
  /-- `goto`, R132. -/
  | goto (o : BranchTwo)
  /-- `join`, R133. -/
  | join (o : BranchOne)
  /-- `wait`, R134. -/
  | wait (o : OneSrc)
  /-- `send`, R135. -/
  | send (o : SendOp)
  /-- `sendc`, R136. -/
  | sendc (o : SendOp)
  /-- `sends`, R137. -/
  | sends (o : SendsOp)
  /-- `sendsc`, R138. -/
  | sendsc (o : SendsOp)
  /-- `math`, R139. -/
  | math (o : MathReserved)
  /-- `add`, R140. -/
  | add (o : TwoSrc)
  /-- `mul`, R141. -/
  | mul (o : TwoSrc)
  /-- `avg`, R142. -/
  | avg (o : TwoSrc)
  /-- `frc`, R143. -/
  | frc (o : OneSrc)
  /-- `rndu`, R144. -/
  | rndu (o : OneSrc)
  /-- `rndd`, R145. -/
  | rndd (o : OneSrc)
  /-- `rnde`, R146. -/
  | rnde (o : OneSrc)
  /-- `rndz`, R147. -/
  | rndz (o : OneSrc)
  /-- `mac`, R148. -/
  | mac (o : TwoSrc)
  /-- `mach`, R149. -/
  | mach (o : TwoSrc)
  /-- `lzd`, R150. -/
  | lzd (o : OneSrc)
  /-- `fbh`, R151. -/
  | fbh (o : OneSrc)
  /-- `fbl`, R152. -/
  | fbl (o : OneSrc)
  /-- `cbit`, R153. -/
  | cbit (o : OneSrc)
  /-- `addc`, R154. -/
  | addc (o : TwoSrc)
  /-- `subb`, R155. -/
  | subb (o : TwoSrc)
  /-- `sad2`, R156. -/
  | sad2 (o : TwoSrc)
  /-- `sada2`, R157. -/
  | sada2 (o : TwoSrc)
  /-- `dp4`, R158. -/
  | dp4 (o : TwoSrc)
  /-- `dph`, R159. -/
  | dph (o : TwoSrc)
  /-- `dp3`, R160. -/
  | dp3 (o : TwoSrc)
  /-- `dp2`, R161. -/
  | dp2 (o : TwoSrc)
  /-- `line`, R162. -/
  | line (o : TwoSrc)
  /-- `pln`, R163. -/
  | pln (o : TwoSrc)
  /-- `mad`, R164. -/
  | mad (o : ThreeSrc)
  /-- `lrp`, R165. -/
  | lrp (o : ThreeSrc)
  /-- `madm`, R166. -/
  | madm (o : ThreeSrc)
  /-- R167, form R88. -/
  | nop (debug : Bool)
  /-- `math.INV`, R139. -/
  | mathInv (o : MathOp)
  /-- `math.LOG`, R139. -/
  | mathLog (o : MathOp)
  /-- `math.EXP`, R139. -/
  | mathExp (o : MathOp)
  /-- `math.SQRT`, R139. -/
  | mathSqrt (o : MathOp)
  /-- `math.RSQ`, R139. -/
  | mathRsq (o : MathOp)
  /-- `math.SIN`, R139. -/
  | mathSin (o : MathOp)
  /-- `math.COS`, R139. -/
  | mathCos (o : MathOp)
  /-- `math.FDIV`, R139. -/
  | mathFdiv (o : MathOp)
  /-- `math.POW`, R139. -/
  | mathPow (o : MathOp)
  /-- `math.INT_DIV_Quotient_and_remainder`, R139. -/
  | mathIntDivQr (o : MathOp)
  /-- `math.INT_DIV_Quotient_only`, R139. -/
  | mathIntDivQ (o : MathOp)
  /-- `math.INT_DIV_Remainder_only`, R139. -/
  | mathIntDivR (o : MathOp)
  /-- `math.INVM`, R139. -/
  | mathInvm (o : MathOp)
  /-- `math.RSQRTM`, R139. -/
  | mathRsqrtm (o : MathOp)
  /-- `sfid.Null`, R93. -/
  | sfidNull (o : SendForm)
  /-- `sfid.SamplingEngine`, R93. -/
  | sfidSampler (o : SendForm)
  /-- `sfid.MessageGateway`, R93. -/
  | sfidGateway (o : SendForm)
  /-- `sfid.DataCacheDataPort2`, R93. -/
  | sfidDp2 (o : SendForm)
  /-- `sfid.DataPortRenderCache`, R93. -/
  | sfidRenderCache (o : SendForm)
  /-- `sfid.URB`, R93. -/
  | sfidUrb (o : SendForm)
  /-- `sfid.ThreadSpawner`, R93. -/
  | sfidSpawner (o : SendForm)
  /-- `sfid.VideoMotionEstimation`, R93. -/
  | sfidVme (o : SendForm)
  /-- `sfid.DataCacheReadOnlyDataPort`, R93. -/
  | sfidReadOnly (o : SendForm)
  /-- `sfid.DataCacheDataPort`, R93. -/
  | sfidDp0 (o : SendForm)
  /-- `sfid.PixelInterpolator`, R93. -/
  | sfidPixelInterp (o : SendForm)
  /-- `sfid.DataCacheDataPort_1`, R93. -/
  | sfidDp1 (o : SendForm)
  /-- `sfid.CheckandRefinementEngine`, R93. -/
  | sfidCre (o : SendForm)
  /-- `MT0R_B`, R185. -/
  | mt0rB (o : SendForm)
  /-- `MT0R_AB`, R185. -/
  | mt0rAb (o : SendForm)
  /-- `MT0R_OWDB`, R185. -/
  | mt0rOwdb (o : SendForm)
  /-- `MT0R_DWS`, R185. -/
  | mt0rDws (o : SendForm)
  /-- `MT0R_BS`, R185. -/
  | mt0rBs (o : SendForm)
  /-- `MT0_MEMFENCE`, R185. -/
  | mt0Memfence (o : SendForm)
  /-- `MT0W_B`, R185. -/
  | mt0wB (o : SendForm)
  /-- `MT0W_OWDB`, R185. -/
  | mt0wOwdb (o : SendForm)
  /-- `MT0W_DWS`, R185. -/
  | mt0wDws (o : SendForm)
  /-- `MT0W_BS`, R185. -/
  | mt0wBs (o : SendForm)
  /-- `MT1R_T`, R186. -/
  | mt1rT (o : SendForm)
  /-- `MT1R_US`, R186. -/
  | mt1rUs (o : SendForm)
  /-- `MT1A_UI`, R186. -/
  | mt1aUi (o : SendForm)
  /-- `MT1A_UI4x2`, R186. -/
  | mt1aUi4x2 (o : SendForm)
  /-- `MT1R_MB`, R186. -/
  | mt1rMb (o : SendForm)
  /-- `MT1R_TS`, R186. -/
  | mt1rTs (o : SendForm)
  /-- `MT1A_TA`, R186. -/
  | mt1aTa (o : SendForm)
  /-- `MT1A_TA4x2`, R186. -/
  | mt1aTa4x2 (o : SendForm)
  /-- `MT1W_US`, R186. -/
  | mt1wUs (o : SendForm)
  /-- `MT1W_MB`, R186. -/
  | mt1wMb (o : SendForm)
  /-- `MT1A_TC`, R186. -/
  | mt1aTc (o : SendForm)
  /-- `MT1A_TC4x2`, R186. -/
  | mt1aTc4x2 (o : SendForm)
  /-- `MT1W_TS`, R186. -/
  | mt1wTs (o : SendForm)
  /-- `MT1R_A64_SB`, R186. -/
  | mt1rA64Sb (o : SendForm)
  /-- `MT1R_A64_US`, R186. -/
  | mt1rA64Us (o : SendForm)
  /-- `MT1A_A64_UI`, R186. -/
  | mt1aA64Ui (o : SendForm)
  /-- `MT1A_A64_UI4x2`, R186. -/
  | mt1aA64Ui4x2 (o : SendForm)
  /-- `MT1R_A64_B`, R186. -/
  | mt1rA64B (o : SendForm)
  /-- `MT1W_A64_B`, R186. -/
  | mt1wA64B (o : SendForm)
  /-- `MT1W_A64_US`, R186. -/
  | mt1wA64Us (o : SendForm)
  /-- `MT1W_A64_SB`, R186. -/
  | mt1wA64Sb (o : SendForm)
  /-- `MT1A_UF`, R186. -/
  | mt1aUf (o : SendForm)
  /-- `MT1A_UF4x2`, R186. -/
  | mt1aUf4x2 (o : SendForm)
  /-- `MT1A_A64_UF`, R186. -/
  | mt1aA64Uf (o : SendForm)
  /-- `MT1A_A64_UF4x2`, R186. -/
  | mt1aA64Uf4x2 (o : SendForm)
  /-- `MT2R_US`, R187. -/
  | mt2rUs (o : SendForm)
  /-- `MT2R_A64_SB`, R187. -/
  | mt2rA64Sb (o : SendForm)
  /-- `MT2R_A64_US`, R187. -/
  | mt2rA64Us (o : SendForm)
  /-- `MT2R_BS`, R187. -/
  | mt2rBs (o : SendForm)
  /-- `MT2W_US`, R187. -/
  | mt2wUs (o : SendForm)
  /-- `MT2W_A64_US`, R187. -/
  | mt2wA64Us (o : SendForm)
  /-- `MT2W_A64_SB`, R187. -/
  | mt2wA64Sb (o : SendForm)
  /-- `MT2W_BS`, R187. -/
  | mt2wBs (o : SendForm)
  /-- `MT_CC_OWB`, R205. -/
  | mtCcOwb (o : SendForm)
  /-- `MT_CC_OWUB`, R205. -/
  | mtCcOwub (o : SendForm)
  /-- `MT_CC_OWDB`, R205. -/
  | mtCcOwdb (o : SendForm)
  /-- `MT_CC_DWS`, R205. -/
  | mtCcDws (o : SendForm)
  /-- `MT_SC_OWUB`, R205. -/
  | mtScOwub (o : SendForm)
  /-- `MT_SC_MB`, R205. -/
  | mtScMb (o : SendForm)
  /-- `MT_RSI`, R205. -/
  | mtRsi (o : SendForm)
  /-- `MT_RTW`, R206. -/
  | mtRtw (o : SendForm)
  /-- `MT_RTR`, R206. -/
  | mtRtr (o : SendForm)
  /-- `MT_RTW.SIMD16`, R200. -/
  | mtRtwSimd16 (o : SendForm)
  /-- `MT_RTW.SIMD16_REPDATA`, R200. -/
  | mtRtwSimd16Repdata (o : SendForm)
  /-- `MT_RTW.SIMD8_DUALSRC_LO`, R200. -/
  | mtRtwSimd8DualsrcLo (o : SendForm)
  /-- `MT_RTW.SIMD8_DUALSRC_HI`, R200. -/
  | mtRtwSimd8DualsrcHi (o : SendForm)
  /-- `MT_RTW.SIMD8_LO`, R200. -/
  | mtRtwSimd8Lo (o : SendForm)
  /-- `MT_RTW.SIMD16_REPDATA_TM`, R200. -/
  | mtRtwSimd16RepdataTm (o : SendForm)
  /-- `TS_DEREFERENCE_RESOURCE__end_of_thread_when_EOT___1`, R221. -/
  | tsDereference (o : SendForm)
  /-- `TS_SPAWN_THREAD`, R221. -/
  | tsSpawn (o : SendForm)
  /-- `compact_one-_or_two-source_instruction`, R72. -/
  | compactTwo (o : CompactTwo)
  /-- `compact_three-source_instruction`, R76. -/
  | compactThree (o : CompactThree)deriving DecidableEq, Repr

end Sys2Proof
end

