-- ==== Sys2Proof/Machine/Codes.lean ====
section
/-! DEFINITION. The codes of the instruction-field enumerations (R70, R71), both ways. -/

namespace Sys2Proof

/-- `SrcType`/`DstType` of registers (R70, R71). -/
def RType.code : RType → BitVec 4
  | .ud => 0#4
  | .d => 1#4
  | .uw => 2#4
  | .w => 3#4
  | .ub => 4#4
  | .b => 5#4
  | .df => 6#4
  | .f => 7#4
  | .uq => 8#4
  | .q => 9#4
  | .hf => 10#4

/-- `SrcType`/`DstType` of registers (R70, R71). Other codes are reserved. -/
def RType.ofCode (c : BitVec 4) : Option RType :=
  match c.toNat with
  | 0 => some .ud
  | 1 => some .d
  | 2 => some .uw
  | 3 => some .w
  | 4 => some .ub
  | 5 => some .b
  | 6 => some .df
  | 7 => some .f
  | 8 => some .uq
  | 9 => some .q
  | 10 => some .hf
  | _ => none

/-- `SrcImmType` (R70, R71). -/
def IType.code : IType → BitVec 4
  | .ud => 0#4
  | .d => 1#4
  | .uw => 2#4
  | .w => 3#4
  | .uv => 4#4
  | .vf => 5#4
  | .v => 6#4
  | .f => 7#4
  | .uq => 8#4
  | .q => 9#4
  | .df => 10#4
  | .hf => 11#4

/-- `SrcImmType` (R70, R71). Other codes are reserved. -/
def IType.ofCode (c : BitVec 4) : Option IType :=
  match c.toNat with
  | 0 => some .ud
  | 1 => some .d
  | 2 => some .uw
  | 3 => some .w
  | 4 => some .uv
  | 5 => some .vf
  | 6 => some .v
  | 7 => some .f
  | 8 => some .uq
  | 9 => some .q
  | 10 => some .df
  | 11 => some .hf
  | _ => none

/-- The three-source types (R83). -/
def TType.code : TType → BitVec 3
  | .f => 0#3
  | .d => 1#3
  | .ud => 2#3
  | .df => 3#3
  | .hf => 4#3

/-- The three-source types (R83). Other codes are reserved. -/
def TType.ofCode (c : BitVec 3) : Option TType :=
  match c.toNat with
  | 0 => some .f
  | 1 => some .d
  | 2 => some .ud
  | 3 => some .df
  | 4 => some .hf
  | _ => none

/-- `CondModifier` (R71). -/
def CondMod.code : CondMod → BitVec 4
  | .none => 0#4
  | .z => 1#4
  | .nz => 2#4
  | .g => 3#4
  | .ge => 4#4
  | .l => 5#4
  | .le => 6#4
  | .o => 8#4
  | .u => 9#4

/-- `CondModifier` (R71). Other codes are reserved. -/
def CondMod.ofCode (c : BitVec 4) : Option CondMod :=
  match c.toNat with
  | 0 => some .none
  | 1 => some .z
  | 2 => some .nz
  | 3 => some .g
  | 4 => some .ge
  | 5 => some .l
  | 6 => some .le
  | 8 => some .o
  | 9 => some .u
  | _ => Option.none

/-- `ExecSize` (R70, R71). -/
def ExecSize.code : ExecSize → BitVec 3
  | .s1 => 0#3
  | .s2 => 1#3
  | .s4 => 2#3
  | .s8 => 3#3
  | .s16 => 4#3
  | .s32 => 5#3

/-- `ExecSize` (R70, R71). Other codes are reserved. -/
def ExecSize.ofCode (c : BitVec 3) : Option ExecSize :=
  match c.toNat with
  | 0 => some .s1
  | 1 => some .s2
  | 2 => some .s4
  | 3 => some .s8
  | 4 => some .s16
  | 5 => some .s32
  | _ => none

/-- `ThreadCtrl` (R71). -/
def ThreadCtrl.code : ThreadCtrl → BitVec 2
  | .normal => 0#2
  | .atomic => 1#2
  | .switch => 2#2
  | .noPreempt => 3#2

/-- `ThreadCtrl` (R71). Other codes are reserved. -/
def ThreadCtrl.ofCode (c : BitVec 2) : Option ThreadCtrl :=
  match c.toNat with
  | 0 => some .normal
  | 1 => some .atomic
  | 2 => some .switch
  | 3 => some .noPreempt
  | _ => none

/-- `AccessMode` (R51). -/
def AccessMode.code : AccessMode → BitVec 1
  | .align1 => 0#1
  | .align16 => 1#1

/-- `AccessMode` (R51). Other codes are reserved. -/
def AccessMode.ofCode (c : BitVec 1) : Option AccessMode :=
  match c.toNat with
  | 0 => some .align1
  | 1 => some .align16
  | _ => none

/-- `HorzStride` (R70, R71). -/
def HStride.code : HStride → BitVec 2
  | .s0 => 0#2
  | .s1 => 1#2
  | .s2 => 2#2
  | .s4 => 3#2

/-- `HorzStride` (R70, R71). Other codes are reserved. -/
def HStride.ofCode (c : BitVec 2) : Option HStride :=
  match c.toNat with
  | 0 => some .s0
  | 1 => some .s1
  | 2 => some .s2
  | 3 => some .s4
  | _ => none

/-- `VertStride` (R71). -/
def VStride.code : VStride → BitVec 4
  | .s0 => 0#4
  | .s1 => 1#4
  | .s2 => 2#4
  | .s4 => 3#4
  | .s8 => 4#4
  | .s16 => 5#4
  | .s32 => 6#4
  | .vxh => 15#4

/-- `VertStride` (R71). Other codes are reserved. -/
def VStride.ofCode (c : BitVec 4) : Option VStride :=
  match c.toNat with
  | 0 => some .s0
  | 1 => some .s1
  | 2 => some .s2
  | 3 => some .s4
  | 4 => some .s8
  | 5 => some .s16
  | 6 => some .s32
  | 15 => some .vxh
  | _ => none

/-- `Width` (R71). -/
def Width.code : Width → BitVec 3
  | .w1 => 0#3
  | .w2 => 1#3
  | .w4 => 2#3
  | .w8 => 3#3
  | .w16 => 4#3

/-- `Width` (R71). Other codes are reserved. -/
def Width.ofCode (c : BitVec 3) : Option Width :=
  match c.toNat with
  | 0 => some .w1
  | 1 => some .w2
  | 2 => some .w4
  | 3 => some .w8
  | 4 => some .w16
  | _ => none

/-- Target Function ID (R93). -/
def Sfid.code : Sfid → BitVec 4
  | .null => 0#4
  | .sampler => 2#4
  | .gateway => 3#4
  | .dp2 => 4#4
  | .renderCache => 5#4
  | .urb => 6#4
  | .spawner => 7#4
  | .vme => 8#4
  | .readOnly => 9#4
  | .dp0 => 10#4
  | .pixelInterp => 11#4
  | .dp1 => 12#4
  | .cre => 13#4

/-- Target Function ID (R93). Other codes are reserved. -/
def Sfid.ofCode (c : BitVec 4) : Option Sfid :=
  match c.toNat with
  | 0 => some .null
  | 2 => some .sampler
  | 3 => some .gateway
  | 4 => some .dp2
  | 5 => some .renderCache
  | 6 => some .urb
  | 7 => some .spawner
  | 8 => some .vme
  | 9 => some .readOnly
  | 10 => some .dp0
  | 11 => some .pixelInterp
  | 12 => some .dp1
  | 13 => some .cre
  | _ => none

/-- `RegFile` of a register operand: 00b ARF, 01b GRF (R70). -/
def RegFile.code : RegFile → BitVec 2
  | .arf => 0#2
  | .grf => 1#2

/-- `PredCtrl` (R71): Align1 when `a` is false. -/
def PredCtrl.code (a : AccessMode) (p : PredCtrl) : BitVec 4 :=
  match a, p with
  | _, .none => 0#4
  | _, .seq => 1#4
  | .align1, .anyv => 2#4
  | .align1, .allv => 3#4
  | .align1, .any2h => 4#4
  | .align1, .all2h => 5#4
  | .align1, .any4h => 6#4
  | .align1, .all4h => 7#4
  | .align1, .any8h => 8#4
  | .align1, .all8h => 9#4
  | .align1, .any16h => 10#4
  | .align1, .all16h => 11#4
  | .align1, .any32h => 12#4
  | .align1, .all32h => 13#4
  | .align16, .x => 2#4
  | .align16, .y => 3#4
  | .align16, .z => 4#4
  | .align16, .w => 5#4
  | .align16, .any4h => 6#4
  | .align16, .all4h => 7#4
  | _, _ => 15#4

/-- `PredCtrl` (R71); other codes are reserved. -/
def PredCtrl.ofCode (a : AccessMode) (c : BitVec 4) : Option PredCtrl :=
  match a with
  | .align1 =>
    match c.toNat with
    | 0 => some .none
    | 1 => some .seq
    | 2 => some .anyv
    | 3 => some .allv
    | 4 => some .any2h
    | 5 => some .all2h
    | 6 => some .any4h
    | 7 => some .all4h
    | 8 => some .any8h
    | 9 => some .all8h
    | 10 => some .any16h
    | 11 => some .all16h
    | 12 => some .any32h
    | 13 => some .all32h
    | _ => Option.none
  | .align16 =>
    match c.toNat with
    | 0 => some .none
    | 1 => some .seq
    | 2 => some .x
    | 3 => some .y
    | 4 => some .z
    | 5 => some .w
    | 6 => some .any4h
    | 7 => some .all4h
    | _ => Option.none

/-- File and type fields of a source that names no operand of its own (R68). -/
def Tag.fileCode : Tag → BitVec 2
  | .reg f _ => f.code
  | .imm _ => 3#2

/-- The type field of a `Tag`: register or immediate type by the file (R68). -/
def Tag.typeCode : Tag → BitVec 4
  | .reg _ t => t.code
  | .imm t => t.code

/-- A `Tag` from its two fields; file 10b is reserved (R71). -/
def Tag.ofCodes (file : BitVec 2) (ty : BitVec 4) : Option Tag :=
  match file.toNat with
  | 0 => (RType.ofCode ty).map (Tag.reg .arf)
  | 1 => (RType.ofCode ty).map (Tag.reg .grf)
  | 3 => (IType.ofCode ty).map Tag.imm
  | _ => none

/-- Execution channels of an `ExecSize` (R70, R71). -/
def ExecSize.channels : ExecSize → Nat
  | .s1 => 1
  | .s2 => 2
  | .s4 => 4
  | .s8 => 8
  | .s16 => 16
  | .s32 => 32

/-- Bytes of an element of a type (R97). -/
def RType.size : RType → Nat
  | .ub | .b => 1
  | .uw | .w | .hf => 2
  | .ud | .d | .f => 4
  | .uq | .q | .df => 8

/-- The register type a three-source type names (R83). -/
def TType.toR : TType → RType
  | .f => .f
  | .d => .d
  | .ud => .ud
  | .df => .df
  | .hf => .hf

/-- `HorzStride` in elements (R70, R71). -/
def HStride.elems : HStride → Nat
  | .s0 => 0
  | .s1 => 1
  | .s2 => 2
  | .s4 => 4

/-- `VertStride` in elements (R71); the indirect-only code has none. -/
def VStride.elems : VStride → Nat
  | .s0 => 0
  | .s1 => 1
  | .s2 => 2
  | .s4 => 4
  | .s8 => 8
  | .s16 => 16
  | .s32 => 32
  | .vxh => 0

/-- `Width` in elements (R71). -/
def Width.elems : Width → Nat
  | .w1 => 1
  | .w2 => 2
  | .w4 => 4
  | .w8 => 8
  | .w16 => 16

end Sys2Proof
end

