-- ==== Sys2Proof/Machine/State.lean ====
section
/-! DEFINITION. Everything the spec gives the machine, as plain data (10_state.md, 60_exceptions.md, 49_blitter.md,
48_media_gpgpu_codec.md), what a step can stop with, and the machine right after reset (R18, R585). -/

namespace Sys2Proof.Machine

/-- The machine stops with a fault. -/
inductive Fault
  /-- Raised by instruction fetch and by data-port accesses at or above 2^32 in a context with 32-bit addresses (R568), and
  by the blitter, reports and the host's memory writes at or above 2^48 (R38): no such address exists. Safe: the model
  stops. -/
  | outsideAddressSpace (addr : Nat)
deriving DecidableEq, Repr

/-- The model assigns no behaviour (R1: the consumer refuses an ill-formed structure or program). Every constructor is
safe: the model stops where the spec gives nothing. -/
inductive Refusal
  /-- Raised by `exec` for an instruction that has no meaning yet. Safe. -/
  | notModelled (mnemonic : String)
  /-- Raised by the step for a word with a non-zero must-be-zero field or a reserved code (R1). Safe. -/
  | illFormed (field : String)
  /-- Raised by the illegal-opcode exception when it is not enabled, or inside the system routine (R544, R545). Safe. -/
  | illegalOpcode
  /-- Raised by floating-point instructions and by dispatch in the ALT floating-point mode (R97). Safe. -/
  | altMode
  /-- Raised by operand access: a region or register outside r0..r127 (R4, R58, D16). Safe. -/
  | outsideGrf
  /-- Raised by operand access: an architecture register as source 1 or 2, or one without an entry (R5, R589). Safe. -/
  | archRegister
  /-- Raised by the instruction template: a flag bit above bit 31 (R96), or reserved channel controls (R49, R71). Safe. -/
  | channelControl
  /-- Raised by an instruction on operand types its rule excludes (R104-R165). Safe. -/
  | operandType
  /-- Raised by an instruction with a modifier, condition or control its rule excludes or requires (R102, R112, R121,
  R131, R132, R134, R141, R154). Safe. -/
  | control
  /-- Raised by a branch whose target is not a multiple of 8, or passes 2^32 (R9, 93 section 1.2). Safe. -/
  | branchTarget
  /-- Raised by the opcodes whose operation the spec does not know and refuses (R110, R120, R122, R156, R157, R166).
  Safe. -/
  | unknownOperation (mnemonic : String)
  /-- Raised by `math` with a function control R90 prints Reserved. Safe. -/
  | reservedMathFunction
  /-- Raised by message issue: a descriptor field with a reserved value, or a Message Length of 0 (R1, R202). Safe. -/
  | messageDescriptor (field : String)
  /-- Raised by a message whose header or payload holds a reserved value (R1). Safe. -/
  | messagePayload (field : String)
  /-- Raised by a message address that violates the alignment its message states (R25). Safe. -/
  | messageAddress
  /-- Raised by a state structure that is ill-formed: a non-zero must-be-zero field, a reserved or unlisted code, a value
  outside its printed range, or a combination its rule forbids (R1, 93 sections 1.1 and 1.2). Safe. -/
  | stateStructure (field : String)
  /-- Raised by a pointer plus its base at or above 2^48 (R21, 93 section 1.2). Safe. -/
  | addressSum
  /-- Raised by the read of a state structure that has been modified while it is in use (R28, R590, 93 section 1.2). Safe. -/
  | modifiedInUse
  /-- Raised by the fetch of a byte that a data-port message has written, or that anyone has stored since the thread's
  dispatch (R28, R590, D14). Safe. -/
  | selfModifying
  /-- Raised by a host event that writes a register or submits a descriptor with a must-be-zero bit, a reserved code, an
  alignment or a combination that its rule forbids (R1, 93 sections 1.1 and 1.2; NOTES.md names each). Safe. -/
  | hostEvent (what : String)
deriving DecidableEq, Repr

/-- Graphics memory: the bytes that do not read as an unlisted address does, addresses rising (R19, R38). -/
abbrev Memory := List Host.Cell

/-- The bytes of an on-chip store that have been written, addresses rising; the others hold a free value (R14, R16). -/
abbrev Store := List Host.Cell

/-- One accumulator channel (R8): the bits last written, and whether they are a carry or borrow (R154, R155). -/
structure AccChannel where
  bits : QWord
  carry : Bool
deriving DecidableEq, Repr

/-- Run state of a thread (R13): none resident, running, waiting for notification `n0.k`, ended. -/
inductive RunState
  | absent
  | running
  | waiting (k : Fin 4)
  | ended
deriving DecidableEq, Repr

/-- The state of one EU thread (R4-R13). `codeHigh` is the Kernel Start Pointer High of its descriptor (R484), which the 32
bits of `ip` do not hold; `asked` and `born` are the model's own: the draw numbers at the request of its dispatch and at the
dispatch (R28, R590, log 54). -/
structure Thread where
  grf : Vector HWord 128
  a0 : Vector (BitVec 16) 8
  acc : Vector AccChannel 32
  flag : Vector DWord 2
  sp : QWord
  sr0 : Vector DWord 4
  cr0 : Vector DWord 3
  n0 : Vector DWord 4
  ip : DWord
  tdr0 : Vector (BitVec 16) 8
  tm0 : Vector DWord 4
  dbg0 : Vector DWord 2
  dmask : DWord
  vmask : DWord
  pcip : Vector DWord 32
  sb : BitVec 128
  run : RunState
  priority : Bool
  fftid : BitVec 8
  tid : Nat
  group : Option Nat
  scratch : BitVec 4
  bindingTable : DWord
  samplerTable : DWord
  urbHandle : Bool
  codeHigh : BitVec 16
  asked : Nat
  born : Nat
deriving DecidableEq, Repr

/-- A thread group: shared local memory and barrier (R14, R15). -/
structure Group where
  id : Nat
  slmSize : Nat
  slm : Store
  barrier : Bool
  count : Nat
  expected : Nat
deriving DecidableEq, Repr

/-- Context registers: base addresses and buffer sizes (R21), and the system instruction pointer (R9). -/
structure Context where
  generalBase : BitVec 48
  surfaceBase : BitVec 48
  dynamicBase : BitVec 48
  instructionBase : BitVec 48
  indirectBase : BitVec 48
  bindlessBase : BitVec 48
  generalSize : BitVec 48
  surfaceSize : BitVec 48
  dynamicSize : BitVec 48
  instructionSize : BitVec 48
  indirectSize : BitVec 48
  bindlessSize : BitVec 48
  sip : DWord
deriving DecidableEq, Repr

/-- One INTERRUPT register group with its hidden second-pending bits (R575, R576). -/
structure Irq where
  isr : DWord
  imr : DWord
  iir : DWord
  ier : DWord
  iir2 : DWord
deriving DecidableEq, Repr

/-- The command streamers (R547). -/
inductive EngineId | rcs | bcs | vcs | vcs2 | vecs
deriving DecidableEq, Repr

/-- The display-engine interrupt groups the sources name (10_state.md section 4). -/
inductive DisplayUnit | pipeA | pipeB | pipeC | port | gtc | srd | audio
deriving DecidableEq, Repr

/-- The state of a context that is not current (R18): what its restore brings back. Where the context image in memory holds
it is not in the sources (log 54). -/
structure ContextImage where
  lrca : BitVec 20
  ringHead : DWord
  ringTail : DWord
  ctxTimestamp : QWord
  pdp : Vector QWord 4
  ctx : Context
deriving DecidableEq, Repr

/-- Whose access a translation fault stops (R548, R567). -/
inductive FaultSource
  | thread (tid : Nat)
  | streamer
  | vertexFetch
deriving DecidableEq, Repr

/-- An access that waits for its translation: the Context ID and the source (R548). -/
structure PendingFault where
  context : DWord
  source : FaultSource
deriving DecidableEq, Repr

/-- One engine (10_state.md section 3); `lrca` is the Logical Ring Context Address of the last context (R565),
`execlistEnable` and `inhibitSwitch` the Exec-List Enable and Inhibit Synchronous Context Switch bits (R558-R562),
`semaphoreWaiting` a semaphore wait that is not satisfied, `faults` the accesses that wait for a translation (R548),
`clockGateA` and `clockGateB` the two Clock Gating Disable bits (R563, R564). -/
structure Engine where
  irq : Irq
  eir : DWord
  emr : DWord
  esr : DWord
  engineMask : DWord
  hwstam : DWord
  hwsPga : DWord
  ccid : Option QWord
  execlist : List QWord
  pendingList : List QWord
  csbLast : Nat
  ringHead : DWord
  ringTail : DWord
  ctxTimestamp : QWord
  pdp : Vector QWord 4
  batchPrivileged : Bool
  stuck : Bool
  timeoutCounter : DWord
  timeoutThreshold : DWord
  lrca : Option (BitVec 20)
  images : List ContextImage
  execlistEnable : Bool
  inhibitSwitch : Bool
  semaphoreWaiting : Bool
  faults : List PendingFault
  clockGateA : Bool
  clockGateB : Bool
deriving DecidableEq, Repr

/-- The blitter's working registers BR00..BR30 (R496-R518). -/
structure Blitter where
  br : Vector DWord 31
  stuck : Bool
deriving DecidableEq, Repr

/-- Device-level registers (10_state.md section 4). `faultRepair` is the Fault Repair Mode (R561); `vblankToCs`, `vblankToBcs`
are DE_RR_DEST, `stereoRight` is STEREO3D_EVENT_MASK, `responseCs` and `responseBcs` the Render Response Registers of the two
destinations (R571). -/
structure Device where
  masterEnable : Bool
  pipeA : Irq
  pipeB : Irq
  pipeC : Irq
  port : Irq
  gtc : Irq
  srd : Irq
  audio : Irq
  audioPower : BitVec 2
  powerClock : DWord
  timestamp : QWord
  gpuTicks : DWord
  cntA : Vector (BitVec 40) 36
  cntB : Vector DWord 8
  cntC : Vector DWord 8
  responseCs : DWord
  responseBcs : DWord
  vblankToCs : Bool
  vblankToBcs : Bool
  stereoRight : Bool
  faultRepair : Bool
  mmio : List (Nat × DWord)
deriving DecidableEq, Repr


/-- A register of a response: its value, and the bytes that the response does not write (R239, R246), a bit each. -/
structure ResponseReg where
  value : HWord
  keeps : DWord
deriving DecidableEq, Repr

/-- A response of a shared function that has not arrived (R12, R135): the thread, the first register, the registers, and the
bytes of the register file written meanwhile by an instruction that did not check (R587). -/
structure Response where
  tid : Nat
  base : Nat
  data : List ResponseReg
  raced : BitVec 4096
deriving DecidableEq, Repr

/-- An interrupt register group (R549). -/
inductive IrqGroup
  | engine (e : EngineId)
  | display (u : DisplayUnit)
deriving DecidableEq, Repr

/-- The writable registers of a group (R575). -/
inductive IrqReg | imr | iir | ier
deriving DecidableEq, Repr

/-- The other engine registers the host writes (R547, R549, R574, R568, R551, R550). -/
inductive EngineReg
  | emr | eir | engineMask | hwstam | hwsPga | ringHead | ringTail | pdp (k : Fin 4) | timeoutThreshold
  | execlistEnable | inhibitSwitch
deriving DecidableEq, Repr

/-- The reason of a context switch (R569). -/
inductive SwitchReason
  | complete
  | preempted
  | semaphore (poll : Bool)
  | scanline (plane : BitVec 7)
  | vblank (pipe : BitVec 7)
  | syncFlip (plane : BitVec 7)
deriving DecidableEq, Repr

/-- A request to dispatch a media thread, or (`gpgpu`) a whole thread group, from an interface descriptor (R484, R485).
What the commands of the absent volumes carry is here: the descriptor's index and array offset, the URB row of the constant
data, the dispatch masks, the header r0, other payload, the thread's position and identity, and whether it is a child
thread. -/
structure DispatchRequest where
  gpgpu : Bool
  table : DWord
  index : Nat
  curbe : Nat
  dmask : DWord
  vmask : DWord
  header : HWord
  payload : List HWord
  x : Int
  y : Int
  useScoreboard : Bool
  fftid : BitVec 8
  scratch : BitVec 4
  child : Bool
deriving DecidableEq, Repr

/-- A dispatch that is held back (R494, R554): the request, the draw number when it was made (R28), and of a thread group of
which some threads have been dispatched, the first thread that has not and the group. -/
structure HeldDispatch where
  request : DispatchRequest
  asked : Nat
  first : Nat
  group : Option Nat
deriving DecidableEq, Repr

/-- A thread a Spawn Thread message asks for (R221): a root or a child thread, with the payload of the message. -/
structure Spawn where
  root : Bool
  payload : List HWord
deriving DecidableEq, Repr

/-- The media front end: VFE_STATE_EX, the stalling scoreboard's threads, the dispatches held back, the hang of R592
(R494), and the threads the thread spawner has been asked for (R221). -/
structure Media where
  vfe : Vector DWord 8
  live : List (Int × Int × Nat)
  waiting : List HeldDispatch
  scoreStuck : Bool
  spawns : List Spawn
deriving DecidableEq, Repr

/-- One of the 33 vertex buffers (R426): what the last VERTEX_BUFFER_STATE with its index left. -/
structure VertexBuffer where
  addr : BitVec 48
  pitch : BitVec 12
  size : DWord
  isNull : Bool
  mocs : BitVec 7
deriving DecidableEq, Repr

/-- Who has stored a byte (R22, R27, R28): a thread's data-port message (`nc`: by a non-coherent access); the host processor,
whose store no flush command has followed yet; an engine, or the host before a flush. -/
inductive Writer
  | thread (tid : Nat) (nc : Bool)
  | cpu
  | agent
deriving DecidableEq, Repr

/-- How an access is kept coherent (R22, R27, R448): with every other; not with other threads (`A32_A64_NC`); with threads but
not with the host processor (a GPU-coherent surface). -/
inductive Coherency | coherent | nonCoherent | gpuCoherent
deriving DecidableEq, Repr

/-- A byte that has been stored, what it was before, who stored it, and the draw number then (R22, R27, R28). -/
structure StoredByte where
  addr : Nat
  old : Byte
  writer : Writer
  stamp : Nat
deriving DecidableEq, Repr

/-- What the outside world does to the machine (R555, R584). -/
inductive HostEvent
  | reset (e : EngineId)
  | resetAll
  | writeIrq (g : IrqGroup) (r : IrqReg) (v : DWord)
  | raise (g : IrqGroup) (conditions : DWord)
  | lower (g : IrqGroup) (conditions : DWord)
  | writeEngine (e : EngineId) (r : EngineReg) (v : QWord)
  | masterEnable (on : Bool)
  | submit (e : EngineId) (d0 d1 : QWord)
  | switchOut (e : EngineId) (why : SwitchReason)
  | reportHead (e : EngineId)
  | parse (e : EngineId) (header : DWord) (privileged : Bool)
  | batch (e : EngineId) (privileged : Bool)
  | loadRegister (e : EngineId) (entry : QWord) (privileged : Bool)
  | mmioWrite (offset : Nat) (v : DWord)
  | pageFault (e : EngineId) (source : FaultSource) (recoverable : Bool)
  | faultFixed (e : EngineId) (fault : PendingFault)
  | faultRepair (on : Bool)
  | userInterrupt (e : EngineId)
  | semaphoreWait (e : EngineId)
  | semaphoreSignal (e : EngineId) (contextId : DWord)
  | flushNotify (e : EngineId) (store : Option (Nat × QWord))
  | flush
  | report (addr : Nat) (rptId : DWord) (only : Option DWord)
  | powerClock (v : DWord)
  | clockGate (e : EngineId) (second : Bool) (disable : Bool)
  | audioPower (v : BitVec 2)
  | setContext (c : Context)
  | writeMemory (addr : Nat) (bytes : List Byte)
  | writeBlitter (n : Fin 31) (v : DWord)
  | blitImmediate (n : Fin 31) (v : DWord) (data : List Byte)
  | vfeState (v : Vector DWord 8)
  | vertexBuffer (v : Vector DWord 4)
  | dispatch (d : DispatchRequest)
  | notify (tid : Nat) (k : Fin 4)
  | renderResponse (bits : DWord) (toBcs : Bool) (eye : Option Bool)
  | renderResponseControl (vblankToCs vblankToBcs stereoRight : Bool)
deriving DecidableEq, Repr

/-- The machine. `stores`, `draws` and `nextTid` are the model's own (logs 5, 54). -/
structure State where
  eu : Thread
  parked : List Thread
  groups : List Group
  mem : Memory
  urb : Store
  pending : List Response
  ctx : Context
  rcs : Engine
  bcs : Engine
  vcs : Engine
  vcs2 : Engine
  vecs : Engine
  blt : Blitter
  dev : Device
  media : Media
  vertexBuffers : Vector VertexBuffer 33
  inputs : List HostEvent
  stores : List StoredByte
  draws : Nat
  nextTid : Nat
deriving DecidableEq, Repr

/-- No thread: every register at the value log 1 names (R585: none resident). -/
def Thread.none : Thread where
  grf := Vector.replicate 128 0#256
  a0 := Vector.replicate 8 0#16
  acc := Vector.replicate 32 ⟨0#64, false⟩
  flag := Vector.replicate 2 0#32
  sp := 0#64
  sr0 := Vector.replicate 4 0#32
  cr0 := Vector.replicate 3 0#32
  n0 := Vector.replicate 4 0#32
  ip := 0#32
  tdr0 := Vector.replicate 8 0#16
  tm0 := Vector.replicate 4 0#32
  dbg0 := Vector.replicate 2 0#32
  dmask := 0#32
  vmask := 0#32
  pcip := Vector.replicate 32 0#32
  sb := 0#128
  run := .absent
  priority := false
  fftid := 0#8
  tid := 0
  group := .none
  scratch := 0#4
  bindingTable := 0#32
  samplerTable := 0#32
  urbHandle := false
  codeHigh := 0#16
  asked := 0
  born := 0

/-- INTERRUPT after reset (R575: 0, FFFFFFFFh, 0, 0; R585). -/
def Irq.reset : Irq := { isr := 0#32, imr := 0xFFFFFFFF#32, iir := 0#32, ier := 0#32, iir2 := 0#32 }

/-- The bits of an engine's error registers that need not be zero: of the render engine's 32 all but 31:8 and 1 (R573), of
the others' 16 bits 2 and 0 (R557, R582, R583). -/
def EngineId.errorBits : EngineId → DWord
  | .rcs => 0x000000FD#32
  | .bcs | .vcs | .vcs2 | .vecs => 0x00000005#32

/-- An engine after reset (R18, R584, R585): in the error mask every bit that need not be zero is set (R585: all masked). -/
def Engine.reset (e : EngineId) : Engine where
  irq := Irq.reset
  eir := 0#32
  emr := e.errorBits
  esr := 0#32
  engineMask := 0xFFFFFFFF#32
  hwstam := 0xFFFFFFFF#32
  hwsPga := 0#32
  ccid := .none
  execlist := []
  pendingList := []
  csbLast := 0
  ringHead := 0#32
  ringTail := 0#32
  ctxTimestamp := 0#64
  pdp := Vector.replicate 4 0#64
  batchPrivileged := false
  stuck := false
  timeoutCounter := 0#32
  timeoutThreshold := 0#32
  lrca := .none
  images := []
  execlistEnable := false
  inhibitSwitch := false
  semaphoreWaiting := false
  faults := []
  clockGateA := false
  clockGateB := false

/-- The blitter after reset (R18, R585). -/
def Blitter.reset : Blitter := { br := Vector.replicate 31 0#32, stuck := false }

/-- Device registers after reset (R18, R585). -/
def Device.reset : Device where
  masterEnable := false
  pipeA := Irq.reset
  pipeB := Irq.reset
  pipeC := Irq.reset
  port := Irq.reset
  gtc := Irq.reset
  srd := Irq.reset
  audio := Irq.reset
  audioPower := 3#2
  powerClock := 0x00000088#32
  timestamp := 0#64
  gpuTicks := 0#32
  cntA := Vector.replicate 36 0#40
  cntB := Vector.replicate 8 0#32
  cntC := Vector.replicate 8 0#32
  responseCs := 0#32
  responseBcs := 0#32
  vblankToCs := false
  vblankToBcs := false
  stereoRight := false
  faultRepair := false
  mmio := []

/-- The media front end after reset (R18: defaults of the structure, nothing in flight). -/
def Media.reset : Media := { vfe := Vector.replicate 8 0#32, live := [], waiting := [], scoreStuck := false, spawns := [] }

/-- A vertex buffer after reset (R18: the printed default of the structure). -/
def VertexBuffer.reset : VertexBuffer := { addr := 0#48, pitch := 0#12, size := 0#32, isNull := false, mocs := 0#7 }

/-- Context registers after reset: unspecified by R585, at the value log 1 names. -/
def Context.reset : Context where
  generalBase := 0#48
  surfaceBase := 0#48
  dynamicBase := 0#48
  instructionBase := 0#48
  indirectBase := 0#48
  bindlessBase := 0#48
  generalSize := 0#48
  surfaceSize := 0#48
  dynamicSize := 0#48
  instructionSize := 0#48
  indirectSize := 0#48
  bindlessSize := 0#48
  sip := 0#32

/-- The machine right after reset (R18, R585). -/
def State.reset : State where
  eu := Thread.none
  parked := []
  groups := []
  mem := []
  urb := []
  pending := []
  ctx := Context.reset
  rcs := Engine.reset .rcs
  bcs := Engine.reset .bcs
  vcs := Engine.reset .vcs
  vcs2 := Engine.reset .vcs2
  vecs := Engine.reset .vecs
  blt := Blitter.reset
  dev := Device.reset
  media := Media.reset
  vertexBuffers := Vector.replicate 33 VertexBuffer.reset
  inputs := []
  stores := []
  draws := 0
  nextTid := 0

end Sys2Proof.Machine
end

