-- ==== Sys2Proof/Machine/Ops.lean ====
section
/-! DEFINITION. The named operations over memory, on-chip stores and registers, taking an exception, and returning from
one. -/

namespace Sys2Proof.Machine

/-- What ends an instruction before its next state. -/
inductive Stop
  | fault (f : Fault)
  | refuse (r : Refusal)
deriving DecidableEq, Repr

/-- A part of an instruction's meaning. -/
abbrev Exec (α : Type) := Except Stop α

/-- The outcome of a whole instruction. -/
def Exec.outcome : Exec State → Host.Outcome State Fault Refusal
  | .ok s => .next s
  | .error (.fault f) => .fault f
  | .error (.refuse r) => .refused r

/-- R1 and 93_implementation_defined.md: refuse, by name, unless a condition holds. -/
def require (ok : Bool) (r : Refusal) : Exec Unit := if ok then .ok () else .error (.refuse r)

/-- Refuse, by name. -/
def refuse {α : Type} (r : Refusal) : Exec α := .error (.refuse r)

/-- The first error of a list, or all its values. -/
def sequence {α : Type} : List (Exec α) → Exec (List α)
  | [] => .ok []
  | x :: xs =>
    match x with
    | .error e => .error e
    | .ok a =>
      match sequence xs with
      | .error e => .error e
      | .ok as => .ok (a :: as)

/-- One past the last byte address (R38). -/
def addressLimit : Nat := 2 ^ 48

/-- A thread that is resident: it has been dispatched and has not ended. -/
def Thread.resident (t : Thread) : Bool :=
  match t.run with
  | .running | .waiting _ => true
  | .absent | .ended => false

/-- The number of resident threads. -/
def State.resident (s : State) : Nat := (s.eu :: s.parked).countP Thread.resident

/-! ### Graphics memory -/

/-- What an address that no write has listed reads as: DESIGN CHOICE 0 (R18: memory is owned by the host), log 4. -/
def memoryFill : Byte := 0#8

/-- One byte of graphics memory (R19). -/
def Memory.read (m : Memory) (a : Nat) : Byte :=
  match m with
  | [] => memoryFill
  | (k, v) :: t => if a = k then v else Memory.read t a

/-- Graphics memory after a write of one byte, in canonical form. -/
def Memory.write (m : Memory) (a : Nat) (v : Byte) : Memory :=
  match m with
  | [] => if v = memoryFill then [] else [(a, v)]
  | (k, w) :: t =>
    if a < k then (if v = memoryFill then (k, w) :: t else (a, v) :: (k, w) :: t)
    else if a = k then (if v = memoryFill then t else (a, v) :: t)
    else (k, w) :: Memory.write t a v

/-- The canonical form from an address on: rising, below 2^48, no entry equal to what an unlisted address reads as. -/
def Memory.wfFrom (lo : Nat) : Memory → Bool
  | [] => true
  | (k, v) :: t => decide (lo ≤ k) && decide (k < addressLimit) && v != memoryFill && Memory.wfFrom (k + 1) t

/-- The canonical form of graphics memory. -/
def Memory.wf (m : Memory) : Bool := Memory.wfFrom 0 m

/-- `n` bytes from address `a` as one number, least significant first (R2, R24). -/
def Memory.readLE (m : Memory) (a : Nat) : Nat → Nat
  | 0 => 0
  | n + 1 => (Memory.read m a).toNat + 256 * Memory.readLE m (a + 1) n

/-- The low `n` bytes of a number stored from address `a`, least significant first (R2, R24). -/
def Memory.writeLE (m : Memory) (a v : Nat) : Nat → Memory
  | 0 => m
  | n + 1 => Memory.writeLE (Memory.write m a (BitVec.ofNat 8 v)) (a + 1) (v / 256) n

/-- Bytes stored from address `a`. -/
def Memory.writeBytes (m : Memory) (a : Nat) : List Byte → Memory
  | [] => m
  | b :: bs => Memory.writeBytes (Memory.write m a b) (a + 1) bs

/-- R38, R568: every byte of an access must exist, below the limit of who accesses it. -/
def checkBelow (limit a n : Nat) : Exec Unit :=
  if a + n ≤ limit then .ok () else .error (.fault (.outsideAddressSpace a))

/-- R38: every byte of an access must exist. -/
def checkAddress (a n : Nat) : Exec Unit := checkBelow addressLimit a n

/-! ### Accesses of EU threads to graphics memory -/

/-- Whether the addresses of a descriptor's context have 32 bits (R19, R565, R568): in the legacy mode without 64-bit addresses,
and in either legacy mode where Privilege Access (bit 8) is clear, so that the PPGTT is off and the GGTT translates. -/
def narrowContext (d : QWord) : Bool := d.getLsbD 3 && (!d.getLsbD 4 || !d.getLsbD 8)

/-- One past the last address of an engine's current context (R19, R568): 2^32 where its addresses have 32 bits. -/
def Engine.limit (v : Engine) : Nat :=
  match v.ccid with
  | some d => if narrowContext d then 2 ^ 32 else addressLimit
  | none => addressLimit

/-- One past the last address of the current render context. -/
def State.limit (s : State) : Nat := s.rcs.limit

/-- An address made of a base and offsets (R21, R38): a sum at or above 2^48 is refused, an address the context does not
have faults (R19, R568). -/
def State.checkAccess (s : State) (a n : Nat) : Exec Unit := do
  require (decide (a + n ≤ addressLimit)) .addressSum
  checkBelow s.limit a n

/-- What is remembered of a store of `n` bytes: each byte before it, and who stored (R27, R28). -/
def State.record (s : State) (w : Writer) (a n : Nat) : List StoredByte :=
  (List.range n).map (fun k => ⟨a + k, Memory.read s.mem (a + k), w, s.draws⟩) ++ s.stores

/-- The state after the low `n` bytes of a number are stored. -/
def State.storeAs (s : State) (w : Writer) (a n v : Nat) : State :=
  { s with mem := Memory.writeLE s.mem a v n, stores := s.record w a n }

/-- The state after a data-port message of the current thread stores the low `n` bytes of a number. -/
def State.store (s : State) (c : Coherency) (a n v : Nat) : State :=
  s.storeAs (.thread s.eu.tid (c == .nonCoherent)) a n v

/-- Whether a read of byte `a` by the current thread races with a store (R22, R27 item 5): another thread's to the 64-byte
line, one of the two accesses non-coherent; or the host's to the byte, without a flush, of a GPU-coherent surface. -/
def StoredByte.races (b : StoredByte) (tid : Nat) (c : Coherency) (a : Nat) : Bool :=
  match b.writer with
  | .thread t nc => t != tid && (nc || c == .nonCoherent) && b.addr / 64 == a / 64
  | .cpu => c == .gpuCoherent && b.addr == a
  | .agent => false

/-- Whether a read by the current thread races. -/
def State.raced (s : State) (c : Coherency) (a : Nat) : Bool := s.stores.any fun b => b.races s.eu.tid c a

/-- The values that have been written to a byte, the present one first (R27 item 5). -/
def State.valuesAt (s : State) (a : Nat) : List Byte :=
  Memory.read s.mem a :: (s.stores.filter fun b => b.addr == a).map fun b => b.old

/-- A byte a data-port message reads: the byte in memory, or where the read races a draw from the values written (R27 item 5,
93 section 1.1; log 54). -/
def State.loadByte (s : State) (c : Coherency) (a : Nat) : Byte :=
  if s.raced c a then
    (s.valuesAt a).getD ((Config.free s.draws a 29).toNat % (s.valuesAt a).length) (Memory.read s.mem a)
  else Memory.read s.mem a

/-- `n` bytes a data-port message reads as one number, least significant first (R2, R24). -/
def State.load (s : State) (c : Coherency) (a : Nat) : Nat → Nat
  | 0 => 0
  | n + 1 => (s.loadByte c a).toNat + 256 * s.load c (a + 1) n

/-- R28, R590: a byte of code that a running thread may fetch: the last to store it was no thread, and nobody has since the
thread's dispatch. -/
def State.fetchable (s : State) (a : Nat) : Bool :=
  let l := s.stores.filter fun b => b.addr == a
  (match l with
    | ⟨_, _, .thread _ _, _⟩ :: _ => false
    | _ => true) && l.all fun b => decide (b.stamp ≤ s.eu.born)

/-- Whether one of `n` bytes has been stored since draw `n0`. -/
def State.modifiedSince (s : State) (n0 a n : Nat) : Bool :=
  s.stores.any fun b => decide (a ≤ b.addr) && decide (b.addr < a + n) && decide (n0 < b.stamp)

/-- R28, R590: a state structure that anyone has modified since the current thread was asked for is in use. -/
def State.settled (s : State) (a n : Nat) : Exec Unit := require (!s.modifiedSince s.eu.asked a n) .modifiedInUse

/-- R21, R28: a state structure of `n` bytes that the current thread uses may be read. -/
def State.checkStructure (s : State) (a n : Nat) : Exec Unit := do
  s.checkAccess a n
  s.settled a n

/-! ### On-chip stores -/

/-- One byte of an on-chip store: what was last written, else its initial content (R14, R16). -/
def Store.read (fill : Nat → Byte) (m : Store) (a : Nat) : Byte :=
  match m with
  | [] => fill a
  | (k, v) :: t => if a = k then v else Store.read fill t a

/-- An on-chip store after a write of one byte, addresses rising. -/
def Store.write (m : Store) (a : Nat) (v : Byte) : Store :=
  match m with
  | [] => [(a, v)]
  | (k, w) :: t =>
    if a < k then (a, v) :: (k, w) :: t
    else if a = k then (a, v) :: t
    else (k, w) :: Store.write t a v

/-- `n` bytes of a store as one number, least significant first (R24). -/
def Store.readLE (fill : Nat → Byte) (m : Store) (a : Nat) : Nat → Nat
  | 0 => 0
  | n + 1 => (Store.read fill m a).toNat + 256 * Store.readLE fill m (a + 1) n

/-- The low `n` bytes of a number written to a store. -/
def Store.writeLE (m : Store) (a v : Nat) : Nat → Store
  | 0 => m
  | n + 1 => Store.writeLE (Store.write m a (BitVec.ofNat 8 v)) (a + 1) (v / 256) n

/-- Addresses of a store rise. -/
def Store.wfFrom (lo : Nat) : Store → Bool
  | [] => true
  | (k, _) :: t => decide (lo ≤ k) && Store.wfFrom (k + 1) t

/-! ### General registers (R4) -/

/-- Bytes of the general register file. -/
def grfBytes : Nat := 4096

/-- One byte of the general register file (R4: byte `RegNum*32 + SubRegNum`). -/
def grfByte (g : Vector HWord 128) (a : Nat) : Byte := (g.getD (a / 32) 0#256).extractLsb' (8 * (a % 32)) 8

/-- One byte of a register replaced. -/
def setByte (r : HWord) (k : Nat) (v : Byte) : HWord :=
  (r &&& ~~~(0xFF#256 <<< (8 * k))) ||| (v.setWidth 256 <<< (8 * k))

/-- The general register file after a write of one byte. -/
def grfSetByte (g : Vector HWord 128) (a : Nat) (v : Byte) : Vector HWord 128 :=
  g.setIfInBounds (a / 32) (setByte (g.getD (a / 32) 0#256) (a % 32) v)

/-- `n` bytes of the general register file as one number, least significant first (R24). -/
def grfRead (g : Vector HWord 128) (a : Nat) : Nat → Nat
  | 0 => 0
  | n + 1 => (grfByte g a).toNat + 256 * grfRead g (a + 1) n

/-- The low `n` bytes of a number written to the general register file. -/
def grfWrite (g : Vector HWord 128) (a v : Nat) : Nat → Vector HWord 128
  | 0 => g
  | n + 1 => grfWrite (grfSetByte g a (BitVec.ofNat 8 v)) (a + 1) (v / 256) n

/-- A whole register. -/
def Thread.reg (t : Thread) (r : Nat) : HWord := t.grf.getD r 0#256

/-- The thread after a whole register is written. -/
def Thread.setReg (t : Thread) (r : Nat) (v : HWord) : Thread := { t with grf := t.grf.setIfInBounds r v }

/-- Whole registers written from register `r` on. -/
def Thread.setRegs (t : Thread) (r : Nat) : List HWord → Thread
  | [] => t
  | v :: vs => Thread.setRegs (t.setReg r v) (r + 1) vs

/-- DWord `k` of a register (R24). -/
def dword (r : HWord) (k : Nat) : DWord := r.extractLsb' (32 * k) 32

/-- DWord `k` of a register replaced. -/
def setDword (r : HWord) (k : Nat) (v : DWord) : HWord :=
  (r &&& ~~~(0xFFFFFFFF#256 <<< (32 * k))) ||| (v.setWidth 256 <<< (32 * k))

/-- A bit of a DWord replaced. -/
def setBit (w : DWord) (k : Nat) (b : Bool) : DWord :=
  if b then w ||| (1#32 <<< k) else w &&& ~~~(1#32 <<< k)

/-! ### Architecture registers (R5) -/

/-- Equal words side by side, the first least significant. -/
def packWords {w : Nat} : List (BitVec w) → HWord
  | [] => 0#256
  | x :: xs => (packWords xs <<< w) ||| x.setWidth 256

/-- Word `k` of a packed row. -/
def packedWord (w : Nat) (b : HWord) (k : Nat) : BitVec w := b.extractLsb' (w * k) w

/-- `ce0` (R5): the channels enabled for the current instruction: dispatched, and at the thread's instruction (R11). -/
def Thread.ce0 (t : Thread) : DWord :=
  (List.range 32).foldl (fun m n => setBit m n (t.dmask.getLsbD n && t.pcip.getD n 0#32 == t.ip)) 0#32

/-- The content of an architecture register and its size in bytes (R5); none where the table has no readable register. The
null register and the accumulator are read elsewhere. -/
def archRead (t : Thread) (reg : BitVec 8) : Option (HWord × Nat) :=
  let num := (reg.extractLsb' 0 4).toNat
  match (reg.extractLsb' 4 4).toNat with
  | 0x1 => if num = 0 then some (packWords t.a0.toList, 16) else none
  | 0x3 => if num < 2 then some ((t.flag.getD num 0#32).setWidth 256, 4) else none
  | 0x4 => if num = 0 then some (t.ce0.setWidth 256, 4) else none
  | 0x6 => if num = 0 then some (t.sp.setWidth 256, 8) else none
  | 0x7 => if num = 0 then some (packWords t.sr0.toList, 16) else none
  | 0x8 => if num = 0 then some (packWords t.cr0.toList, 12) else none
  | 0x9 => if num = 0 then some (packWords t.n0.toList, 16) else none
  | 0xA => if num = 0 then some (t.ip.setWidth 256, 4) else none
  | 0xB => if num = 0 then some (packWords t.tdr0.toList, 16) else none
  | 0xC => if num = 0 then some (packWords t.tm0.toList, 16) else none
  | 0xD => if num < 4 then some (packWords ((t.pcip.toList.drop (8 * num)).take 8), 32) else none
  | 0xF => if num = 0 then some (packWords t.dbg0.toList, 8) else none
  | _ => none

/-- The thread after an architecture register's content is replaced (R5); none where the table has no writable register
(`ce0` is read-only). A write to `sr0` changes its DWords only: the masks that R11 uses are the dispatched ones, and R5 does
not say that a write changes them (DESIGN CHOICE, log 52). -/
def archWrite (t : Thread) (reg : BitVec 8) (b : HWord) : Option Thread :=
  let num := (reg.extractLsb' 0 4).toNat
  match (reg.extractLsb' 4 4).toNat with
  | 0x1 => if num = 0 then some { t with a0 := Vector.ofFn fun i => packedWord 16 b i } else none
  | 0x3 => if num < 2 then some { t with flag := t.flag.setIfInBounds num (packedWord 32 b 0) } else none
  | 0x6 => if num = 0 then some { t with sp := packedWord 64 b 0 } else none
  | 0x7 => if num = 0 then some { t with sr0 := Vector.ofFn fun i => packedWord 32 b i } else none
  | 0x8 => if num = 0 then some { t with cr0 := Vector.ofFn fun i => packedWord 32 b i } else none
  | 0x9 => if num = 0 then some { t with n0 := Vector.ofFn fun i => packedWord 32 b i } else none
  | 0xA => if num = 0 then some { t with ip := packedWord 32 b 0 } else none
  | 0xB => if num = 0 then some { t with tdr0 := Vector.ofFn fun i => packedWord 16 b i } else none
  | 0xC => if num = 0 then some { t with tm0 := Vector.ofFn fun i => packedWord 32 b i } else none
  | 0xD =>
    if num < 4 then
      some { t with pcip := Vector.ofFn fun i =>
        if i.val / 8 = num then packedWord 32 b (i.val % 8) else t.pcip.getD i.val 0#32 }
    else none
  | 0xF => if num = 0 then some { t with dbg0 := Vector.ofFn fun i => packedWord 32 b i } else none
  | _ => none

/-! ### Instruction pointer (R9, R96, R99) -/

/-- Address of the next instruction; past 2^32 it is refused (R9). -/
def nextIp (ip : DWord) (len : Nat) : Exec DWord := do
  require (decide (ip.toNat + len < 2 ^ 32)) .branchTarget
  return BitVec.ofNat 32 (ip.toNat + len)

/-- A branch target: base plus signed offset, a multiple of 8 inside the 2^32 space (R9, R99, 93 section 1.2). -/
def branchTarget (base : DWord) (off : Int) : Exec DWord := do
  let a := (base.toNat : Int) + off
  require (decide (0 ≤ a) && decide (a < 2 ^ 32) && decide (a % 8 = 0)) .branchTarget
  return BitVec.ofInt 32 a

/-- Every channel at address `old` moved to `new` (R96, last lines). -/
def movePcip (p : Vector DWord 32) (old new : DWord) : Vector DWord 32 :=
  p.map fun x => if x = old then new else x

/-- The thread past an instruction at its `ip`: every channel there follows (R96). -/
def Thread.goto (t : Thread) (new : DWord) : Thread :=
  { t with pcip := movePcip t.pcip t.ip new, ip := new }

/-- The thread past an instruction of `len` bytes (R96). -/
def Thread.advance (t : Thread) (len : Nat) : Exec Thread := do
  return t.goto (← nextIp t.ip len)

/-! ### EU exceptions (R543-R546) -/

/-- The exceptions of an EU thread (R543). -/
inductive EuException | breakpoint | illegalOpcode | maskStack | software
deriving DecidableEq, Repr

/-- The status bit in `cr0.1` (R543). -/
def EuException.status : EuException → Nat
  | .breakpoint => 15
  | .maskStack => 27
  | .illegalOpcode => 28
  | .software => 29

/-- Whether an exception is enabled (R543): by `cr0.1`, the breakpoint always. -/
def EuException.enabled (e : EuException) (t : Thread) : Bool :=
  match e with
  | .breakpoint => true
  | .maskStack => (t.cr0.getD 1 0#32).getLsbD 11
  | .illegalOpcode => (t.cr0.getD 1 0#32).getLsbD 12
  | .software => (t.cr0.getD 1 0#32).getLsbD 13

/-- `cr0.0[31]`: the thread is in the system routine (R544). -/
def Thread.inRoutine (t : Thread) : Bool := (t.cr0.getD 0 0#32).getLsbD 31

/-- A bit of `cr0` replaced. -/
def Thread.setCr0Bit (t : Thread) (k bit : Nat) (b : Bool) : Thread :=
  { t with cr0 := t.cr0.setIfInBounds k (setBit (t.cr0.getD k 0#32) bit b) }

/-- R544, the jump to the system routine: `cr0.2` takes `ip`, `cr0.0[31]` is set, `ip` goes to `sip`. -/
def Thread.enterRoutine (t : Thread) (sip : DWord) : Thread :=
  let u := { t with cr0 := t.cr0.setIfInBounds 2 t.ip }
  { u.setCr0Bit 0 31 true with ip := sip }

/-- R544: taking an exception: its status bit is set; outside the system routine the routine is entered. -/
def Thread.takeException (t : Thread) (sip : DWord) (e : EuException) : Thread :=
  let u := t.setCr0Bit 1 e.status true
  if t.inRoutine then u else u.enterRoutine sip

/-- The pending exceptions of `cr0.1`, lowest status bit first (R545). -/
def Thread.pendingException (t : Thread) : Bool :=
  let c := t.cr0.getD 1 0#32
  c.getLsbD 15 || c.getLsbD 27 || c.getLsbD 28 || c.getLsbD 29

/-- R545: returning from the system routine: `ip` takes `cr0.2`, or the routine is entered again for a pending
exception. -/
def Thread.returnFromRoutine (t : Thread) (sip : DWord) : Thread :=
  let u := { t with ip := t.cr0.getD 2 0#32 }
  if t.pendingException then u.enterRoutine sip else u

/-- What a write to `cr0` sets off after the instruction (R545, R543): the write of 0 to `cr0.0[31]` returns from the
routine; a software exception newly requested in `cr0.1[29]` is taken if it is enabled (log 11). -/
def Thread.afterControlWrite (before t : Thread) (sip : DWord) : Thread :=
  if before.inRoutine && !t.inRoutine then t.returnFromRoutine sip
  else if (t.cr0.getD 1 0#32).getLsbD 29 && !(before.cr0.getD 1 0#32).getLsbD 29 && EuException.software.enabled t then
    t.takeException sip .software
  else t

/-! ### Free values -/

/-- The free value of a channel and purpose at this point of the run (R96 `draw`). -/
def State.draw (s : State) (chan purpose : Nat) : QWord := Config.free s.draws chan purpose

end Sys2Proof.Machine
end

