-- ==== Sys2Proof/Machine/Float.lean ====
section
/-! DEFINITION. IEEE-754 arithmetic on operand bits (R97): exact values of integers, one rounding at the end. -/

namespace Sys2Proof.Machine

/-- The floating-point formats (R97). -/
inductive Fmt | hf | f | df
deriving DecidableEq, Repr

/-- Exponent bits. -/
def Fmt.ebits : Fmt → Nat
  | .hf => 5
  | .f => 8
  | .df => 11

/-- Fraction bits. -/
def Fmt.mbits : Fmt → Nat
  | .hf => 10
  | .f => 23
  | .df => 52

/-- Width in bits. -/
def Fmt.width (p : Fmt) : Nat := 1 + p.ebits + p.mbits

/-- Exponent of the smallest normal number. -/
def Fmt.emin (p : Fmt) : Int := 2 - 2 ^ (p.ebits - 1)

/-- Rounding modes (R10). -/
inductive Rounding | nearestEven | up | down | zero
deriving DecidableEq, Repr

/-- The floating-point controls of a thread: rounding, and which formats keep denormals (R10). -/
structure FloatEnv where
  rounding : Rounding
  keepF : Bool
  keepDf : Bool
  keepHf : Bool
deriving DecidableEq, Repr

/-- Whether denormals of a format are kept (R10). -/
def FloatEnv.keep (v : FloatEnv) : Fmt → Bool
  | .f => v.keepF
  | .df => v.keepDf
  | .hf => v.keepHf

/-- The rounding mode code (R10). -/
def Rounding.ofCode (c : BitVec 2) : Rounding :=
  match c.toNat with
  | 0 => .nearestEven
  | 1 => .up
  | 2 => .down
  | _ => .zero

/-- The floating-point controls in `cr0.0` (R10). -/
def Thread.floatEnv (t : Thread) : FloatEnv :=
  let c := t.cr0.getD 0 0#32
  { rounding := Rounding.ofCode (c.extractLsb' 4 2), keepF := c.getLsbD 7, keepDf := c.getLsbD 6, keepHf := c.getLsbD 10 }

/-- ALT floating-point mode (R97: refused). -/
def Thread.alt (t : Thread) : Bool := (t.cr0.getD 0 0#32).getLsbD 0

/-- What a bit pattern stands for: a finite value is `(-1)^neg * m * 2^e`. -/
inductive Num
  | nan
  | inf (neg : Bool)
  | fin (neg : Bool) (m : Nat) (e : Int)
deriving DecidableEq, Repr

/-- The sign bit of a pattern. -/
def signBit (p : Fmt) (b : Nat) : Bool := b / 2 ^ (p.width - 1) % 2 == 1

/-- The value of a bit pattern. -/
def decodeFloat (p : Fmt) (b : Nat) : Num :=
  let frac := b % 2 ^ p.mbits
  let ex := b / 2 ^ p.mbits % 2 ^ p.ebits
  let neg := signBit p b
  if ex = 2 ^ p.ebits - 1 then (if frac = 0 then .inf neg else .nan)
  else if ex = 0 then .fin neg frac (p.emin - p.mbits)
  else .fin neg (2 ^ p.mbits + frac) (p.emin - p.mbits + (ex - 1 : Int))

/-- The pattern with a sign and a magnitude. -/
def withSign (p : Fmt) (neg : Bool) (mag : Nat) : Nat := (if neg then 2 ^ (p.width - 1) else 0) + mag

/-- The magnitude of infinity. -/
def infMag (p : Fmt) : Nat := (2 ^ p.ebits - 1) * 2 ^ p.mbits

/-- A quiet NaN with the sign and payload of a free value (R97). -/
def quietNan (p : Fmt) (free : QWord) : Nat :=
  withSign p (free.getLsbD 63) (infMag p + 2 ^ (p.mbits - 1) + free.toNat % 2 ^ (p.mbits - 1))

/-- Whether a pattern is a denormal number (not a zero). -/
def isDenormal (p : Fmt) (b : Nat) : Bool := b / 2 ^ p.mbits % 2 ^ p.ebits == 0 && b % 2 ^ p.mbits != 0

/-- Whether a pattern is a NaN. -/
def isNan (p : Fmt) (b : Nat) : Bool := decodeFloat p b == .nan

/-- Denormals to a zero of the same sign where the mode says so (R97). -/
def flush (v : FloatEnv) (p : Fmt) (b : Nat) : Nat :=
  if !v.keep p && isDenormal p b then withSign p (signBit p b) 0 else b

/-- Whether a magnitude is rounded away from zero: kept part, dropped part and half of the dropped part's unit. -/
def roundsUp (r : Rounding) (neg : Bool) (kept dropped half : Nat) : Bool :=
  match r with
  | .nearestEven => decide (dropped > half) || (dropped == half && kept % 2 == 1)
  | .up => !neg && dropped != 0
  | .down => neg && dropped != 0
  | .zero => false

/-- The magnitude on overflow (IEEE-754): infinity, or the largest finite number. -/
def overflowMag (p : Fmt) (r : Rounding) (neg : Bool) : Nat :=
  match r with
  | .nearestEven => infMag p
  | .up => if neg then infMag p - 1 else infMag p
  | .down => if neg then infMag p else infMag p - 1
  | .zero => infMag p - 1

/-- The pattern of `(-1)^neg * m * 2^e`, rounded once. -/
def roundFloat (p : Fmt) (r : Rounding) (neg : Bool) (m : Nat) (e : Int) : Nat :=
  if m = 0 then withSign p neg 0
  else
    let low := p.emin - p.mbits
    let q := max (e + (Nat.log2 m : Int) - p.mbits) low
    let mag :=
      if q ≤ e then m * 2 ^ (e - q).toNat
      else
        let s := (q - e).toNat
        let kept := m / 2 ^ s
        if roundsUp r neg kept (m % 2 ^ s) (2 ^ (s - 1)) then kept + 1 else kept
    let bits := (q - low).toNat * 2 ^ p.mbits + mag
    if bits < infMag p then withSign p neg bits else withSign p neg (overflowMag p r neg)

/-- A result rounded, and flushed if it is denormal and the mode says so (R97). -/
def finish (v : FloatEnv) (p : Fmt) (neg : Bool) (m : Nat) (e : Int) : Nat :=
  flush v p (roundFloat p v.rounding neg m e)

/-- The signed sum of two exact values at a common exponent. -/
def exactSum (n1 : Bool) (m1 : Nat) (e1 : Int) (n2 : Bool) (m2 : Nat) (e2 : Int) : Int × Int :=
  let e := min e1 e2
  let a : Int := (m1 : Int) * 2 ^ (e1 - e).toNat
  let b : Int := (m2 : Int) * 2 ^ (e2 - e).toNat
  ((if n1 then -a else a) + (if n2 then -b else b), e)

/-- The sign of an exact zero sum (R140): positive but for two negative zeros; negative in round-down. -/
def zeroSumSign (r : Rounding) (n1 n2 : Bool) : Bool :=
  if n1 == n2 then n1 else r == .down

/-- The sum of two finite values. -/
def addFinite (v : FloatEnv) (p : Fmt) (n1 : Bool) (m1 : Nat) (e1 : Int) (n2 : Bool) (m2 : Nat) (e2 : Int) : Nat :=
  let (s, e) := exactSum n1 m1 e1 n2 m2 e2
  if s = 0 then withSign p (zeroSumSign v.rounding n1 n2) 0
  else finish v p (decide (s < 0)) s.natAbs e

/-- IEEE addition of two values (R140). -/
def addNum (v : FloatEnv) (p : Fmt) (free : QWord) (x y : Num) : Nat :=
  match x, y with
  | .nan, _ | _, .nan => quietNan p free
  | .inf a, .inf b => if a == b then withSign p a (infMag p) else quietNan p free
  | .inf a, .fin _ _ _ => withSign p a (infMag p)
  | .fin _ _ _, .inf b => withSign p b (infMag p)
  | .fin n1 m1 e1, .fin n2 m2 e2 => addFinite v p n1 m1 e1 n2 m2 e2

/-- The exact product of two values; none for an invalid operation or a NaN. -/
def exactMul (x y : Num) : Option Num :=
  match x, y with
  | .nan, _ | _, .nan => none
  | .inf a, .inf b => some (.inf (a != b))
  | .inf a, .fin b m _ | .fin b m _, .inf a => if m = 0 then none else some (.inf (a != b))
  | .fin a m1 e1, .fin b m2 e2 => some (.fin (a != b) (m1 * m2) (e1 + e2))

/-- A value rounded to a pattern. -/
def roundNum (v : FloatEnv) (p : Fmt) (free : QWord) : Num → Nat
  | .nan => quietNan p free
  | .inf a => withSign p a (infMag p)
  | .fin n m e => finish v p n m e

/-- The value of an operand, denormals flushed where the mode says so (R97). -/
def operandNum (v : FloatEnv) (p : Fmt) (b : Nat) : Num := decodeFloat p (flush v p b)

/-- Float addition (R140). -/
def fadd (v : FloatEnv) (p : Fmt) (free : QWord) (x y : Nat) : Nat :=
  addNum v p free (operandNum v p x) (operandNum v p y)

/-- Float product (R141). -/
def fmul (v : FloatEnv) (p : Fmt) (free : QWord) (x y : Nat) : Nat :=
  match exactMul (operandNum v p x) (operandNum v p y) with
  | none => quietNan p free
  | some z => roundNum v p free z

/-- Float `x * y + z` with one rounding (R164); operands already values, the result in format `p`. -/
def fmaNum (v : FloatEnv) (p : Fmt) (free : QWord) (x y z : Num) : Nat :=
  match exactMul x y with
  | none => quietNan p free
  | some w => addNum v p free w z

/-- The sign of a pattern flipped. -/
def fneg (p : Fmt) (b : Nat) : Nat :=
  if signBit p b then b - 2 ^ (p.width - 1) else b + 2 ^ (p.width - 1)

/-- The sign of a pattern cleared. -/
def fabs (p : Fmt) (b : Nat) : Nat := if signBit p b then b - 2 ^ (p.width - 1) else b

/-- Comparison of two exact values that are not NaNs. -/
def compareNum (x y : Num) : Option Ordering :=
  match x, y with
  | .nan, _ | _, .nan => none
  | .inf a, .inf b => some (if a == b then .eq else if a then .lt else .gt)
  | .inf a, .fin _ _ _ => some (if a then .lt else .gt)
  | .fin _ _ _, .inf b => some (if b then .gt else .lt)
  | .fin n1 m1 e1, .fin n2 m2 e2 =>
    let s := (exactSum n1 m1 e1 (!n2) m2 e2).1
    some (if s < 0 then .lt else if s = 0 then .eq else .gt)

/-- How a float is made integral (R144-R147). -/
inductive ToIntegral | ceil | floor | even | trunc
deriving DecidableEq, Repr

/-- The magnitude of `m * 2^-s` made integral. -/
def integralMag (k : ToIntegral) (neg : Bool) (m s : Nat) : Nat :=
  let q := m / 2 ^ s
  let r := m % 2 ^ s
  match k with
  | .ceil => if !neg && r != 0 then q + 1 else q
  | .floor => if neg && r != 0 then q + 1 else q
  | .even => if roundsUp .nearestEven neg q (2 * r) (2 ^ s) then q + 1 else q
  | .trunc => q

/-- A float made an integral float; zeros and infinities keep their value and sign (R144-R147). -/
def fintegral (v : FloatEnv) (p : Fmt) (free : QWord) (k : ToIntegral) (b : Nat) : Nat :=
  match operandNum v p b with
  | .nan => quietNan p free
  | .inf a => withSign p a (infMag p)
  | .fin n m e =>
    if 0 ≤ e then roundFloat p .zero n m e
    else roundFloat p .zero n (integralMag k n m (-e).toNat) 0

/-- `x - floor(x)` in [0, 1) (R143): a difference that would round up to 1 takes the number below it. -/
def ffrac (v : FloatEnv) (p : Fmt) (free : QWord) (b : Nat) : Nat :=
  match operandNum v p b with
  | .nan | .inf _ => quietNan p free
  | .fin n m e =>
    if 0 ≤ e then withSign p false 0
    else
      let s := (-e).toNat
      let r := m % 2 ^ s
      let frac := if n && r != 0 then 2 ^ s - r else r
      let res := roundFloat p v.rounding false frac e
      flush v p (if decodeFloat p res == decodeFloat p (roundFloat p .zero false 1 0) then
        roundFloat p .zero false frac e else res)

/-- An integer as a float (R97). -/
def ofInteger (v : FloatEnv) (p : Fmt) (i : Int) : Nat := finish v p (decide (i < 0)) i.natAbs 0

/-- A float truncated to an integer; none for a NaN, and an infinity as a bound beyond every type (R97). -/
def toInteger (x : Num) : Option Int :=
  match x with
  | .nan => none
  | .inf a => some (if a then -(2 ^ 2048) else 2 ^ 2048)
  | .fin n m e =>
    let k : Nat := if 0 ≤ e then m * 2 ^ e.toNat else m / 2 ^ (-e).toNat
    some (if n then -(k : Int) else k)

/-- A float of one format as one of another (R97). -/
def convertFloat (v : FloatEnv) (p q : Fmt) (free : QWord) (b : Nat) : Nat :=
  roundNum v q free (operandNum v p b)

/-- A restricted 8-bit float as `:f` bits (R101: 1 sign, 3 exponent with bias 3, 4 fraction bits). -/
def expandVf (b : Byte) : Nat :=
  let mag := b.toNat % 128
  let s := if b.getLsbD 7 then 2 ^ 31 else 0
  if mag = 0 then s else s + (mag / 16 + 124) * 2 ^ 23 + mag % 16 * 2 ^ 19

end Sys2Proof.Machine
end

