-- ==== Sys2Proof/Machine/Operands.lean ====
section
/-! DEFINITION. Operand forms: where an element of a region is, what it reads as, and how a result is stored (R58-R63,
R71, R96, R97). -/

namespace Sys2Proof.Machine

/-- The floating-point format of a type, if it is one. -/
def RType.fmt : RType → Option Fmt
  | .f => some .f
  | .df => some .df
  | .hf => some .hf
  | _ => none

/-- Whether an integer type is signed. -/
def RType.signed : RType → Bool
  | .d | .w | .b | .q => true
  | _ => false

/-- Whether a type is an integer type. -/
def RType.isInt (t : RType) : Bool := (RType.fmt t).isNone

/-- An operand value: an exact integer, or a float's bits (R97). -/
inductive Val
  | int (i : Int)
  | flt (p : Fmt) (b : Nat)
deriving DecidableEq, Repr

/-- An element's bits as a value of a type (R97). -/
def valueOf (ty : RType) (raw : QWord) : Val :=
  match RType.fmt ty with
  | some p => .flt p (raw.toNat % 2 ^ p.width)
  | none =>
    let w := 8 * ty.size
    let n := raw.toNat % 2 ^ w
    if RType.signed ty && n ≥ 2 ^ (w - 1) then .int ((n : Int) - 2 ^ w) else .int n

/-- The low bits of an integer at a type's width. -/
def intBits (ty : RType) (i : Int) : QWord := BitVec.ofNat 64 (i % 2 ^ (8 * ty.size)).toNat

/-! ### Where elements are -/

/-- The place of one element. -/
inductive Place
  | grf (addr : Nat)
  | arch (reg : BitVec 8) (off : Nat)
  | acc (chan : Nat)
  | null
deriving DecidableEq, Repr

/-- The place `off` bytes into a register of a file (R4, R5, R8): inside the general register file, inside an architecture
register, an accumulator channel (log 12), or the null register. -/
def placeAt (t : Thread) (file : RegFile) (reg : BitVec 8) (off size : Nat) : Exec Place :=
  match file with
  | .grf => do
    require (decide (reg.toNat * 32 + off + size ≤ grfBytes)) .outsideGrf
    return .grf (reg.toNat * 32 + off)
  | .arf =>
    match (reg.extractLsb' 4 4).toNat with
    | 0 => .ok .null
    | 2 => do
      let chan := 8 * (reg.extractLsb' 0 4).toNat + off / size
      require (decide ((reg.extractLsb' 0 4).toNat < 2) && decide (chan < 32)) .archRegister
      return .acc chan
    | _ =>
      match archRead t reg with
      | some (_, bytes) => do
        require (decide (off + size ≤ bytes)) .archRegister
        return .arch reg off
      | none => refuse .archRegister

/-- The place `off` bytes past a register-indirect origin (R58, R61, D16): the origin and the element inside the general
register file. D16 makes the origin a byte of the general register file and does not say what a RegFile of ARF means beside it:
refused. R51's "16-byte-aligned addressing" and the zero low bits of the immediate (R59, R62) say nothing of the sum: the
origin of an Align16 operand is the sum as it is, aligned or not (both DESIGN CHOICE, log 57). -/
def placeIndirect (t : Thread) (file : RegFile) (a : Nat) (imm : BitVec 10) (off size : Nat) : Exec Place := do
  require (file == .grf && decide (a < 8)) .archRegister
  let origin := ((t.a0.getD a 0#16).toNat : Int) + imm.toInt
  require (decide (0 ≤ origin) && decide (origin < 4096)) .outsideGrf
  require (decide (origin.toNat + off + size ≤ grfBytes)) .outsideGrf
  return .grf (origin.toNat + off)

/-- Selector `k` of a swizzle (R62). -/
def chanSel (swz : BitVec 8) (k : Nat) : Nat := (swz.extractLsb' (2 * k) 2).toNat

/-- Bytes from the origin of an Align16 group's element to channel `c` (R96, log 13). -/
def align16Offset (vs : Nat) (swz : BitVec 8) (c size : Nat) : Nat :=
  (4 * (c / 4) + chanSel swz (c % 4) + c / 4 * vs) * size

/-- The place of channel `c` of a source (R71, R96). -/
def srcPlace (t : Thread) (s : SrcOp) (c : Nat) : Exec Place :=
  let z := s.ty.size
  match s.region with
  | .align1 vs w hs =>
    let col := c % w.elems * hs.elems
    match s.loc with
    | .direct reg sub => placeAt t s.file reg (sub.toNat + (c / w.elems * vs.elems + col) * z) z
    | .indirect a imm =>
      if vs = .vxh then placeIndirect t s.file (a.toNat + c / w.elems) imm (col * z) z
      else placeIndirect t s.file a.toNat imm ((c / w.elems * vs.elems + col) * z) z
  | .align16 vs swz =>
    match s.loc with
    | .direct reg sub => placeAt t s.file reg (sub.toNat + align16Offset vs.elems swz c z) z
    | .indirect a imm => placeIndirect t s.file a.toNat imm (align16Offset vs.elems swz c z) z

/-- The place of channel `c` of a three-source operand (R63, R96: the origin when replicated, else Align16 with a vertical
stride of 4), whatever the access mode (log 52). -/
def triPlace (t : Thread) (o : TriOp) (ty : RType) (c : Nat) : Exec Place :=
  let off := 2 * o.sub.toNat + (if o.rep then 0 else align16Offset 4 o.swz c ty.size)
  placeAt t .grf o.reg off ty.size

/-- The bits of the element at a place. The null register reads as a free value, an accumulator channel as R8 and R154
say. -/
def readPlace (s : State) (p : Place) (ty : RType) (chan purpose : Nat) : Exec QWord :=
  match p with
  | .grf a => .ok (BitVec.ofNat 64 (grfRead s.eu.grf a ty.size))
  | .arch reg off =>
    match archRead s.eu reg with
    | some (b, _) => .ok (BitVec.ofNat 64 (b.toNat / 2 ^ (8 * off) % 2 ^ (8 * ty.size)))
    | none => refuse .archRegister
  | .acc k =>
    let a := s.eu.acc.getD k ⟨0#64, false⟩
    if a.carry && ty == .ud then .ok a.bits else .ok (Config.accRead a.bits (s.draw chan purpose))
  | .null => .ok (s.draw chan purpose)

/-- The place `off` bytes past a source's origin (R42, R58, R96: no channel selector applies to the origin). -/
def originPlace (t : Thread) (s : SrcOp) (off size : Nat) : Exec Place :=
  match s.loc with
  | .direct reg sub => placeAt t s.file reg (sub.toNat + off) size
  | .indirect a imm => placeIndirect t s.file a.toNat imm off size

/-- The bits of channel `c` of a register source. -/
def readSrc (s : State) (o : SrcOp) (purpose c : Nat) : Exec QWord := do
  readPlace s (← srcPlace s.eu o c) o.ty c purpose

/-- The register type an immediate's elements have (R71, R96, R101). -/
def IType.elem : IType → RType
  | .ud => .ud
  | .d => .d
  | .uw => .uw
  | .w => .w
  | .uv => .uw
  | .vf => .f
  | .v => .w
  | .f => .f
  | .uq => .uq
  | .q => .q
  | .df => .df
  | .hf => .hf

/-- The bits of channel `c` of an immediate (R96; word types in the low half, log 14; 64-bit types, log 15). -/
def immElement (ty : IType) (v : BitVec 32) (c : Nat) : QWord :=
  match ty with
  | .ud | .d | .f => v.setWidth 64
  | .uw | .w | .hf => (v.extractLsb' 0 16).setWidth 64
  | .uv => (v.extractLsb' (4 * (c % 8)) 4).setWidth 64
  | .v => ((v.extractLsb' (4 * (c % 8)) 4).signExtend 16).setWidth 64
  | .vf => BitVec.ofNat 64 (expandVf (v.extractLsb' (8 * (c % 4)) 8))
  | .uq | .q | .df => Config.wideImm ty.code v

/-- The type a source's elements have. -/
def Src.elemType : Src → RType
  | .reg r => r.ty
  | .imm ty _ => IType.elem ty

/-- The modifier of a source; an immediate has none. -/
def Src.modifier : Src → SrcMod
  | .reg r => r.mod
  | .imm _ _ => ⟨false, false⟩

/-- The bits of channel `c` of a source. -/
def readSource (s : State) (o : Src) (purpose c : Nat) : Exec QWord :=
  match o with
  | .reg r => readSrc s r purpose c
  | .imm ty v => .ok (immElement ty v c)

/-- R5, R589: an architecture register is no source 1 or 2. -/
def checkSource1 (o : Src) : Exec Unit :=
  match o with
  | .reg r => require (r.file == .grf) .archRegister
  | .imm _ _ => .ok ()

/-- A numeric source modifier (R71, R97): integers on the exact value, floats on the sign bit. -/
def modify (m : SrcMod) (v : Val) : Val :=
  let w := if m.abs then (match v with
    | .int i => .int i.natAbs
    | .flt p b => .flt p (fabs p b)) else v
  if m.neg then (match w with
    | .int i => .int (-i)
    | .flt p b => .flt p (fneg p b)) else w

/-- The value of channel `c` of a source, after its modifier. -/
def sourceValue (s : State) (o : Src) (purpose c : Nat) : Exec Val := do
  return modify (Src.modifier o) (valueOf (Src.elemType o) (← readSource s o purpose c))

/-- The bits of a logic source, extended by its own signedness (R104, R105: integer types only): a negate modifier
complements. `(abs)` is not allowed by R105; for `not`, R104 and R71 do not say, and it acts on the exact value before the
complement (DESIGN CHOICE, log 52). -/
def logicValue (s : State) (o : Src) (absAllowed : Bool) (purpose c : Nat) : Exec Int := do
  require (RType.isInt (Src.elemType o) && (absAllowed || !(Src.modifier o).abs)) .operandType
  let raw ← readSource s o purpose c
  let bits : QWord :=
    match (Src.modifier o).abs, valueOf (Src.elemType o) raw with
    | true, .int i => intBits (Src.elemType o) i.natAbs
    | _, _ => raw
  match valueOf (Src.elemType o) (if (Src.modifier o).neg then ~~~bits else bits) with
  | .int i => return i
  | .flt _ _ => refuse .operandType

/-- The value of channel `c` of a three-source operand of a type, after its modifier. -/
def triValue (s : State) (o : TriOp) (ty : RType) (purpose c : Nat) : Exec Val := do
  let raw ← readPlace s (← triPlace s.eu o ty c) ty c purpose
  return modify o.mod (valueOf ty raw)

/-! ### Results -/

/-- Bounds of an integer type (R53). -/
def intBounds (ty : RType) : Int × Int :=
  let w := 8 * ty.size
  if RType.signed ty then (-(2 ^ (w - 1)), 2 ^ (w - 1) - 1) else (0, 2 ^ w - 1)

/-- An integer clamped to a type (R53). -/
def clampInt (ty : RType) (i : Int) : Int :=
  let (lo, hi) := intBounds ty
  min (max i lo) hi

/-- Float saturation to [0.0, 1.0] (R53, D15: -0.0 becomes either zero). -/
def saturateFloat (p : Fmt) (free : QWord) (b : Nat) : Nat :=
  let one := roundFloat p .zero false 1 0
  match decodeFloat p b with
  | .nan => 0
  | .inf neg => if neg then 0 else one
  | .fin neg m _ =>
    if m = 0 then (if neg && free.getLsbD 0 then b else 0)
    else if neg then 0
    else if compareNum (decodeFloat p b) (.fin false 1 0) == some .gt then one else b

/-- `ToDst` (R97, R53): a value as an element of the destination type. A float is saturated before it is rounded to the
destination's precision, so that R53 sees the exact value: one below 0.0 becomes +0.0 however small it is. -/
def toDst (v : FloatEnv) (ty : RType) (sat : Bool) (free : QWord) (x : Val) : QWord :=
  match RType.fmt ty, x with
  | none, .int i => intBits ty (if sat then clampInt ty i else i)
  | none, .flt p b =>
    match toInteger (operandNum v p b) with
    | none => 0#64
    | some i => intBits ty (clampInt ty i)
  | some q, .int i =>
    let b := ofInteger v q i
    BitVec.ofNat 64 (if sat then saturateFloat q free b else b)
  | some q, .flt p b =>
    let x := if sat then saturateFloat p free b else b
    BitVec.ofNat 64 (if p = q then x else convertFloat v p q free x)

/-- A destination of any form. -/
inductive Dest
  | op (d : DstOp)
  | tri (reg : BitVec 8) (sub : BitVec 3) (chanEn : BitVec 4) (ty : RType)
deriving DecidableEq, Repr

/-- The type of a destination. -/
def Dest.ty : Dest → RType
  | .op d => d.ty
  | .tri _ _ _ ty => ty

/-- The channel enables of a destination; all set where the form has none (R60). A three-source word has its enables and
swizzles in either access mode: R51 does not support them in Align1, R60 and R83 give the fields without condition, and the
model applies them (DESIGN CHOICE, log 52). -/
def Dest.chanEn : Dest → BitVec 4
  | .op d =>
    match d.region with
    | .align1 _ => 0xF#4
    | .align16 en => en
  | .tri _ _ en _ => en

/-- Elements from one channel's destination to the next (R96: a stride of 0 is read as 1). -/
def DstOp.stride (d : DstOp) : Nat :=
  match d.region with
  | .align1 hs => if hs = .s0 then 1 else hs.elems
  | .align16 _ => 1

/-- The place of channel `c` of a destination (R58, R59, R83, R96). -/
def dstPlace (t : Thread) (d : Dest) (c : Nat) : Exec Place :=
  match d with
  | .op o =>
    let z := o.ty.size
    match o.loc with
    | .direct reg sub => placeAt t o.file reg (sub.toNat + c * DstOp.stride o * z) z
    | .indirect a imm => placeIndirect t o.file a.toNat imm (c * DstOp.stride o * z) z
  | .tri reg sub _ ty => placeAt t .grf reg (4 * sub.toNat + c * ty.size) ty.size

/-- The destination's architecture register, if it is one. -/
def Dest.archReg : Dest → Option Nat
  | .op d =>
    match d.file, d.loc with
    | .arf, .direct reg _ => some (reg.extractLsb' 4 4).toNat
    | _, _ => none
  | .tri _ _ _ _ => none

/-- The thread after an element is written at a place; writes to the null register are discarded (R5). -/
def writePlace (t : Thread) (p : Place) (size : Nat) (v : QWord) : Exec Thread :=
  match p with
  | .grf a => .ok { t with grf := grfWrite t.grf a v.toNat size }
  | .arch reg off =>
    match archRead t reg with
    | some (b, _) =>
      let mask : HWord := BitVec.ofNat 256 ((2 ^ (8 * size) - 1) * 2 ^ (8 * off))
      let new := (b &&& ~~~mask) ||| (BitVec.ofNat 256 (v.toNat % 2 ^ (8 * size) * 2 ^ (8 * off)))
      match archWrite t reg new with
      | some u => .ok u
      | none => refuse .archRegister
    | none => refuse .archRegister
  | .acc k => .ok { t with acc := t.acc.setIfInBounds k ⟨BitVec.ofNat 64 (v.toNat % 2 ^ (8 * size)), false⟩ }
  | .null => .ok t

end Sys2Proof.Machine
end

