-- ==== Sys2Proof/Machine/Flags.lean ====
section
/-! DEFINITION. Conditions, predication and the write enable (R11, R47, R49, R71, R98). -/

namespace Sys2Proof.Machine

/-- An ordering as a test of a condition; false when unordered, but for `.nz` (R98, R112). -/
def CondMod.test (c : CondMod) (o : Option Ordering) : Bool :=
  match c with
  | .z => o == some .eq
  | .nz => o != some .eq
  | .g => o == some .gt
  | .ge => o == some .gt || o == some .eq
  | .l => o == some .lt
  | .le => o == some .lt || o == some .eq
  | .none | .o | .u => false

/-- Order of two integers. -/
def compareInt (a b : Int) : Ordering := if a < b then .lt else if a = b then .eq else .gt

/-- The condition on a result (R98): against zero, before saturation and conversion. For `.o` R98 names a result that does not
fit an integer destination, or a float result that is infinite; where the classes of result and destination differ, a float
result is tested for infinity and an integer result with a float destination is not `.o` (DESIGN CHOICE, log 52). -/
def conditionOf (c : CondMod) (dst : RType) (x : Val) : Bool :=
  match c, x with
  | .o, .int i => RType.isInt dst && (decide (i < (intBounds dst).1) || decide ((intBounds dst).2 < i))
  | .o, .flt p b =>
    match decodeFloat p b with
    | .inf _ => true
    | _ => false
  | .u, .int _ => false
  | .u, .flt p b => isNan p b
  | c, .int i => CondMod.test c (some (compareInt i 0))
  | c, .flt p b => CondMod.test c (compareNum (decodeFloat p b) (.fin false 0 0))

/-- First channel of an instruction (R49, R71): an eighth with 4 channels or fewer, a quarter with 8, a half with 16. Other
quarter codes and `NibCtrl` outside SIMD4 on double floats are refused (R589). -/
def channelOffset (c : Ctl) (usesDf : Bool) : Exec Nat := do
  require (!c.nib || (c.exec == .s4 && usesDf)) .channelControl
  match c.exec with
  | .s1 | .s2 | .s4 => return 4 * (2 * c.qtr.toNat + c.nib.toNat)
  | .s8 => return 8 * c.qtr.toNat
  | .s16 => do
    require (!c.qtr.getLsbD 0) .channelControl
    return 8 * c.qtr.toNat
  | .s32 => do
    require (c.qtr == 0#2) .channelControl
    return 0

/-- The first flag bit of an instruction's flag subregister (R56, R98). -/
def flagBase (c : Ctl) : Nat := 16 * c.flagSub.toNat

/-- The flag register an instruction names (R56). -/
def flagWord (t : Thread) (c : Ctl) : DWord := t.flag.getD c.flagReg.toNat 0#32

/-- The aligned group of `n` flag bits that contains bit `g` (R98). -/
def flagGroup (w : DWord) (base g n : Nat) : List Bool :=
  (List.range n).map fun k => w.getLsbD (base + g / n * n + k)

/-- The predicate bit `P(ch)` of channel `g` (R47, R71, R98). -/
def predicateBit (t : Thread) (c : Ctl) (g : Nat) : Bool :=
  let w := flagWord t c
  let base := flagBase c
  let at4 (k : Nat) := w.getLsbD (base + g / 4 * 4 + k)
  match c.pred with
  | .none => true
  | .seq => w.getLsbD (base + g)
  | .anyv => w.getLsbD g || w.getLsbD (16 + g)
  | .allv => w.getLsbD g && w.getLsbD (16 + g)
  | .any2h => (flagGroup w base g 2).any id
  | .all2h => (flagGroup w base g 2).all id
  | .any4h => (flagGroup w base g 4).any id
  | .all4h => (flagGroup w base g 4).all id
  | .any8h => (flagGroup w base g 8).any id
  | .all8h => (flagGroup w base g 8).all id
  | .any16h => (flagGroup w base g 16).any id
  | .all16h => (flagGroup w base g 16).all id
  | .any32h => (flagGroup w base g 32).any id
  | .all32h => (flagGroup w base g 32).all id
  | .x => at4 0
  | .y => at4 1
  | .z => at4 2
  | .w => at4 3

/-- How many flag bits a predicate reads from its group on (R98). -/
def predicateSpan : PredCtrl → Nat
  | .any2h | .all2h => 2
  | .any4h | .all4h | .x | .y | .z | .w => 4
  | .any8h | .all8h => 8
  | .any16h | .all16h => 16
  | .any32h | .all32h => 32
  | _ => 1

/-- R96: flag bits above bit 31 are refused, for the channels `off .. off + n - 1`, in the mapping the predicate uses, and
for the bits a condition writes. -/
def checkFlags (c : Ctl) (writesFlags : Bool) (off n : Nat) : Exec Unit := do
  require (!writesFlags || decide (flagBase c + off + n ≤ 32)) .channelControl
  match c.pred with
  | .none => return ()
  | .anyv | .allv => require (decide (off + n ≤ 16)) .channelControl
  | p =>
    let k := predicateSpan p
    require (decide (flagBase c + ((off + n - 1) / k + 1) * k ≤ 32)) .channelControl

/-- `PMask` of channel `g` (R47). -/
def predicateMask (t : Thread) (c : Ctl) (g : Nat) : Bool :=
  if c.pred = .none then true else predicateBit t c g != c.predInv

/-- Channel `g` is live (R11, R99): dispatched, and at the thread's instruction. -/
def Thread.live (t : Thread) (g : Nat) : Bool := t.dmask.getLsbD g && t.pcip.getD g 0#32 == t.ip

/-- The masks of the write enable other than the predicate (R11). -/
def maskEnable (t : Thread) (c : Ctl) (g : Nat) : Bool := c.noMask || t.live g

/-- `WrEn` (R11) of channel `g`. -/
def writeEnable (t : Thread) (c : Ctl) (g : Nat) : Bool := maskEnable t c g && predicateMask t c g

end Sys2Proof.Machine
end

