-- ==== Sys2Proof/Machine/Template.lean ====
section
/-! DEFINITION. The execution template of R96: every channel is read before any is written, then destination, flag and
accumulator of the enabled channels, then the instruction pointers. -/

namespace Sys2Proof.Machine

/-- What one channel of an instruction computes: the exact result, the destination's bits, the condition, and what the
accumulator channel takes when it is written. -/
structure Lane where
  v : Val
  r : QWord
  f : Bool
  acc : AccChannel
deriving DecidableEq, Repr

/-- How an instruction uses its channels beyond R96. -/
structure Usage where
  /-- The condition is written to the flag register (R98; not by `sel` and `csel`). -/
  writesFlags : Bool
  /-- The predicate gates the write (R11; not in `sel`, R102). -/
  predicateGates : Bool
  /-- An operand is a double float (R49). -/
  usesDf : Bool
deriving DecidableEq, Repr

/-- The bits of a value as the accumulator keeps them (R8). -/
def accBits : Val → AccChannel
  | .int i => ⟨BitVec.ofInt 64 i, false⟩
  | .flt _ b => ⟨BitVec.ofNat 64 b, false⟩

/-- Length in bytes of an instruction with these controls (R9, R55). -/
def Ctl.bytes (c : Ctl) : Nat := if c.cmpt then 8 else 16

/-- Whether a destination's channel enables let channel `c` be written (R60): the NoMask of a three-source instruction writes
the channels that they disable (R57). -/
def Dest.enables (d : Dest) (k : Ctl) (c : Nat) : Bool :=
  match d with
  | .op _ => (d.chanEn).getLsbD (c % 4)
  | .tri _ _ en _ => k.noMask || en.getLsbD (c % 4)

/-- Whether channel `c` (first channel `off`) is written (R11, R57, R60). -/
def laneEnabled (t : Thread) (k : Ctl) (u : Usage) (d : Dest) (off c : Nat) : Bool :=
  d.enables k c &&
  (if u.predicateGates then writeEnable t k (off + c) else maskEnable t k (off + c))

/-- The enabled channels' results stored in the destination. -/
def storeLanes (d : Dest) : Thread → List (Bool × Place × Lane) → Exec Thread
  | t, [] => .ok t
  | t, (en, p, l) :: rest =>
    if en then
      match writePlace t p d.ty.size l.r with
      | .ok u => storeLanes d u rest
      | .error e => .error e
    else storeLanes d t rest

/-- The flag register after the enabled channels' conditions, channel `g` first (R96, R98). -/
def storeFlags (base : Nat) : DWord → Nat → List (Bool × Place × Lane) → DWord
  | w, _, [] => w
  | w, g, (en, _, l) :: rest => storeFlags base (if en then setBit w (base + g) l.f else w) (g + 1) rest

/-- The accumulator after the enabled channels' results, channel `c` first (R96, R8). -/
def storeAcc : Vector AccChannel 32 → Nat → List (Bool × Place × Lane) → Vector AccChannel 32
  | a, _, [] => a
  | a, c, (en, _, l) :: rest => storeAcc (if en then a.setIfInBounds c l.acc else a) (c + 1) rest

/-- The thread after the enabled channels' conditions go to the flag register and, with AccWrCtrl, their results to the
accumulator (R96, R98, R8). Where a destination element and a condition bit are the same flag bits, R96's assignments do not
say which stands: the condition does (DESIGN CHOICE, log 52). -/
def storeConditions (k : Ctl) (u : Usage) (off : Nat) (outs : List (Bool × Place × Lane)) (t : Thread) : Thread :=
  let t1 := if u.writesFlags then
      { t with flag := t.flag.setIfInBounds k.flagReg.toNat
                         (storeFlags (flagBase k) (t.flag.getD k.flagReg.toNat 0#32) off outs) }
    else t
  if k.accWr then { t1 with acc := storeAcc t1.acc 0 outs } else t1

/-- Whether a channel of an instruction is written. -/
def anyWritten (outs : List (Bool × Place × Lane)) : Bool := outs.any fun e => e.1

/-- After the instruction: the next instruction (R9, R96), or the address that a channel has written to `ip` (R5, log 35), then
what a write to `cr0` sets off (R545). -/
def completeAt (before t : Thread) (sip : DWord) (k : Ctl) (d : Dest) (written : Bool) : Exec Thread :=
  match d.archReg, written with
  | some 0xA, true => do
    let new ← branchTarget t.ip 0
    return { t with pcip := movePcip t.pcip before.ip new, ip := new }
  | some 0x8, _ => do
    let u ← t.advance (Ctl.bytes k)
    return before.afterControlWrite u sip
  | _, _ => t.advance (Ctl.bytes k)

/-- The template of R96 around a per-channel operation. -/
def channelwise (s : State) (k : Ctl) (d : Dest) (u : Usage) (lane : Nat → Exec Lane) : Exec State := do
  let n := k.exec.channels
  let off ← channelOffset k u.usesDf
  checkFlags k u.writesFlags off n
  let lanes ← sequence ((List.range n).map lane)
  let places ← sequence ((List.range n).map (dstPlace s.eu d))
  let outs := ((List.range n).map (laneEnabled s.eu k u d off)).zip (places.zip lanes)
  let t1 ← storeLanes d s.eu outs
  let t2 ← completeAt s.eu (storeConditions k u off outs t1) s.ctx.sip k d (anyWritten outs)
  return { s with eu := t2 }

end Sys2Proof.Machine
end

