-- ==== Sys2Proof/Machine/Lanes.lean ====
section
/-! DEFINITION. The shared shapes of channelwise instructions: one, two and three sources, integers and floats (R96, R97).
An instruction of 40_eu_instruction_forms.md gives only its operation on values. -/

namespace Sys2Proof.Machine

/-- Purposes of draws within one channel. -/
def drawSrc0 : Nat := 1
/-- Draw of source 1. -/
def drawSrc1 : Nat := 2
/-- Draw of source 2. -/
def drawSrc2 : Nat := 3
/-- Draw of the result (a NaN's payload, an uninterpreted result). -/
def drawResult : Nat := 4
/-- Draw of the conversion to the destination (a NaN's payload, the sign of a saturated zero). -/
def drawConvert : Nat := 5
/-- Draw of an evaluation order. -/
def drawOrder : Nat := 6

/-- R97: floating-point work is refused in ALT mode. -/
def checkFloatMode (t : Thread) (types : List RType) : Exec Unit :=
  require (!(t.alt && types.any fun ty => !RType.isInt ty)) .altMode

/-- Whether a double float is among the types (R49). -/
def usesDouble (types : List RType) : Bool := types.contains .df

/-- The usage of an ordinary instruction of R96. -/
def plainUsage (cond : CondMod) (types : List RType) : Usage :=
  { writesFlags := cond != .none, predicateGates := true, usesDf := usesDouble types }

/-- A channel's result as R96 finishes it: converted, and tested before conversion (R98). -/
def finishLane (s : State) (k : Ctl) (cond : CondMod) (ty : RType) (c : Nat) (v : Val) : Lane :=
  { v, r := toDst s.eu.floatEnv ty k.sat (s.draw c drawConvert) v, f := conditionOf cond ty v, acc := accBits v }

/-- The result of `not` (R104): tested as an integer of the destination type. -/
def finishNot (s : State) (k : Ctl) (cond : CondMod) (ty : RType) (c : Nat) (i : Int) : Lane :=
  { finishLane s k cond ty c (.int i) with f := conditionOf cond ty (valueOf ty (intBits ty i)) }

/-- The types of a one-source instruction. -/
def oneTypes (o : OneSrc) : List RType := [o.dst.ty, Src.elemType o.src0]

/-- The types of a two-source instruction. -/
def twoTypes (o : TwoSrc) : List RType := [o.dst.ty, o.src0.ty, Src.elemType o.src1]

/-- R68: a source 1 of packed 4-bit integers goes with a byte or word source 0. -/
def checkPacked (o : TwoSrc) : Exec Unit :=
  match o.src1 with
  | .imm .v _ => require (o.src0.ty == .b || o.src0.ty == .ub || o.src0.ty == .w || o.src0.ty == .uw) .operandType
  | _ => .ok ()

/-- A one-source instruction from its operation on a value and a draw. -/
def unary (s : State) (o : OneSrc) (op : QWord → Val → Exec Val) : Exec State := do
  checkFloatMode s.eu (oneTypes o)
  channelwise s o.ctl (.op o.dst) (plainUsage o.cond (oneTypes o)) fun c => do
    let v ← op (s.draw c drawResult) (← sourceValue s o.src0 drawSrc0 c)
    return finishLane s o.ctl o.cond o.dst.ty c v

/-- A two-source instruction from its operation on two values and a draw. -/
def binary (s : State) (o : TwoSrc) (op : QWord → Val → Val → Exec Val) : Exec State := do
  checkFloatMode s.eu (twoTypes o)
  checkSource1 o.src1
  checkPacked o
  channelwise s o.ctl (.op o.dst) (plainUsage o.cond (twoTypes o)) fun c => do
    let a ← sourceValue s (.reg o.src0) drawSrc0 c
    let b ← sourceValue s o.src1 drawSrc1 c
    return finishLane s o.ctl o.cond o.dst.ty c (← op (s.draw c drawResult) a b)

/-- A one-source logic instruction from its operation on an integer (R104: integer types only). -/
def logicUnary (s : State) (o : OneSrc) (op : Int → Int) : Exec State := do
  require (RType.isInt o.dst.ty) .operandType
  channelwise s o.ctl (.op o.dst) (plainUsage o.cond (oneTypes o)) fun c => do
    return finishNot s o.ctl o.cond o.dst.ty c (op (← logicValue s o.src0 true drawSrc0 c))

/-- A two-source logic instruction from its operation on the two integers (R105: integer types only); its condition tests the exact
result, before the conversion (R98). -/
def logicBinary (s : State) (o : TwoSrc) (op : Int → Int → Int) : Exec State := do
  require (RType.isInt o.dst.ty) .operandType
  checkSource1 o.src1
  checkPacked o
  channelwise s o.ctl (.op o.dst) (plainUsage o.cond (twoTypes o)) fun c => do
    let a ← logicValue s (.reg o.src0) false drawSrc0 c
    let b ← logicValue s o.src1 false drawSrc1 c
    return finishLane s o.ctl o.cond o.dst.ty c (.int (op a b))

/-- Two operands of one class (R97): integers, or floats of the execution type (an integer beside a float: `:f`). -/
inductive Pair
  | ints (a b : Int)
  | flts (p : Fmt) (a b : Nat)
deriving DecidableEq, Repr

/-- A value as a float of a format (R97): an integer is rounded, a float of another precision converted. -/
def toFormat (v : FloatEnv) (p : Fmt) (free : QWord) : Val → Nat
  | .int i => ofInteger v p i
  | .flt q b => if q = p then b else convertFloat v q p free b

/-- Two values in the execution type (R97): `:f` unless both are of one other float format; floats of different precision
are not mixed. "All operands" are the sources: the destination's type is that of the conversion after (DESIGN CHOICE, log 16). -/
def unify (v : FloatEnv) (free : QWord) (x y : Val) : Exec Pair :=
  match x, y with
  | .int a, .int b => .ok (.ints a b)
  | .flt _ _, .int _ => .ok (.flts .f (toFormat v .f free x) (toFormat v .f free y))
  | .int _, .flt _ _ => .ok (.flts .f (toFormat v .f free x) (toFormat v .f free y))
  | .flt p a, .flt q b => if p = q then .ok (.flts p a b) else refuse .operandType

/-- The execution type of a float operation on sources of some types (R97): `:f` unless all are of one other float format;
floats of different precision are not mixed. The destination's type is not among them (DESIGN CHOICE, log 16). -/
def execFormat (types : List RType) : Exec Fmt := do
  let fmts := types.filterMap RType.fmt
  require (fmts.all fun p => fmts.head? == some p) .operandType
  return if fmts.length = types.length then fmts.headD .f else .f

/-- Whether a condition holds of two sources; for `.o` and `.u`, of which R102 and R112 give no comparison, a draw (DESIGN CHOICE,
log 53). -/
def CondMod.picks (c : CondMod) (free : QWord) (o : Option Ordering) : Bool :=
  match c with
  | .o | .u => free.getLsbD 0
  | c => CondMod.test c o

/-- A two-source numeric instruction from its integer and float operations. -/
def numeric (s : State) (o : TwoSrc) (onInts : Int → Int → Exec Int)
    (onFloats : FloatEnv → Fmt → QWord → Nat → Nat → Exec Nat) : Exec State :=
  binary s o fun free x y => do
    match ← unify s.eu.floatEnv free x y with
    | .ints a b => return .int (← onInts a b)
    | .flts p a b => return .flt p (← onFloats s.eu.floatEnv p free a b)

/-- The float form of an operation whose rule states a result for integers only (R108, R109, R111, R142, R149): a free value
(DESIGN CHOICE, log 53). -/
def openFloat : FloatEnv → Fmt → QWord → Nat → Nat → Exec Nat := fun _ p free _ _ => .ok (free.toNat % 2 ^ p.width)

/-- The result of an operation whose rule states none for its operand types: any value of the destination's type (log 53). -/
def openResult (ty : RType) (free : QWord) : Val := valueOf ty free

/-- The types of the three sources (R83). -/
def triTypes (o : ThreeSrc) : RType × RType × RType :=
  let base := o.srcTy.toR
  let of (half : Bool) : RType :=
    match o.srcTy with
    | .f | .hf => if half then .hf else .f
    | _ => base
  (base, of o.half1, of o.half2)

/-- All types of a three-source instruction. -/
def threeTypes (o : ThreeSrc) : List RType := [o.dstTy.toR, (triTypes o).1, (triTypes o).2.1, (triTypes o).2.2]

/-- The destination of a three-source instruction. -/
def triDest (o : ThreeSrc) : Dest := .tri o.dstReg o.dstSub o.chanEn o.dstTy.toR

/-- A three-source instruction from its operation on three values and two draws; `flags` says whether its condition is
written to the flag register. -/
def ternary (s : State) (o : ThreeSrc) (flags : Bool) (op : QWord → QWord → Val → Val → Val → Exec Val) :
    Exec State := do
  checkFloatMode s.eu (threeTypes o)
  let u := plainUsage o.cond (threeTypes o)
  channelwise s o.ctl (triDest o) { u with writesFlags := flags && u.writesFlags } fun c => do
    let a ← triValue s o.s0 (triTypes o).1 drawSrc0 c
    let b ← triValue s o.s1 (triTypes o).2.1 drawSrc1 c
    let d ← triValue s o.s2 (triTypes o).2.2 drawSrc2 c
    return finishLane s o.ctl o.cond o.dstTy.toR c (← op (s.draw c drawResult) (s.draw c drawOrder) a b d)

end Sys2Proof.Machine
end

