-- ==== Sys2Proof/Machine/BitField.lean ====
section
/-! DEFINITION. Bit-field and bit-count instructions (R115-R118, R150-R153). -/

namespace Sys2Proof.Machine

/-- A DWord type. -/
def isDword (t : RType) : Bool := t == .ud || t == .d

/-- The low 32 bits of an integer. -/
def low32 (i : Int) : Nat := (i % 2 ^ 32).toNat

/-- The integer of a value that must be one. -/
def theInt : Val → Exec Int
  | .int i => .ok i
  | .flt _ _ => refuse .operandType

/-- A 32-bit word in reverse order (R115). -/
def reverse32 (n : Nat) : Nat := ((BitVec.ofNat 32 n).reverse).toNat

/-- R115: "`:ud` only". -/
def execBfrev (o : OneSrc) (s : State) : Host.Outcome State Fault Refusal :=
  (do
    require (oneTypes o == [.ud, .ud]) .operandType
    unary s o fun _ x => return .int (reverse32 (low32 (← theInt x))) : Exec State).outcome

/-- The field of `bfe` (R116): `width` bits of the 32 bits of `value` from `offset`, bits above 31 zeros or copies of bit 31,
extended by the type. -/
def extractField (isSigned : Bool) (width offset value : Int) : Int :=
  let w := (width % 32).toNat
  let bits : Int := low32 value
  let v : Int := if isSigned && decide (2 ^ 31 ≤ bits) then bits - 2 ^ 32 else bits
  let f := v / 2 ^ (offset % 32).toNat % 2 ^ w
  if w = 0 then 0 else if isSigned && decide (2 ^ (w - 1) ≤ f) then f - 2 ^ w else f

/-- R116, for `:ud` and `:d` sources; the rule states no result for float sources: a free value (log 53). -/
def execBfe (o : ThreeSrc) (s : State) : Host.Outcome State Fault Refusal :=
  (ternary s o true fun free _ a b c =>
    match a, b, c with
    | .int w, .int k, .int v => return .int (extractField (o.srcTy == .d) w k v)
    | _, _, _ => return openResult o.dstTy.toR free).outcome

/-- The mask of `bfi1` (R117). -/
def fieldMask (width offset : Int) : Int :=
  ((2 ^ (width % 32).toNat - 1) * 2 ^ (offset % 32).toNat) % 2 ^ 32

/-- R117, for "`:ud` / `:d`"; of other types no result is stated: a free value (log 53). -/
def execBfi1 (o : TwoSrc) (s : State) : Host.Outcome State Fault Refusal :=
  (binary s o fun free a b =>
    match (twoTypes o).all isDword, a, b with
    | true, .int w, .int k => return .int (fieldMask w k)
    | _, _, _ => return openResult o.dst.ty free).outcome

/-- Trailing zero bits of a number, at most `fuel`. -/
def trailingZeros (n : Nat) : Nat → Nat
  | 0 => 0
  | fuel + 1 => if n % 2 = 1 then 0 else 1 + trailingZeros (n / 2) fuel

/-- The insertion of `bfi2` (R118). Its 32 bits are an unsigned number for a condition, for saturation and for a float
destination, of `:d` operands too, about which R118 is silent (DESIGN CHOICE, log 57). -/
def insertField (mask ins base : Nat) : Nat :=
  if mask = 0 then base
  else (ins * 2 ^ trailingZeros mask 32 % 2 ^ 32 &&& mask) ||| (base &&& (2 ^ 32 - 1 - mask))

/-- R118; the rule states no result for float sources: a free value (log 53). -/
def execBfi2 (o : ThreeSrc) (s : State) : Host.Outcome State Fault Refusal :=
  (ternary s o true fun free _ a b c =>
    match a, b, c with
    | .int m, .int i, .int k => return .int (insertField (low32 m) (low32 i) (low32 k))
    | _, _, _ => return openResult o.dstTy.toR free).outcome

/-- Leading zero bits of a 32-bit number (R150). -/
def leadingZeros (n : Nat) : Nat := if n = 0 then 32 else 31 - Nat.log2 n

/-- A count of a source's bits that a rule states for some types of source and of destination: of others it is a free value
(log 53). -/
def bitCount (s : State) (o : OneSrc) (stated : Bool) (count : Int → Int) : Exec State :=
  unary s o fun free x =>
    match stated, x with
    | true, .int i => return .int (count i)
    | _, _ => return openResult o.dst.ty free

/-- R150, of a `:ud` source. -/
def execLzd (o : OneSrc) (s : State) : Host.Outcome State Fault Refusal :=
  (bitCount s o (Src.elemType o.src0 == .ud) fun i => leadingZeros (low32 i)).outcome

/-- R151: none found is FFFFFFFFh. -/
def firstHigh (isSigned : Bool) (i : Int) : Int :=
  let n := low32 i
  let m := if isSigned && decide (i < 0) then 2 ^ 32 - 1 - n else n
  if m = 0 then 0xFFFFFFFF else leadingZeros m

/-- R151, of a `:ud` or `:d` source. -/
def execFbh (o : OneSrc) (s : State) : Host.Outcome State Fault Refusal :=
  (bitCount s o (isDword (Src.elemType o.src0)) (firstHigh (Src.elemType o.src0 == .d))).outcome

/-- R152: none found is FFFFFFFFh. -/
def firstLow (n : Nat) : Int := if n = 0 then 0xFFFFFFFF else trailingZeros n 32

/-- R152, of a `:ud` source. -/
def execFbl (o : OneSrc) (s : State) : Host.Outcome State Fault Refusal :=
  (bitCount s o (Src.elemType o.src0 == .ud) fun i => firstLow (low32 i)).outcome

/-- Set bits among the low `fuel` bits (R153). -/
def popCount (n : Nat) : Nat → Nat
  | 0 => 0
  | fuel + 1 => n % 2 + popCount (n / 2) fuel

/-- Whether R153 states the count: a `:ub`, `:uw` or `:ud` source, "written as `:ud`". -/
def cbitStated (o : OneSrc) : Bool :=
  let ty := Src.elemType o.src0
  (ty == .ub || ty == .uw || ty == .ud) && o.dst.ty == .ud

/-- R153. -/
def execCbit (o : OneSrc) (s : State) : Host.Outcome State Fault Refusal :=
  (bitCount s o (cbitStated o) fun i => popCount (low32 i) (8 * (Src.elemType o.src0).size)).outcome

end Sys2Proof.Machine
end

