-- ==== Sys2Proof/Machine/Arithmetic.lean ====
section
/-! DEFINITION. Arithmetic (R140-R149, R154-R157). -/

namespace Sys2Proof.Machine

/-- R140. -/
def execAdd (o : TwoSrc) (s : State) : Host.Outcome State Fault Refusal :=
  (numeric s o (fun a b => .ok (a + b)) fun v p free a b => .ok (fadd v p free a b)).outcome

/-- R141: two 32-bit integer sources admit neither saturation nor a condition. -/
def execMul (o : TwoSrc) (s : State) : Host.Outcome State Fault Refusal :=
  (do
    require (!(isDword o.src0.ty && isDword (Src.elemType o.src1) && (o.ctl.sat || o.cond != .none))) .control
    numeric s o (fun a b => .ok (a * b)) fun v p free a b => .ok (fmul v p free a b) : Exec State).outcome

/-- R142. -/
def execAvg (o : TwoSrc) (s : State) : Host.Outcome State Fault Refusal :=
  (numeric s o (fun a b => .ok ((a + b + 1) / 2)) openFloat).outcome

/-- A one-source float instruction from its operation in the execution type (R143-R147, R97: `:f` for an integer). -/
def floatUnary (s : State) (o : OneSrc) (op : FloatEnv → Fmt → QWord → Nat → Nat) : Exec State := do
  let p ← execFormat [Src.elemType o.src0]
  unary s o fun free x => .ok (.flt p (op s.eu.floatEnv p free (toFormat s.eu.floatEnv p free x)))

/-- R143. -/
def execFrc (o : OneSrc) (s : State) : Host.Outcome State Fault Refusal :=
  (floatUnary s o ffrac).outcome

/-- R144. -/
def execRndu (o : OneSrc) (s : State) : Host.Outcome State Fault Refusal :=
  (floatUnary s o fun v p free b => fintegral v p free .ceil b).outcome

/-- R145. -/
def execRndd (o : OneSrc) (s : State) : Host.Outcome State Fault Refusal :=
  (floatUnary s o fun v p free b => fintegral v p free .floor b).outcome

/-- R146. -/
def execRnde (o : OneSrc) (s : State) : Host.Outcome State Fault Refusal :=
  (floatUnary s o fun v p free b => fintegral v p free .even b).outcome

/-- R147. -/
def execRndz (o : OneSrc) (s : State) : Host.Outcome State Fault Refusal :=
  (floatUnary s o fun v p free b => fintegral v p free .trunc b).outcome

/-- The result of an instruction that reads the accumulator (R148, R149): a free value that may depend on what the
accumulator channel holds. -/
def accResult (s : State) (p : Option Fmt) (c : Nat) : Val :=
  let b := Config.accRead (s.eu.acc.getD c ⟨0#64, false⟩).bits (s.draw c drawResult)
  match p with
  | none => .int b.toInt
  | some q => .flt q (b.toNat % 2 ^ q.width)

/-- An instruction that reads the accumulator: its operands are read, its result is free (R148, R149). -/
def accumulate (s : State) (o : TwoSrc) : Exec State := do
  checkFloatMode s.eu (twoTypes o)
  checkSource1 o.src1
  checkPacked o
  channelwise s o.ctl (.op o.dst) (plainUsage o.cond (twoTypes o)) fun c => do
    let x ← sourceValue s (.reg o.src0) drawSrc0 c
    let y ← sourceValue s o.src1 drawSrc1 c
    match ← unify s.eu.floatEnv (s.draw c drawResult) x y with
    | .ints _ _ => return finishLane s o.ctl o.cond o.dst.ty c (accResult s none c)
    | .flts p _ _ => return finishLane s o.ctl o.cond o.dst.ty c (accResult s (some p) c)

/-- R148. -/
def execMac (o : TwoSrc) (s : State) : Host.Outcome State Fault Refusal := (accumulate s o).outcome

/-- R149: "must be used with `AccWrCtrl` = 1". -/
def execMach (o : TwoSrc) (s : State) : Host.Outcome State Fault Refusal :=
  (do
    require o.ctl.accWr .control
    accumulate s o : Exec State).outcome

/-- `addc` and `subb` (R154, R155: `:ud` only): the result modulo 2^32, the carry or borrow in the accumulator channel. R154 says
"No `Saturate`", R155 does not: with it the result of `subb` is R155's or R53's clamped one, a draw (DESIGN CHOICE, log 53). -/
def carryOp (s : State) (o : TwoSrc) (satAllowed : Bool) (op : Int → Int → Int) (carry : Int → Int → Bool) : Exec State := do
  require (twoTypes o == [.ud, .ud, .ud]) .operandType
  require (o.ctl.accWr && (satAllowed || !o.ctl.sat)) .control
  checkSource1 o.src1
  channelwise s o.ctl (.op o.dst) (plainUsage o.cond (twoTypes o)) fun c => do
    let a ← theInt (← sourceValue s (.reg o.src0) drawSrc0 c)
    let b ← theInt (← sourceValue s o.src1 drawSrc1 c)
    let v : Val := .int (if o.ctl.sat && (s.draw c drawOrder).getLsbD 0 then clampInt .ud (op a b) else low32 (op a b))
    return { finishLane s o.ctl o.cond o.dst.ty c v with acc := ⟨BitVec.ofNat 64 (carry a b).toNat, true⟩ }

/-- R154. -/
def execAddc (o : TwoSrc) (s : State) : Host.Outcome State Fault Refusal :=
  (carryOp s o false (fun a b => a + b) fun a b => decide (2 ^ 32 ≤ a + b)).outcome

/-- R155. -/
def execSubb (o : TwoSrc) (s : State) : Host.Outcome State Fault Refusal :=
  (carryOp s o true (fun a b => a - b) fun a b => decide (a < b)).outcome

/-- R156: "the model refuses it". -/
def execSad2 (_ : TwoSrc) (_ : State) : Host.Outcome State Fault Refusal := .refused (.unknownOperation "sad2")

/-- R157: "Refused, as `sad2` and `mac`." -/
def execSada2 (_ : TwoSrc) (_ : State) : Host.Outcome State Fault Refusal := .refused (.unknownOperation "sada2")

end Sys2Proof.Machine
end

