-- ==== Sys2Proof/Machine/Naming.lean ====
section
/-! DEFINITION. Which constructor of `Instr` a decoded form is, and back: the opcode map (R95), the math functions (R90),
the shared functions (R93) and the message types (R185-R187, R200, R205, R206, R221). Log 8. -/

namespace Sys2Proof

/-- The opcodes of the form `OneSrc` (R95). -/
def oneTable : List (BitVec 7 × (OneSrc → Instr)) :=
  [(0x01#7, .mov), (0x03#7, .movi), (0x04#7, .not), (0x0A#7, .smov),
   (0x17#7, .bfrev), (0x30#7, .wait), (0x43#7, .frc), (0x44#7, .rndu),
   (0x45#7, .rndd), (0x46#7, .rnde), (0x47#7, .rndz), (0x4A#7, .lzd),
   (0x4B#7, .fbh), (0x4C#7, .fbl), (0x4D#7, .cbit)]

/-- The opcodes of the form `TwoSrc` (R95). -/
def twoTable : List (BitVec 7 × (TwoSrc → Instr)) :=
  [(0x02#7, .sel), (0x05#7, .and), (0x06#7, .or), (0x07#7, .xor),
   (0x08#7, .shr), (0x09#7, .shl), (0x0C#7, .asr), (0x10#7, .cmp),
   (0x11#7, .cmpn), (0x19#7, .bfi1), (0x40#7, .add), (0x41#7, .mul),
   (0x42#7, .avg), (0x48#7, .mac), (0x49#7, .mach), (0x4E#7, .addc),
   (0x4F#7, .subb), (0x50#7, .sad2), (0x51#7, .sada2), (0x54#7, .dp4),
   (0x55#7, .dph), (0x56#7, .dp3), (0x57#7, .dp2), (0x59#7, .line),
   (0x5A#7, .pln)]

/-- The opcodes of the form `ThreeSrc` (R95). -/
def threeTable : List (BitVec 7 × (ThreeSrc → Instr)) :=
  [(0x12#7, .csel), (0x18#7, .bfe), (0x1A#7, .bfi2), (0x5B#7, .mad),
   (0x5C#7, .lrp), (0x5D#7, .madm)]

/-- The opcodes of the form `BranchOne` (R95). -/
def branchOneTable : List (BitVec 7 × (BranchOne → Instr)) :=
  [(0x20#7, .jmpi), (0x21#7, .brd), (0x25#7, .endif), (0x27#7, .whileOp),
   (0x2B#7, .calla), (0x2C#7, .call), (0x2D#7, .ret), (0x2F#7, .join)]

/-- The opcodes of the form `BranchTwo` (R95). -/
def branchTwoTable : List (BitVec 7 × (BranchTwo → Instr)) :=
  [(0x22#7, .ifOp), (0x23#7, .brc), (0x24#7, .elseOp), (0x28#7, .breakOp),
   (0x29#7, .cont), (0x2A#7, .halt), (0x2E#7, .goto)]

/-- The math functions R90 names. -/
def mathTable : List (BitVec 4 × (MathOp → Instr)) :=
  [(0x1#4, .mathInv), (0x2#4, .mathLog), (0x3#4, .mathExp), (0x4#4, .mathSqrt),
   (0x5#4, .mathRsq), (0x6#4, .mathSin), (0x7#4, .mathCos), (0x9#4, .mathFdiv),
   (0xA#4, .mathPow), (0xB#4, .mathIntDivQr), (0xC#4, .mathIntDivQ), (0xD#4, .mathIntDivR),
   (0xE#4, .mathInvm), (0xF#4, .mathRsqrtm)]

/-- Data port 0 message types, descriptor bits 18:14 (R185). -/
def dp0Table : List (BitVec 5 × (SendForm → Instr)) :=
  [(0x00#5, .mt0rB), (0x01#5, .mt0rAb), (0x02#5, .mt0rOwdb),
   (0x03#5, .mt0rDws), (0x04#5, .mt0rBs), (0x07#5, .mt0Memfence),
   (0x08#5, .mt0wB), (0x0A#5, .mt0wOwdb), (0x0B#5, .mt0wDws),
   (0x0C#5, .mt0wBs)]

/-- Data port 1 message types, descriptor bits 18:14 (R186). -/
def dp1Table : List (BitVec 5 × (SendForm → Instr)) :=
  [(0x00#5, .mt1rT), (0x01#5, .mt1rUs), (0x02#5, .mt1aUi),
   (0x03#5, .mt1aUi4x2), (0x04#5, .mt1rMb), (0x05#5, .mt1rTs),
   (0x06#5, .mt1aTa), (0x07#5, .mt1aTa4x2), (0x09#5, .mt1wUs),
   (0x0A#5, .mt1wMb), (0x0B#5, .mt1aTc), (0x0C#5, .mt1aTc4x2),
   (0x0D#5, .mt1wTs), (0x10#5, .mt1rA64Sb), (0x11#5, .mt1rA64Us),
   (0x12#5, .mt1aA64Ui), (0x13#5, .mt1aA64Ui4x2), (0x14#5, .mt1rA64B),
   (0x15#5, .mt1wA64B), (0x19#5, .mt1wA64Us), (0x1A#5, .mt1wA64Sb),
   (0x1B#5, .mt1aUf), (0x1C#5, .mt1aUf4x2), (0x1D#5, .mt1aA64Uf),
   (0x1E#5, .mt1aA64Uf4x2)]

/-- Data port 2 message types, descriptor bits 18:15 (R187). -/
def dp2Table : List (BitVec 4 × (SendForm → Instr)) :=
  [(0x01#4, .mt2rUs), (0x02#4, .mt2rA64Sb), (0x03#4, .mt2rA64Us),
   (0x04#4, .mt2rBs), (0x09#4, .mt2wUs), (0x0A#4, .mt2wA64Us),
   (0x0B#4, .mt2wA64Sb), (0x0C#4, .mt2wBs)]

/-- Read-only data port message types, descriptor bits 17:14 (R205). -/
def readOnlyTable : List (BitVec 4 × (SendForm → Instr)) :=
  [(0x00#4, .mtCcOwb), (0x01#4, .mtCcOwub), (0x02#4, .mtCcOwdb),
   (0x03#4, .mtCcDws), (0x04#4, .mtScOwub), (0x05#4, .mtScMb),
   (0x06#4, .mtRsi)]

/-- Render target write subtypes, descriptor bits 10:8 (R200). -/
def renderWriteTable : List (BitVec 3 × (SendForm → Instr)) :=
  [(0x00#3, .mtRtwSimd16), (0x01#3, .mtRtwSimd16Repdata), (0x02#3, .mtRtwSimd8DualsrcLo),
   (0x03#3, .mtRtwSimd8DualsrcHi), (0x04#3, .mtRtwSimd8Lo), (0x07#3, .mtRtwSimd16RepdataTm)]

/-- The value a table gives for a code. -/
def lookupCode {n : Nat} {α : Type} (c : BitVec n) : List (BitVec n × α) → Option α
  | [] => none
  | (k, v) :: t => if c == k then some v else lookupCode c t

/-- The shared function of a send. -/
def SendForm.sfid : SendForm → Sfid
  | .plain _ o => o.sfid
  | .split _ o => o.sfid

/-- The message descriptor of a send. -/
def SendForm.desc : SendForm → Desc
  | .plain _ o => o.desc
  | .split _ o => o.desc

/-- The opcode's own constructor (R135-R138). -/
def SendForm.opcodeRow : SendForm → Instr
  | .plain false o => .send o
  | .plain true o => .sendc o
  | .split false o => .sends o
  | .split true o => .sendsc o

/-- The shared function's constructor (R93); a Null send that carries no message is the opcode's own row. -/
def SendForm.sfidRow (f : SendForm) : Instr :=
  match f.sfid with
  | .null => .sfidNull f
  | .sampler => .sfidSampler f
  | .gateway => .sfidGateway f
  | .dp2 => .sfidDp2 f
  | .renderCache => .sfidRenderCache f
  | .urb => .sfidUrb f
  | .spawner => .sfidSpawner f
  | .vme => .sfidVme f
  | .readOnly => .sfidReadOnly f
  | .dp0 => .sfidDp0 f
  | .pixelInterp => .sfidPixelInterp f
  | .dp1 => .sfidDp1 f
  | .cre => .sfidCre f

/-- The message's constructor, for an immediate descriptor whose message type has a row. -/
def SendForm.messageRow (f : SendForm) (d : BitVec 31) : Option Instr :=
  match f.sfid with
  | .dp0 => (lookupCode (d.extractLsb' 14 5) dp0Table).map (· f)
  | .dp1 => (lookupCode (d.extractLsb' 14 5) dp1Table).map (· f)
  | .dp2 => (lookupCode (d.extractLsb' 15 4) dp2Table).map (· f)
  | .readOnly => (lookupCode (d.extractLsb' 14 4) readOnlyTable).map (· f)
  | .renderCache =>
    if d.extractLsb' 14 4 == 0xC#4 then
      some (match lookupCode (d.extractLsb' 8 3) renderWriteTable with
        | some c => c f
        | none => .mtRtw f)
    else if d.extractLsb' 14 4 == 0xD#4 then some (.mtRtr f)
    else none
  | .spawner => if d.getLsbD 0 then some (.tsSpawn f) else some (.tsDereference f)
  | .null | .sampler | .gateway | .urb | .vme | .pixelInterp | .cre => none

/-- The constructor of a send-class word (log 8). -/
def SendForm.row (f : SendForm) : Instr :=
  match f.desc with
  | .reg => if f.sfid = .null then f.opcodeRow else f.sfidRow
  | .imm d =>
    if f.sfid = .null ∧ d.extractLsb' 25 4 = 0#4 then f.opcodeRow
    else (f.messageRow d).getD f.sfidRow

/-- The constructor of a form; none for an opcode number without a row. -/
def Shape.toInstr? : Shape → Option Instr
  | .illegal => some .illegal
  | .nop d => some (.nop d)
  | .one op o => (lookupCode op oneTable).map (· o)
  | .two op o => (lookupCode op twoTable).map (· o)
  | .three op o => (lookupCode op threeTable).map (· o)
  | .br1 op o => (lookupCode op branchOneTable).map (· o)
  | .br2 op o => (lookupCode op branchTwoTable).map (· o)
  | .math fc o =>
    match lookupCode fc mathTable with
    | some c => some (c o)
    | none => some (.math ⟨fc.getLsbD 3, o⟩)
  | .send f => some f.row
  | .compact2 o => some (.compactTwo o)
  | .compact3 o => some (.compactThree o)

/-- The form of an instruction. -/
def Instr.shape : Instr → Shape
  | .illegal => .illegal
  | .mov o => .one 0x01#7 o
  | .sel o => .two 0x02#7 o
  | .movi o => .one 0x03#7 o
  | .not o => .one 0x04#7 o
  | .and o => .two 0x05#7 o
  | .or o => .two 0x06#7 o
  | .xor o => .two 0x07#7 o
  | .shr o => .two 0x08#7 o
  | .shl o => .two 0x09#7 o
  | .smov o => .one 0x0A#7 o
  | .asr o => .two 0x0C#7 o
  | .cmp o => .two 0x10#7 o
  | .cmpn o => .two 0x11#7 o
  | .csel o => .three 0x12#7 o
  | .bfrev o => .one 0x17#7 o
  | .bfe o => .three 0x18#7 o
  | .bfi1 o => .two 0x19#7 o
  | .bfi2 o => .three 0x1A#7 o
  | .jmpi o => .br1 0x20#7 o
  | .brd o => .br1 0x21#7 o
  | .ifOp o => .br2 0x22#7 o
  | .brc o => .br2 0x23#7 o
  | .elseOp o => .br2 0x24#7 o
  | .endif o => .br1 0x25#7 o
  | .whileOp o => .br1 0x27#7 o
  | .breakOp o => .br2 0x28#7 o
  | .cont o => .br2 0x29#7 o
  | .halt o => .br2 0x2A#7 o
  | .calla o => .br1 0x2B#7 o
  | .call o => .br1 0x2C#7 o
  | .ret o => .br1 0x2D#7 o
  | .goto o => .br2 0x2E#7 o
  | .join o => .br1 0x2F#7 o
  | .wait o => .one 0x30#7 o
  | .send o => .send (.plain false o)
  | .sendc o => .send (.plain true o)
  | .sends o => .send (.split false o)
  | .sendsc o => .send (.split true o)
  | .math o => .math (if o.high then 0x8#4 else 0x0#4) o.op
  | .add o => .two 0x40#7 o
  | .mul o => .two 0x41#7 o
  | .avg o => .two 0x42#7 o
  | .frc o => .one 0x43#7 o
  | .rndu o => .one 0x44#7 o
  | .rndd o => .one 0x45#7 o
  | .rnde o => .one 0x46#7 o
  | .rndz o => .one 0x47#7 o
  | .mac o => .two 0x48#7 o
  | .mach o => .two 0x49#7 o
  | .lzd o => .one 0x4A#7 o
  | .fbh o => .one 0x4B#7 o
  | .fbl o => .one 0x4C#7 o
  | .cbit o => .one 0x4D#7 o
  | .addc o => .two 0x4E#7 o
  | .subb o => .two 0x4F#7 o
  | .sad2 o => .two 0x50#7 o
  | .sada2 o => .two 0x51#7 o
  | .dp4 o => .two 0x54#7 o
  | .dph o => .two 0x55#7 o
  | .dp3 o => .two 0x56#7 o
  | .dp2 o => .two 0x57#7 o
  | .line o => .two 0x59#7 o
  | .pln o => .two 0x5A#7 o
  | .mad o => .three 0x5B#7 o
  | .lrp o => .three 0x5C#7 o
  | .madm o => .three 0x5D#7 o
  | .nop d => .nop d
  | .mathInv o => .math 0x1#4 o
  | .mathLog o => .math 0x2#4 o
  | .mathExp o => .math 0x3#4 o
  | .mathSqrt o => .math 0x4#4 o
  | .mathRsq o => .math 0x5#4 o
  | .mathSin o => .math 0x6#4 o
  | .mathCos o => .math 0x7#4 o
  | .mathFdiv o => .math 0x9#4 o
  | .mathPow o => .math 0xA#4 o
  | .mathIntDivQr o => .math 0xB#4 o
  | .mathIntDivQ o => .math 0xC#4 o
  | .mathIntDivR o => .math 0xD#4 o
  | .mathInvm o => .math 0xE#4 o
  | .mathRsqrtm o => .math 0xF#4 o
  | .sfidNull f => .send f
  | .sfidSampler f => .send f
  | .sfidGateway f => .send f
  | .sfidDp2 f => .send f
  | .sfidRenderCache f => .send f
  | .sfidUrb f => .send f
  | .sfidSpawner f => .send f
  | .sfidVme f => .send f
  | .sfidReadOnly f => .send f
  | .sfidDp0 f => .send f
  | .sfidPixelInterp f => .send f
  | .sfidDp1 f => .send f
  | .sfidCre f => .send f
  | .mt0rB f => .send f
  | .mt0rAb f => .send f
  | .mt0rOwdb f => .send f
  | .mt0rDws f => .send f
  | .mt0rBs f => .send f
  | .mt0Memfence f => .send f
  | .mt0wB f => .send f
  | .mt0wOwdb f => .send f
  | .mt0wDws f => .send f
  | .mt0wBs f => .send f
  | .mt1rT f => .send f
  | .mt1rUs f => .send f
  | .mt1aUi f => .send f
  | .mt1aUi4x2 f => .send f
  | .mt1rMb f => .send f
  | .mt1rTs f => .send f
  | .mt1aTa f => .send f
  | .mt1aTa4x2 f => .send f
  | .mt1wUs f => .send f
  | .mt1wMb f => .send f
  | .mt1aTc f => .send f
  | .mt1aTc4x2 f => .send f
  | .mt1wTs f => .send f
  | .mt1rA64Sb f => .send f
  | .mt1rA64Us f => .send f
  | .mt1aA64Ui f => .send f
  | .mt1aA64Ui4x2 f => .send f
  | .mt1rA64B f => .send f
  | .mt1wA64B f => .send f
  | .mt1wA64Us f => .send f
  | .mt1wA64Sb f => .send f
  | .mt1aUf f => .send f
  | .mt1aUf4x2 f => .send f
  | .mt1aA64Uf f => .send f
  | .mt1aA64Uf4x2 f => .send f
  | .mt2rUs f => .send f
  | .mt2rA64Sb f => .send f
  | .mt2rA64Us f => .send f
  | .mt2rBs f => .send f
  | .mt2wUs f => .send f
  | .mt2wA64Us f => .send f
  | .mt2wA64Sb f => .send f
  | .mt2wBs f => .send f
  | .mtCcOwb f => .send f
  | .mtCcOwub f => .send f
  | .mtCcOwdb f => .send f
  | .mtCcDws f => .send f
  | .mtScOwub f => .send f
  | .mtScMb f => .send f
  | .mtRsi f => .send f
  | .mtRtw f => .send f
  | .mtRtr f => .send f
  | .mtRtwSimd16 f => .send f
  | .mtRtwSimd16Repdata f => .send f
  | .mtRtwSimd8DualsrcLo f => .send f
  | .mtRtwSimd8DualsrcHi f => .send f
  | .mtRtwSimd8Lo f => .send f
  | .mtRtwSimd16RepdataTm f => .send f
  | .tsDereference f => .send f
  | .tsSpawn f => .send f
  | .compactTwo o => .compact2 o
  | .compactThree o => .compact3 o

end Sys2Proof
end

