-- ==== Sys2Proof/WellFormed.lean ====
section
/-! DEFINITION. Which instructions as syntax stand for a native or compact word: every field at a value its encoding can
hold (00_scope.md R1, R41, R42, R58-R69, R71, R83-R92), fields that an encoding has no bits for at their fixed value, and
the constructor the one that the word's codes select. -/

namespace Sys2Proof

/-- A direct register number in range (R42: 0-127 for a general register). -/
def regInRange (file : RegFile) (reg : BitVec 8) : Bool :=
  match file with
  | .arf => true
  | .grf => !reg.getLsbD 7

/-- R42: a direct general register is r0..r127. -/
def Loc.inRange (file : RegFile) : Loc → Bool
  | .direct reg _ => regInRange file reg
  | .indirect _ _ => true

/-- R59, R62, R92: a location of a 16-byte-aligned encoding has its four low bits zero. -/
def Loc.aligned16 : Loc → Bool
  | .direct _ sub => sub.extractLsb' 0 4 == 0#4
  | .indirect _ imm => imm.extractLsb' 0 4 == 0#4

/-- R64, D17: the one-source container has no bit 9 of the address immediate. -/
def Loc.noBit9 : Loc → Bool
  | .direct _ _ => true
  | .indirect _ imm => !imm.getLsbD 9

/-- R47, R55, R71: the predicate control exists in the access mode, and the word is not a compact one. -/
def Ctl.wf (c : Ctl) : Bool :=
  !c.cmpt && (PredCtrl.ofCode c.access (c.pred.code c.access) == some c.pred)

/-- R61, R62, R71: the region belongs to the access mode, `VxH` only to an indirect Align1 source. -/
def SrcOp.wf (a : AccessMode) (s : SrcOp) : Bool :=
  s.loc.inRange s.file &&
  match a, s.region with
  | .align1, .align1 vs _ _ =>
    match vs, s.loc with
    | .vxh, .direct _ _ => false
    | _, _ => true
  | .align16, .align16 vs _ => s.loc.aligned16 && vs != .vxh
  | _, _ => false

/-- R58, R59: the region belongs to the access mode. -/
def DstOp.wf (a : AccessMode) (d : DstOp) : Bool :=
  d.loc.inRange d.file &&
  match a, d.region with
  | .align1, .align1 _ => true
  | .align16, .align16 _ => d.loc.aligned16
  | _, _ => false

/-- R81, R64. -/
def OneSrc.wf (o : OneSrc) : Bool :=
  o.ctl.wf && o.dst.wf o.ctl.access &&
  match o.src0 with
  | .reg s => s.wf o.ctl.access && s.loc.noBit9
  | .imm _ _ => true

/-- R82. -/
def TwoSrc.wf (o : TwoSrc) : Bool :=
  o.ctl.wf && o.dst.wf o.ctl.access && o.src0.wf o.ctl.access &&
  match o.src1 with
  | .reg s => s.wf o.ctl.access
  | .imm _ _ => true

/-- R63: a three-source operand is a general register. -/
def TriOp.wf (t : TriOp) : Bool := regInRange .grf t.reg

/-- R83. -/
def ThreeSrc.wf (o : ThreeSrc) : Bool :=
  o.ctl.wf && regInRange .grf o.dstReg && o.s0.wf && o.s1.wf && o.s2.wf

/-- R85, R119: the offset is a general register only in `jmpi` (opcode 20h), which then has no immediate. -/
def BranchOne.wf (op : BitVec 7) (o : BranchOne) : Bool :=
  o.ctl.wf && !o.ctl.sat && o.dst.wf o.ctl.access && o.src0.wf o.ctl.access &&
  match o.off, o.tag1 with
  | .jip _, .reg .grf _ => op != 0x20#7
  | .jip _, _ => true
  | .reg r, t => op == 0x20#7 && r.file == .grf && t == .reg .grf r.ty && r.wf o.ctl.access

/-- R86. -/
def BranchTwo.wf (o : BranchTwo) : Bool :=
  o.ctl.wf && !o.ctl.sat && o.dst.wf o.ctl.access

/-- R89: both sources are registers. -/
def MathOp.wf (o : MathOp) : Bool :=
  o.ctl.wf && o.dst.wf o.ctl.access && o.src0.wf o.ctl.access && o.src1.wf o.ctl.access

/-- R91: the payload starts at a 16-byte boundary of a general register. -/
def SendOp.wf (o : SendOp) : Bool :=
  o.ctl.wf && !o.ctl.sat && o.dst.wf o.ctl.access && o.src0.inRange .grf && o.src0.aligned16

/-- R92. -/
def SendsOp.wf (o : SendsOp) : Bool :=
  o.ctl.wf && !o.ctl.sat && o.dst.inRange o.dstFile && o.dst.aligned16 && o.src0.inRange .grf && o.src0.aligned16 &&
  regInRange o.src1File o.src1

/-- R91, R92. -/
def SendForm.wf : SendForm → Bool
  | .plain _ o => o.wf
  | .split _ o => o.wf

/-- The opcodes of the three-source form, which select the compact format (R76, R80). -/
def isThreeSrcOpcode (op : BitVec 7) : Bool := (lookupCode op threeTable).isSome

/-- Whether an opcode number has a row (R95). -/
def isOpcode (op : BitVec 7) : Bool :=
  op == 0x00#7 || op == 0x7E#7 || op == 0x38#7 || op.extractLsb' 2 5 == 0x0C#5 && op != 0x30#7 || op == 0x34#7 ||
  (lookupCode op oneTable).isSome || (lookupCode op twoTable).isSome || (lookupCode op threeTable).isSome ||
  (lookupCode op branchOneTable).isSome || (lookupCode op branchTwoTable).isSome

/-- R72. -/
def CompactTwo.wf (o : CompactTwo) : Bool := isOpcode o.op && !isThreeSrcOpcode o.op

/-- R76. -/
def CompactThree.wf (o : CompactThree) : Bool := isThreeSrcOpcode o.op

/-- A form that some word encodes. -/
def Shape.wf : Shape → Bool
  | .illegal => true
  | .nop _ => true
  | .one _ o => o.wf
  | .two _ o => o.wf
  | .three _ o => o.wf
  | .br1 op o => o.wf op
  | .br2 _ o => o.wf
  | .math _ o => o.wf
  | .send f => f.wf
  | .compact2 o => o.wf
  | .compact3 o => o.wf

/-- A well-formed instruction: its form is, and its constructor is the one the form's codes select. -/
def Instr.wf (i : Instr) : Bool := i.shape.wf && (i.shape.toInstr? == some i)

end Sys2Proof
end

