-- ==== Sys2Proof/Decode.lean ====
section
/-! DEFINITION. Instruction words to instructions (R44-R92), and back. Bits are numbered as in 00_scope.md section 6. -/

namespace Sys2Proof

/-- Why a word is no instruction. -/
inductive DecodeError
  /-- An opcode number without a row (R95): executing it raises the illegal-opcode exception (R100). -/
  | reservedOpcode
  /-- A must-be-zero field that is not zero or a reserved code (R1), with the field's name. -/
  | illFormed (field : String)
deriving DecidableEq, Repr

/-- A decoder's answer. -/
abbrev Decoded (α : Type) := Except DecodeError α

/-- R1: a condition the word must meet. -/
def demand (ok : Bool) (field : String) : Decoded Unit :=
  if ok then .ok () else .error (.illFormed field)

/-- R1: a code must be a listed one. -/
def listed {α : Type} (field : String) : Option α → Decoded α
  | some a => .ok a
  | none => .error (.illFormed field)

/-- Header bits 31:0 from the controls, the opcode and bits 27:24 (R44, R45, R46, R52). -/
def encodeHeader (op : BitVec 7) (x : BitVec 4) (c : Ctl) : BitVec 32 :=
  BitVec.ofBool c.sat ++ BitVec.ofBool c.debug ++ 0#1 ++ BitVec.ofBool c.accWr ++ x ++ c.exec.code ++
  BitVec.ofBool c.predInv ++ c.pred.code c.access ++ c.thread.code ++ c.qtr ++ BitVec.ofBool c.nib ++
  BitVec.ofBool c.noDDChk ++ BitVec.ofBool c.noDDClr ++ c.access.code ++ 0#1 ++ op

/-- The controls of a native word from its first two DWords (R44-R57). -/
def decodeCtl (h oc : BitVec 32) : Decoded Ctl := do
  demand (!h.getLsbD 7) "Reserved7"
  let access ← listed "AccessMode" (AccessMode.ofCode (h.extractLsb' 8 1))
  let thread ← listed "ThreadCtrl" (ThreadCtrl.ofCode (h.extractLsb' 14 2))
  let pred ← listed "PredCtrl" (PredCtrl.ofCode access (h.extractLsb' 16 4))
  let exec ← listed "ExecSize" (ExecSize.ofCode (h.extractLsb' 21 3))
  return { access, thread, pred, exec
           noDDClr := h.getLsbD 9, noDDChk := h.getLsbD 10, nib := h.getLsbD 11, qtr := h.extractLsb' 12 2
           predInv := h.getLsbD 20, accWr := h.getLsbD 28, cmpt := false, debug := h.getLsbD 30, sat := h.getLsbD 31
           flagSub := oc.getLsbD 0, flagReg := oc.getLsbD 1, noMask := oc.getLsbD 2 }

/-- Instruction bits 34:32 (R56, R57). -/
def encodeMaskFlag (c : Ctl) : BitVec 3 :=
  BitVec.ofBool c.noMask ++ BitVec.ofBool c.flagReg ++ BitVec.ofBool c.flagSub

/-- The 13 location bits of an Align1 operand: register and byte number, or a0 subregister and immediate[8:0]
(R58, R61). -/
def encodeLoc13 : Loc → BitVec 13
  | .direct reg sub => reg ++ sub
  | .indirect a imm => 0#1 ++ a ++ imm.extractLsb' 0 9

/-- The 9 location bits of a 16-byte-aligned operand (R59, R62, R92). -/
def encodeLoc9 : Loc → BitVec 9
  | .direct reg sub => reg ++ sub.extractLsb' 4 1
  | .indirect a imm => 0#1 ++ a ++ imm.extractLsb' 4 5

/-- `AddrMode` of a location (R70, R71). -/
def Loc.mode : Loc → BitVec 1
  | .direct _ _ => 0#1
  | .indirect _ _ => 1#1

/-- Bit 9 of an indirect location's address immediate; zero for a direct one (R56, R66, R67). -/
def Loc.bit9 : Loc → BitVec 1
  | .direct _ _ => 0#1
  | .indirect _ imm => imm.extractLsb' 9 1

/-- A location from `AddrMode`, the 13 location bits and bit 9 (R41: a0 subregisters 8..15 do not exist). -/
def decodeLoc13 (mode : Bool) (b : BitVec 13) (bit9 : BitVec 1) : Decoded Loc :=
  if mode then do
    demand (!b.getLsbD 12) "AddrSubRegNum"
    return .indirect (b.extractLsb' 9 3) (bit9 ++ b.extractLsb' 0 9)
  else do
    demand (bit9 == 0#1) "AddressImmediate9"
    return .direct (b.extractLsb' 5 8) (b.extractLsb' 0 5)

/-- As `decodeLoc13` for the 16-byte-aligned encodings. -/
def decodeLoc9 (mode : Bool) (b : BitVec 9) (bit9 : BitVec 1) : Decoded Loc :=
  if mode then do
    demand (!b.getLsbD 8) "AddrSubRegNum"
    return .indirect (b.extractLsb' 5 3) (bit9 ++ b.extractLsb' 0 5 ++ 0#4)
  else do
    demand (bit9 == 0#1) "AddressImmediate9"
    return .direct (b.extractLsb' 1 8) (b.extractLsb' 0 1 ++ 0#4)

/-- `SrcMod` as two bits (R71). -/
def SrcMod.code (m : SrcMod) : BitVec 2 := BitVec.ofBool m.neg ++ BitVec.ofBool m.abs

/-- R71. -/
def SrcMod.ofCode (c : BitVec 2) : SrcMod := { neg := c.getLsbD 1, abs := c.getLsbD 0 }

/-- The 25 bits of a source (R61, R62). -/
def encodeSrc (s : SrcOp) : BitVec 25 :=
  match s.region with
  | .align1 vs w hs => vs.code ++ w.code ++ hs.code ++ s.loc.mode ++ s.mod.code ++ encodeLoc13 s.loc
  | .align16 vs swz =>
    vs.code ++ 0#1 ++ swz.extractLsb' 4 4 ++ s.loc.mode ++ s.mod.code ++ encodeLoc9 s.loc ++ swz.extractLsb' 0 4

/-- A source from its 25 bits, its bit 9 and its file and type (R61, R62). -/
def decodeSrc (a : AccessMode) (file : RegFile) (ty : RType) (b : BitVec 25) (bit9 : BitVec 1) : Decoded SrcOp := do
  let vs ← listed "VertStride" (VStride.ofCode (b.extractLsb' 21 4))
  match a with
  | .align1 =>
    let w ← listed "Width" (Width.ofCode (b.extractLsb' 18 3))
    let hs ← listed "HorzStride" (HStride.ofCode (b.extractLsb' 16 2))
    let loc ← decodeLoc13 (b.getLsbD 15) (b.extractLsb' 0 13) bit9
    let s : SrcOp := { file, ty, loc, mod := SrcMod.ofCode (b.extractLsb' 13 2), region := .align1 vs w hs }
    demand (s.wf a) "SourceRegion"
    return s
  | .align16 =>
    demand (!b.getLsbD 20) "SourceReserved20"
    let loc ← decodeLoc9 (b.getLsbD 15) (b.extractLsb' 4 9) bit9
    let s : SrcOp :=
      { file, ty, loc, mod := SrcMod.ofCode (b.extractLsb' 13 2)
        region := .align16 vs (b.extractLsb' 16 4 ++ b.extractLsb' 0 4) }
    demand (s.wf a) "SourceRegion"
    return s

/-- The 16 bits of a destination (R58, R59). -/
def encodeDst16 (d : DstOp) : BitVec 16 :=
  match d.region with
  | .align1 hs => d.loc.mode ++ hs.code ++ encodeLoc13 d.loc
  | .align16 en => d.loc.mode ++ 0#2 ++ encodeLoc9 d.loc ++ en

/-- A destination from its 16 bits, bit 47 and its file and type (R56, R58, R59). -/
def decodeDst (a : AccessMode) (file : RegFile) (ty : RType) (b : BitVec 16) (bit9 : BitVec 1) : Decoded DstOp := do
  match a with
  | .align1 =>
    let hs ← listed "DstHorzStride" (HStride.ofCode (b.extractLsb' 13 2))
    let loc ← decodeLoc13 (b.getLsbD 15) (b.extractLsb' 0 13) bit9
    let d : DstOp := { file, ty, loc, region := .align1 hs }
    demand (d.wf a) "DstRegNum"
    return d
  | .align16 =>
    demand (b.extractLsb' 13 2 == 0#2) "DstReserved62:61"
    let loc ← decodeLoc9 (b.getLsbD 15) (b.extractLsb' 4 9) bit9
    let d : DstOp := { file, ty, loc, region := .align16 (b.extractLsb' 0 4) }
    demand (d.wf a) "DstRegNum"
    return d

/-- The operand controls, instruction bits 63:32 (R56). -/
def encodeOperandControls (c : Ctl) (d : DstOp) (ty0 : BitVec 4) (file0 : BitVec 2) : BitVec 32 :=
  encodeDst16 d ++ d.loc.bit9 ++ ty0 ++ file0 ++ d.ty.code ++ d.file.code ++ encodeMaskFlag c

/-- A register file field that must name a register (R70). -/
def regFileOf (c : BitVec 2) : Option RegFile :=
  match c.toNat with
  | 0 => some .arf
  | 1 => some .grf
  | _ => none

/-- The destination of the operand controls (R56). -/
def decodeOcDst (a : AccessMode) (oc : BitVec 32) : Decoded DstOp := do
  let file ← listed "DstRegFile" (regFileOf (oc.extractLsb' 3 2))
  let ty ← listed "DstType" (RType.ofCode (oc.extractLsb' 5 4))
  decodeDst a file ty (oc.extractLsb' 16 16) (oc.extractLsb' 15 1)

/-- The file and type of source 0 in the operand controls (R56). -/
def decodeTag0 (oc : BitVec 32) : Decoded Tag :=
  listed "Src0Type" (Tag.ofCodes (oc.extractLsb' 9 2) (oc.extractLsb' 11 4))

/-- A native word from its parts. -/
def assemble (hi : BitVec 64) (oc h : BitVec 32) : BitVec 128 := hi ++ oc ++ h

/-- R81, R64, R65. -/
def encodeOne (op : BitVec 7) (o : OneSrc) : BitVec 128 :=
  match o.src0 with
  | .reg s => assemble (0#39 ++ encodeSrc s) (encodeOperandControls o.ctl o.dst s.ty.code s.file.code)
      (encodeHeader op o.cond.code o.ctl)
  | .imm ty v => assemble (v ++ 0#32) (encodeOperandControls o.ctl o.dst ty.code 3#2) (encodeHeader op o.cond.code o.ctl)

/-- R81, R64, R65 (93 section 1.2: bits 24:0 of the container of an immediate are refused unless zero). -/
def decodeOne (hi : BitVec 64) (oc h : BitVec 32) : Decoded OneSrc := do
  let ctl ← decodeCtl h oc
  let cond ← listed "CondModifier" (CondMod.ofCode (h.extractLsb' 24 4))
  let dst ← decodeOcDst ctl.access oc
  match ← decodeTag0 oc with
  | .reg file ty =>
    demand (hi.extractLsb' 25 39 == 0#39) "Reserved127:89"
    let s ← decodeSrc ctl.access file ty (hi.extractLsb' 0 25) 0#1
    return { ctl, cond, dst, src0 := .reg s }
  | .imm ty =>
    demand (hi.extractLsb' 25 7 == 0#7) "Reserved95:89"
    demand (hi.extractLsb' 0 25 == 0#25) "Bits88:64"
    return { ctl, cond, dst, src0 := .imm ty (hi.extractLsb' 32 32) }

/-- The sources container of two registers (R67). -/
def encodeRegReg (s0 s1 : SrcOp) : BitVec 64 :=
  0#6 ++ s1.loc.bit9 ++ encodeSrc s1 ++ s0.loc.bit9 ++ s1.ty.code ++ s1.file.code ++ encodeSrc s0

/-- R82, R66, R67. -/
def encodeTwo (op : BitVec 7) (o : TwoSrc) : BitVec 128 :=
  let oc := encodeOperandControls o.ctl o.dst o.src0.ty.code o.src0.file.code
  let h := encodeHeader op o.cond.code o.ctl
  match o.src1 with
  | .reg s => assemble (encodeRegReg o.src0 s) oc h
  | .imm ty v => assemble (v ++ o.src0.loc.bit9 ++ ty.code ++ 3#2 ++ encodeSrc o.src0) oc h

/-- The register source 0 of the two-source containers (R66, R67; R82: source 0 is not an immediate). -/
def decodeSrc0 (a : AccessMode) (hi : BitVec 64) (oc : BitVec 32) : Decoded SrcOp := do
  match ← decodeTag0 oc with
  | .reg file ty => decodeSrc a file ty (hi.extractLsb' 0 25) (hi.extractLsb' 31 1)
  | .imm _ => .error (.illFormed "Src0RegFile")

/-- R82, R66, R67. -/
def decodeTwo (hi : BitVec 64) (oc h : BitVec 32) : Decoded TwoSrc := do
  let ctl ← decodeCtl h oc
  let cond ← listed "CondModifier" (CondMod.ofCode (h.extractLsb' 24 4))
  let dst ← decodeOcDst ctl.access oc
  let src0 ← decodeSrc0 ctl.access hi oc
  match ← listed "Src1Type" (Tag.ofCodes (hi.extractLsb' 25 2) (hi.extractLsb' 27 4)) with
  | .reg file ty =>
    demand (hi.extractLsb' 58 6 == 0#6) "Reserved127:122"
    let s ← decodeSrc ctl.access file ty (hi.extractLsb' 32 25) (hi.extractLsb' 57 1)
    return { ctl, cond, dst, src0, src1 := .reg s }
  | .imm ty => return { ctl, cond, dst, src0, src1 := .imm ty (hi.extractLsb' 32 32) }

/-- The 21 bits of a three-source operand (R63). -/
def encodeTri (t : TriOp) : BitVec 21 :=
  t.sub.extractLsb' 0 1 ++ t.reg ++ t.sub.extractLsb' 1 3 ++ t.swz ++ BitVec.ofBool t.rep

/-- R63. -/
def decodeTri (b : BitVec 21) (mod : SrcMod) : Decoded TriOp := do
  let t : TriOp :=
    { reg := b.extractLsb' 12 8, sub := b.extractLsb' 9 3 ++ b.extractLsb' 20 1, swz := b.extractLsb' 1 8
      rep := b.getLsbD 0, mod }
  demand t.wf "SrcRegNum"
  return t

/-- R83. -/
def encodeThree (op : BitVec 7) (o : ThreeSrc) : BitVec 128 :=
  assemble (0#1 ++ encodeTri o.s2 ++ encodeTri o.s1 ++ encodeTri o.s0)
    (o.dstReg ++ o.dstSub ++ o.chanEn ++ o.dstTy.code ++ o.srcTy.code ++ o.s2.mod.code ++ o.s1.mod.code ++
      o.s0.mod.code ++ BitVec.ofBool o.half1 ++ BitVec.ofBool o.half2 ++ encodeMaskFlag o.ctl)
    (encodeHeader op o.cond.code o.ctl)

/-- R83. -/
def decodeThree (hi : BitVec 64) (oc h : BitVec 32) : Decoded ThreeSrc := do
  let ctl ← decodeCtl h oc
  let cond ← listed "CondModifier" (CondMod.ofCode (h.extractLsb' 24 4))
  demand (!hi.getLsbD 63) "Reserved127"
  let dstTy ← listed "DstType" (TType.ofCode (oc.extractLsb' 14 3))
  let srcTy ← listed "SrcType" (TType.ofCode (oc.extractLsb' 11 3))
  let s0 ← decodeTri (hi.extractLsb' 0 21) (SrcMod.ofCode (oc.extractLsb' 5 2))
  let s1 ← decodeTri (hi.extractLsb' 21 21) (SrcMod.ofCode (oc.extractLsb' 7 2))
  let s2 ← decodeTri (hi.extractLsb' 42 21) (SrcMod.ofCode (oc.extractLsb' 9 2))
  demand (regInRange .grf (oc.extractLsb' 24 8)) "DstRegNum"
  return { ctl, cond, dstTy, srcTy, s0, s1, s2
           dstReg := oc.extractLsb' 24 8, dstSub := oc.extractLsb' 21 3, chanEn := oc.extractLsb' 17 4
           half1 := oc.getLsbD 4, half2 := oc.getLsbD 3 }

/-- R85; the register offset of `jmpi` sits where source 1 does (R67, R119). -/
def encodeBranchOne (op : BitVec 7) (o : BranchOne) : BitVec 128 :=
  let oc := encodeOperandControls o.ctl o.dst o.src0.ty.code o.src0.file.code
  let h := encodeHeader op 0#4 o.ctl
  match o.off with
  | .jip v => assemble (v ++ o.src0.loc.bit9 ++ o.tag1.typeCode ++ o.tag1.fileCode ++ encodeSrc o.src0) oc h
  | .reg r => assemble (encodeRegReg o.src0 r) oc h

/-- R85. Saturate is refused: R52 makes the bit MBZ in an opcode without the Saturation property, whose table is absent, and a
branch has no result (DESIGN CHOICE, log 52). -/
def decodeBranchOne (op : BitVec 7) (hi : BitVec 64) (oc h : BitVec 32) : Decoded BranchOne := do
  let ctl ← decodeCtl h oc
  demand (!ctl.sat) "Saturate"
  demand (h.extractLsb' 24 4 == 0#4) "Reserved27:24"
  let dst ← decodeOcDst ctl.access oc
  let src0 ← decodeSrc0 ctl.access hi oc
  let tag1 ← listed "Src1Type" (Tag.ofCodes (hi.extractLsb' 25 2) (hi.extractLsb' 27 4))
  match op == 0x20#7, tag1 with
  | true, .reg .grf ty =>
    demand (hi.extractLsb' 58 6 == 0#6) "Reserved127:122"
    let r ← decodeSrc ctl.access .grf ty (hi.extractLsb' 32 25) (hi.extractLsb' 57 1)
    return { ctl, dst, src0, tag1, off := .reg r }
  | _, _ => return { ctl, dst, src0, tag1, off := .jip (hi.extractLsb' 32 32) }

/-- R86. -/
def encodeBranchTwo (op : BitVec 7) (o : BranchTwo) : BitVec 128 :=
  assemble (o.jip ++ o.uip) (encodeOperandControls o.ctl o.dst o.tag0.typeCode o.tag0.fileCode)
    (encodeHeader op 0#4 o.ctl)

/-- R86. -/
def decodeBranchTwo (hi : BitVec 64) (oc h : BitVec 32) : Decoded BranchTwo := do
  let ctl ← decodeCtl h oc
  demand (!ctl.sat) "Saturate"
  demand (h.extractLsb' 24 4 == 0#4) "Reserved27:24"
  let dst ← decodeOcDst ctl.access oc
  let tag0 ← decodeTag0 oc
  return { ctl, dst, tag0, jip := hi.extractLsb' 32 32, uip := hi.extractLsb' 0 32 }

/-- R89. -/
def encodeMath (fc : BitVec 4) (o : MathOp) : BitVec 128 :=
  assemble (encodeRegReg o.src0 o.src1) (encodeOperandControls o.ctl o.dst o.src0.ty.code o.src0.file.code)
    (encodeHeader 0x38#7 fc o.ctl)

/-- R89: no immediate variant is listed. -/
def decodeMath (hi : BitVec 64) (oc h : BitVec 32) : Decoded MathOp := do
  let ctl ← decodeCtl h oc
  let dst ← decodeOcDst ctl.access oc
  let src0 ← decodeSrc0 ctl.access hi oc
  match ← listed "Src1Type" (Tag.ofCodes (hi.extractLsb' 25 2) (hi.extractLsb' 27 4)) with
  | .reg file ty =>
    demand (hi.extractLsb' 58 6 == 0#6) "Reserved127:122"
    let src1 ← decodeSrc ctl.access file ty (hi.extractLsb' 32 25) (hi.extractLsb' 57 1)
    return { ctl, dst, src0, src1 }
  | .imm _ => .error (.illFormed "Src1RegFile")

/-- The 31 descriptor bits of a word (R69). -/
def Desc.bits : Desc → BitVec 31
  | .imm v => v
  | .reg => 0#31

/-- `SelReg32Desc` of `send`: the file of source 1, IMM or ARF (R91, `SEND_SRC0_LAYOUT`). -/
def Desc.selPlain : Desc → BitVec 2
  | .imm _ => 3#2
  | .reg => 0#2

/-- `SelReg32Desc` of `sends` (R92, D20). -/
def Desc.selSplit : Desc → BitVec 1
  | .imm _ => 0#1
  | .reg => 1#1

/-- The opcode number of a send (R95). -/
def SendForm.opcode : SendForm → BitVec 7
  | .plain false _ => 0x31#7
  | .plain true _ => 0x32#7
  | .split false _ => 0x33#7
  | .split true _ => 0x34#7

/-- R91, R69. -/
def encodeSend (op : BitVec 7) (o : SendOp) : BitVec 128 :=
  assemble
    (BitVec.ofBool o.eot ++ o.desc.bits ++ 0#1 ++ o.ex.extractLsb' 12 4 ++ o.desc.selPlain ++ o.ex.extractLsb' 8 4 ++
      0#1 ++ o.ex.extractLsb' 4 4 ++ o.src0.mode ++ o.src0.bit9 ++ 0#1 ++ encodeLoc9 o.src0 ++ o.ex.extractLsb' 0 4)
    (encodeOperandControls o.ctl o.dst o.tag0.typeCode o.tag0.fileCode)
    (encodeHeader op o.sfid.code o.ctl)

/-- R91, R69: the payload of a send is a general register in range. Saturate is refused as in a branch (log 52). -/
def decodeSend (hi : BitVec 64) (oc h : BitVec 32) : Decoded SendOp := do
  let ctl ← decodeCtl h oc
  demand (!ctl.sat) "Saturate"
  let sfid ← listed "SFID" (Sfid.ofCode (h.extractLsb' 24 4))
  let dst ← decodeOcDst ctl.access oc
  let tag0 ← decodeTag0 oc
  demand (!hi.getLsbD 31 && !hi.getLsbD 20 && !hi.getLsbD 13) "Reserved95/84/77"
  let src0 ← decodeLoc9 (hi.getLsbD 15) (hi.extractLsb' 4 9) (hi.extractLsb' 14 1)
  demand (src0.inRange .grf) "SrcRegNum"
  let ex := hi.extractLsb' 27 4 ++ hi.extractLsb' 21 4 ++ hi.extractLsb' 16 4 ++ hi.extractLsb' 0 4
  let desc ← match (hi.extractLsb' 25 2).toNat with
    | 0 => .ok Desc.reg
    | 3 => .ok (Desc.imm (hi.extractLsb' 32 31))
    | _ => .error (.illFormed "SelReg32Desc")
  return { ctl, sfid, dst, tag0, src0, ex, eot := hi.getLsbD 63, desc }

/-- R92, R69. -/
def encodeSends (op : BitVec 7) (o : SendsOp) : BitVec 128 :=
  assemble
    (BitVec.ofBool o.eot ++ o.desc.bits ++ o.ex ++ o.src0.mode ++ o.src0.bit9 ++ o.desc.selSplit ++ encodeLoc9 o.src0 ++
      o.exLen)
    (o.dst.mode ++ o.dst.bit9 ++ 0#1 ++ encodeLoc9 o.dst ++ o.src1 ++ 0#3 ++ o.dstTy.code ++
      o.src1File.code.extractLsb' 0 1 ++ o.dstFile.code.extractLsb' 0 1 ++ encodeMaskFlag o.ctl)
    (encodeHeader op o.sfid.code o.ctl)

/-- `RegFile[0]` (R92). -/
def regFileOfBit (b : Bool) : RegFile := if b then .grf else .arf

/-- R92, R69. -/
def decodeSends (hi : BitVec 64) (oc h : BitVec 32) : Decoded SendsOp := do
  let ctl ← decodeCtl h oc
  demand (!ctl.sat) "Saturate"
  let sfid ← listed "SFID" (Sfid.ofCode (h.extractLsb' 24 4))
  demand (!oc.getLsbD 29) "Reserved61"
  demand (oc.extractLsb' 9 3 == 0#3) "Reserved43:41"
  let dstTy ← listed "DstType" (RType.ofCode (oc.extractLsb' 5 4))
  let dst ← decodeLoc9 (oc.getLsbD 31) (oc.extractLsb' 20 9) (oc.extractLsb' 30 1)
  demand (dst.inRange (regFileOfBit (oc.getLsbD 3))) "DstRegNum"
  let src0 ← decodeLoc9 (hi.getLsbD 15) (hi.extractLsb' 4 9) (hi.extractLsb' 14 1)
  demand (src0.inRange .grf) "SrcRegNum"
  demand (regInRange (regFileOfBit (oc.getLsbD 4)) (oc.extractLsb' 12 8)) "Src1RegNum"
  let desc := if hi.getLsbD 13 then Desc.reg else Desc.imm (hi.extractLsb' 32 31)
  return { ctl, sfid, dstTy, dst, src0, desc
           dstFile := regFileOfBit (oc.getLsbD 3), src1File := regFileOfBit (oc.getLsbD 4)
           src1 := oc.extractLsb' 12 8, ex := hi.extractLsb' 16 16, exLen := hi.extractLsb' 0 4, eot := hi.getLsbD 63 }

/-- R72. -/
def encodeCompactTwo (o : CompactTwo) : BitVec 64 :=
  o.src1 ++ o.src0 ++ o.dst ++ o.src1Index ++ o.src0Index ++ 1#1 ++ 0#1 ++ o.cond ++ BitVec.ofBool o.accWr ++ o.subReg ++
  o.dataType ++ o.control ++ BitVec.ofBool o.debug ++ o.op

/-- R72. -/
def decodeCompactTwo (w : BitVec 64) : Decoded CompactTwo := do
  demand (!w.getLsbD 28) "Reserved28"
  return { op := w.extractLsb' 0 7, debug := w.getLsbD 7, control := w.extractLsb' 8 5, dataType := w.extractLsb' 13 5
           subReg := w.extractLsb' 18 5, accWr := w.getLsbD 23, cond := w.extractLsb' 24 4
           src0Index := w.extractLsb' 30 5, src1Index := w.extractLsb' 35 5, dst := w.extractLsb' 40 8
           src0 := w.extractLsb' 48 8, src1 := w.extractLsb' 56 8 }

/-- R76. -/
def encodeCompactThree (o : CompactThree) : BitVec 64 :=
  o.src2 ++ o.src1 ++ o.src0 ++ o.sub2 ++ o.sub1 ++ o.sub0 ++ BitVec.ofBool o.rep2 ++ BitVec.ofBool o.rep1 ++
  BitVec.ofBool o.sat ++ BitVec.ofBool o.debug ++ 1#1 ++ BitVec.ofBool o.rep0 ++ 0#9 ++ o.dst ++ o.source ++ o.control ++
  0#1 ++ o.op

/-- R76. -/
def decodeCompactThree (w : BitVec 64) : Decoded CompactThree := do
  demand (w.extractLsb' 19 9 == 0#9) "Reserved27:19"
  demand (!w.getLsbD 7) "Reserved7"
  return { op := w.extractLsb' 0 7, control := w.extractLsb' 8 2, source := w.extractLsb' 10 2, dst := w.extractLsb' 12 7
           rep0 := w.getLsbD 28, debug := w.getLsbD 30, sat := w.getLsbD 31, rep1 := w.getLsbD 32, rep2 := w.getLsbD 33
           sub0 := w.extractLsb' 34 3, sub1 := w.extractLsb' 37 3, sub2 := w.extractLsb' 40 3, src0 := w.extractLsb' 43 7
           src1 := w.extractLsb' 50 7, src2 := w.extractLsb' 57 7 }

/-- The form an opcode number selects (R95), on a native word. -/
def decodeNative (w : BitVec 128) : Decoded Shape := do
  let h := w.extractLsb' 0 32
  let oc := w.extractLsb' 32 32
  let hi := w.extractLsb' 64 64
  let op := w.extractLsb' 0 7
  if op == 0x00#7 then do
    demand (w == 0#128) "Reserved127:7"
    return .illegal
  else if op == 0x7E#7 then do
    demand (w.extractLsb' 31 97 == 0#97 && w.extractLsb' 7 23 == 0#23) "Reserved127:31/29:7"
    return .nop (w.getLsbD 30)
  else if (lookupCode op oneTable).isSome then return .one op (← decodeOne hi oc h)
  else if (lookupCode op twoTable).isSome then return .two op (← decodeTwo hi oc h)
  else if (lookupCode op threeTable).isSome then return .three op (← decodeThree hi oc h)
  else if (lookupCode op branchOneTable).isSome then return .br1 op (← decodeBranchOne op hi oc h)
  else if (lookupCode op branchTwoTable).isSome then return .br2 op (← decodeBranchTwo hi oc h)
  else if op == 0x38#7 then return .math (w.extractLsb' 24 4) (← decodeMath hi oc h)
  else if op == 0x31#7 then return .send (.plain false (← decodeSend hi oc h))
  else if op == 0x32#7 then return .send (.plain true (← decodeSend hi oc h))
  else if op == 0x33#7 then return .send (.split false (← decodeSends hi oc h))
  else if op == 0x34#7 then return .send (.split true (← decodeSends hi oc h))
  else .error .reservedOpcode

/-- A compact word: which of the two formats, by its opcode (R72, R76, R80). -/
def decodeCompact (w : BitVec 64) : Decoded Shape :=
  if !isOpcode (w.extractLsb' 0 7) then .error .reservedOpcode
  else if isThreeSrcOpcode (w.extractLsb' 0 7) then do return .compact3 (← decodeCompactThree w)
  else do return .compact2 (← decodeCompactTwo w)

/-- Bit 29 of the first DWord says which length a word has (R55). -/
def isCompact (w : BitVec 128) : Bool := w.getLsbD 29

/-- The form of the instruction in a word; of a compact one, only bits 63:0 are looked at. -/
def decodeShape (w : BitVec 128) : Decoded Shape :=
  if isCompact w then decodeCompact (w.extractLsb' 0 64) else decodeNative w

/-- The instruction in a word (R80). -/
def decode (w : BitVec 128) : Decoded Instr := do
  match (← decodeShape w).toInstr? with
  | some i => .ok i
  | none => .error .reservedOpcode

/-- The word of a form; a compact one in bits 63:0. -/
def encodeShape : Shape → BitVec 128
  | .illegal => 0#128
  | .nop d => 0#97 ++ BitVec.ofBool d ++ 0#23 ++ 0x7E#7
  | .one op o => encodeOne op o
  | .two op o => encodeTwo op o
  | .three op o => encodeThree op o
  | .br1 op o => encodeBranchOne op o
  | .br2 op o => encodeBranchTwo op o
  | .math fc o => encodeMath fc o
  | .send (.plain w o) => encodeSend (SendForm.opcode (.plain w o)) o
  | .send (.split w o) => encodeSends (SendForm.opcode (.split w o)) o
  | .compact2 o => 0#64 ++ encodeCompactTwo o
  | .compact3 o => 0#64 ++ encodeCompactThree o

/-- The word of an instruction. -/
def encode (i : Instr) : BitVec 128 := encodeShape i.shape

/-- Bytes of a word in memory (R9, R44, R55). -/
def wordBytes (w : BitVec 128) : Nat := if isCompact w then 8 else 16

/-- The native `send` whose immediate descriptor is `d`, to a shared function: one general register r0 as payload, null
destination (the rest of the word zero). -/
def sendWordOf (sfid : BitVec 4) (d : BitVec 32) : BitVec 128 :=
  d ++ 0x06000000#32 ++ 0x00000200#32 ++ (0#4 ++ sfid ++ 0x000031#24)

/-- The shared function whose list of message types has the descriptor's (rows of width 32 of the opcode table). -/
def sfidOfDescriptor (d : BitVec 32) : BitVec 4 :=
  if (lookupCode (d.extractLsb' 14 5) dp0Table).isSome then 0xA#4
  else if (lookupCode (d.extractLsb' 14 5) dp1Table).isSome then 0xC#4
  else if (lookupCode (d.extractLsb' 15 4) dp2Table).isSome then 0x4#4
  else if (lookupCode (d.extractLsb' 14 4) readOnlyTable).isSome then 0x9#4
  else if d.extractLsb' 15 3 == 0x6#3 then 0x5#4
  else 0x7#4

/-- A row's descriptor with the Message Length it leaves open: a length of 0 is no message (R202), so a row's word that has
none is given 15 registers, or the one register of a thread spawner message (R220). -/
def withMessageLength (sfid : BitVec 4) (d : BitVec 32) : BitVec 32 :=
  if d.extractLsb' 25 4 = 0#4 then d ||| (if sfid = 0x7#4 then 0x02000000#32 else 0x1E000000#32) else d

/-- A `send` to a shared function (log 10): of one register where no message of it has a row, else with a register
descriptor. -/
def functionWord (sfid : BitVec 4) : BitVec 128 :=
  if sfid == 0x2#4 || sfid == 0x3#4 || sfid == 0x6#4 || sfid == 0x8#4 || sfid == 0xB#4 || sfid == 0xD#4 then
    sendWordOf sfid 0x02000000#32
  else 0#64 ++ 0x00000200#32 ++ (0#4 ++ sfid ++ 0x000031#24)

/-- The instruction word a row of the opcode table stands for (log 10): a row of 32 bits is a message descriptor, placed in
a `send`; a row that gives only the shared function (opcode bits zero) is a `send` to it. -/
def tableWord (nbits w : Nat) : BitVec 128 :=
  let b := BitVec.ofNat 128 w
  if nbits = 32 then
    let d := b.extractLsb' 0 32
    sendWordOf (sfidOfDescriptor d) (withMessageLength (sfidOfDescriptor d) d)
  else if nbits = 128 ∧ b.extractLsb' 0 24 = 0#24 ∧ b.extractLsb' 24 4 ≠ 0#4 ∧ b.extractLsb' 28 100 = 0#100 then
    functionWord (b.extractLsb' 24 4)
  else b

/-- The instruction the decoder reads from a row's word (log 10). -/
def decodeTableWord (nbits w : Nat) : Option Instr :=
  match decode (tableWord nbits w) with
  | .ok i => some i
  | .error _ => none

end Sys2Proof
end

