-- ==== Sys2Proof/Machine/Move.lean ====
section
/-! DEFINITION. Moves, logic and shifts (R101-R111). -/

namespace Sys2Proof.Machine

/-- Whether a `mov` is a raw copy of bits (R101): same types, no modifier, no saturation. -/
def isRawCopy (o : OneSrc) : Bool :=
  Src.elemType o.src0 == o.dst.ty && Src.modifier o.src0 == ⟨false, false⟩ && !o.ctl.sat

/-- The value a move takes from a source value (R97): a float becomes a quiet NaN or a flushed zero where it is one. -/
def movedValue (v : FloatEnv) (free : QWord) (x : Val) : Val :=
  match x with
  | .int i => .int i
  | .flt p b => .flt p (convertFloat v p p free b)

/-- One channel of a move (R101). -/
def moveLane (s : State) (o : OneSrc) (c : Nat) : Exec Lane :=
  if isRawCopy o then do
    let raw ← readSource s o.src0 drawSrc0 c
    let v := valueOf o.dst.ty raw
    return { v, r := raw, f := conditionOf o.cond o.dst.ty v, acc := accBits v }
  else do
    let x ← sourceValue s o.src0 drawSrc0 c
    return finishLane s o.ctl o.cond o.dst.ty c (movedValue s.eu.floatEnv (s.draw c drawResult) x)

/-- The move of R101. -/
def move (s : State) (o : OneSrc) : Exec State := do
  checkFloatMode s.eu (oneTypes o)
  channelwise s o.ctl (.op o.dst) (plainUsage o.cond (oneTypes o)) (moveLane s o)

/-- R101. -/
def execMov (o : OneSrc) (s : State) : Host.Outcome State Fault Refusal := (move s o).outcome

/-- R103: a move; the indexed region is the operand form's. -/
def execMovi (o : OneSrc) (s : State) : Host.Outcome State Fault Refusal := (move s o).outcome

/-- The float selected of two (R102): the other one if one is a NaN, a quiet NaN if both are. -/
def selectFloat (v : FloatEnv) (p : Fmt) (free order : QWord) (cond : CondMod) (a b : Nat) : Nat :=
  if isNan p a && isNan p b then quietNan p free
  else if isNan p a then flush v p b
  else if isNan p b then flush v p a
  else if CondMod.picks cond order (compareNum (operandNum v p a) (operandNum v p b)) then flush v p a else flush v p b

/-- R102, with a conditional modifier: minimum and maximum; which source `.o` and `.u` take is a draw (log 53). -/
def selectByCondition (s : State) (o : TwoSrc) : Exec State := do
  let u := plainUsage o.cond (twoTypes o)
  channelwise s o.ctl (.op o.dst) { u with writesFlags := false } fun c => do
    let x ← sourceValue s (.reg o.src0) drawSrc0 c
    let y ← sourceValue s o.src1 drawSrc1 c
    let v : Val ← match ← unify s.eu.floatEnv (s.draw c drawResult) x y with
      | .ints a b => pure (Val.int (if CondMod.picks o.cond (s.draw c drawOrder) (some (compareInt a b)) then a else b))
      | .flts p a b => pure (Val.flt p (selectFloat s.eu.floatEnv p (s.draw c drawResult) (s.draw c drawOrder) o.cond a b))
    return finishLane s o.ctl o.cond o.dst.ty c v

/-- R102, predicated: the predicate selects and does not gate the write. Of sources of different types (floats of two
precisions, a float and an integer) R102 does not say that they are brought to one type: the chosen source alone is moved, in
its own type, to the destination (DESIGN CHOICE, log 57). -/
def selectByPredicate (s : State) (o : TwoSrc) : Exec State := do
  let off ← channelOffset o.ctl (usesDouble (twoTypes o))
  let u := plainUsage o.cond (twoTypes o)
  channelwise s o.ctl (.op o.dst) { u with predicateGates := false } fun c => do
    let x ← sourceValue s (.reg o.src0) drawSrc0 c
    let y ← sourceValue s o.src1 drawSrc1 c
    let z := if predicateMask s.eu o.ctl (off + c) then x else y
    return finishLane s o.ctl o.cond o.dst.ty c (movedValue s.eu.floatEnv (s.draw c drawResult) z)

/-- R102: neither a predicate nor a modifier, or both, is refused. -/
def execSel (o : TwoSrc) (s : State) : Host.Outcome State Fault Refusal :=
  (do
    checkFloatMode s.eu (twoTypes o)
    checkSource1 o.src1
    checkPacked o
    match decide (o.ctl.pred = .none), decide (o.cond = .none) with
    | false, true => selectByPredicate s o
    | true, false => selectByCondition s o
    | _, _ => refuse .control : Exec State).outcome

/-- Whether the result of a two-source logic operation is read as signed: both sources are (log 17). -/
def logicSigned (o : TwoSrc) : Bool := RType.signed o.src0.ty && RType.signed (Src.elemType o.src1)

/-- Width in bits of a two-source logic operation: the wider source's (R105). -/
def logicWidth (o : TwoSrc) : Nat := 8 * max o.src0.ty.size (Src.elemType o.src1).size

/-- A bitwise operation on two integers at the operation's width (R105). -/
def bitwise (o : TwoSrc) (op : Nat → Nat → Nat) (a b : Int) : Int :=
  let w := logicWidth o
  let n := op (a % 2 ^ w).toNat (b % 2 ^ w).toNat
  if logicSigned o && n ≥ 2 ^ (w - 1) then (n : Int) - 2 ^ w else n

/-- R104: the complement at the source's width. -/
def execNot (o : OneSrc) (s : State) : Host.Outcome State Fault Refusal :=
  (logicUnary s o fun i =>
    if RType.signed (Src.elemType o.src0) then -i - 1
    else 2 ^ (8 * (Src.elemType o.src0).size) - 1 - i).outcome

/-- R105. -/
def execAnd (o : TwoSrc) (s : State) : Host.Outcome State Fault Refusal :=
  (logicBinary s o (bitwise o Nat.land)).outcome

/-- R106. -/
def execOr (o : TwoSrc) (s : State) : Host.Outcome State Fault Refusal :=
  (logicBinary s o (bitwise o Nat.lor)).outcome

/-- R107. -/
def execXor (o : TwoSrc) (s : State) : Host.Outcome State Fault Refusal :=
  (logicBinary s o (bitwise o Nat.xor)).outcome

/-- The shift count (R108): the low five bits, six for a 64-bit source 0. -/
def shiftCount (o : TwoSrc) (k : Int) : Nat := (k % (if o.src0.ty.size = 8 then 64 else 32)).toNat

/-- `s0` as an unsigned integer of its type's width (R108). -/
def unsignedSource (o : TwoSrc) (a : Int) : Int := a % 2 ^ (8 * o.src0.ty.size)

/-- R108: `s0` as an unsigned integer of its width, zero fill. -/
def execShr (o : TwoSrc) (s : State) : Host.Outcome State Fault Refusal :=
  (numeric s o (fun a k => .ok (unsignedSource o a / 2 ^ shiftCount o k)) openFloat).outcome

/-- R109: exact, then the destination's low bits or its range. -/
def execShl (o : TwoSrc) (s : State) : Host.Outcome State Fault Refusal :=
  (numeric s o (fun a k => .ok (a * 2 ^ shiftCount o k)) openFloat).outcome

/-- R111: sign fill; with an unsigned source type as `shr`. -/
def execAsr (o : TwoSrc) (s : State) : Host.Outcome State Fault Refusal :=
  (numeric s o (fun a k =>
    .ok ((if RType.signed o.src0.ty then a else unsignedSource o a) / 2 ^ shiftCount o k)) openFloat).outcome

/-- R110: "The model refuses it." -/
def execSmov (_ : OneSrc) (_ : State) : Host.Outcome State Fault Refusal := .refused (.unknownOperation "smov")

end Sys2Proof.Machine
end

