-- ==== Sys2Proof/Machine/Compare.lean ====
section
/-! DEFINITION. Compares and the conditional select of three sources (R112-R114). -/

namespace Sys2Proof.Machine

/-- The test of `cmp` (R112), which lists the conditions `.z` to `.le`: that of `.o` and `.u` is a draw (log 53). -/
def cmpTest (v : FloatEnv) (cond : CondMod) (free : QWord) (x : Pair) : Bool :=
  match x with
  | .ints a b => CondMod.picks cond free (some (compareInt a b))
  | .flts p a b => CondMod.picks cond free (compareNum (operandNum v p a) (operandNum v p b))

/-- The test of `cmpn` (R113): true "whatever the modifier" if source 1 is a NaN, false if only source 0 is; else that of `cmp`. -/
def cmpnTest (v : FloatEnv) (cond : CondMod) (free : QWord) (x : Pair) : Bool :=
  match x with
  | .ints _ _ => cmpTest v cond free x
  | .flts p a b => if isNan p b then true else if isNan p a then false else cmpTest v cond free x

/-- A compare (R112): all ones or all zeros in the destination, the test in the flag; no condition, and `Saturate`, are
refused. -/
def compare (s : State) (o : TwoSrc) (test : FloatEnv → CondMod → QWord → Pair → Bool) : Exec State := do
  checkFloatMode s.eu (twoTypes o)
  checkSource1 o.src1
  checkPacked o
  require (o.cond != .none && !o.ctl.sat) .control
  channelwise s o.ctl (.op o.dst) (plainUsage o.cond (twoTypes o)) fun c => do
    let x ← sourceValue s (.reg o.src0) drawSrc0 c
    let y ← sourceValue s o.src1 drawSrc1 c
    let f := test s.eu.floatEnv o.cond (s.draw c drawOrder) (← unify s.eu.floatEnv (s.draw c drawResult) x y)
    let ones : Int := if f then -1 else 0
    return { v := .int ones, r := intBits o.dst.ty ones, f, acc := accBits (.int ones) }

/-- R112. -/
def execCmp (o : TwoSrc) (s : State) : Host.Outcome State Fault Refusal := (compare s o cmpTest).outcome

/-- R113. -/
def execCmpn (o : TwoSrc) (s : State) : Host.Outcome State Fault Refusal := (compare s o cmpnTest).outcome

/-- The choice of `csel` (R114): the condition on source 2, a denormal counting as zero where R97 flushes it. Without a
condition the rule does not say which source is taken: a free value decides (DESIGN CHOICE, log 53). -/
def cselTakes (v : FloatEnv) (cond : CondMod) (order : QWord) (x : Val) : Bool :=
  match cond, x with
  | .none, _ => order.getLsbD 0
  | c, .flt p b => conditionOf c .f (.flt p (flush v p b))
  | c, x => conditionOf c .f x

/-- R114: "`:f` operands only"; source 2 tested against zero; the flag register is not written. -/
def execCsel (o : ThreeSrc) (s : State) : Host.Outcome State Fault Refusal :=
  (do
    require (threeTypes o == [.f, .f, .f, .f]) .operandType
    ternary s o false fun free order a b c =>
      return movedValue s.eu.floatEnv free (if cselTakes s.eu.floatEnv o.cond order c then a else b) : Exec State).outcome

end Sys2Proof.Machine
end

