-- ==== Sys2Proof/Machine/Control.lean ====
section
/-! DEFINITION. Control transfer, wait, no-operation and the illegal instruction (R88, R99, R100, R119-R134, R167). -/

namespace Sys2Proof.Machine

/-- Length of a branch instruction: branches are not compacted (R99). -/
def branchBytes : Nat := 16

/-- Channel `g` is in the window of an instruction (R11). -/
def inWindow (k : Ctl) (off g : Nat) : Bool := decide (off ≤ g) && decide (g < off + k.exec.channels)

/-- `BrEn` of channel `g` (R99): live, in the window, predicate true. -/
def channelBranches (t : Thread) (k : Ctl) (off g : Nat) : Bool :=
  inWindow k off g && t.live g && predicateMask t k g

/-- Single Program Flow (R10). -/
def Thread.singleFlow (t : Thread) : Bool := (t.cr0.getD 0 0#32).getLsbD 2

/-- The channels a branch applies to (R99): with Single Program Flow, all live channels if it applies to any. -/
def branching (t : Thread) (k : Ctl) (off g : Nat) : Bool :=
  if t.singleFlow then t.live g && (List.range 32).any (channelBranches t k off) else channelBranches t k off g

/-- Whether some channel is dispatched and waits at an address. -/
def anyAt (t : Thread) (p : Vector DWord 32) (a : DWord) : Bool :=
  (List.range 32).any fun g => t.dmask.getLsbD g && p.getD g 0#32 == a

/-- Whether a branch applies to any channel. -/
def anyBranch (t : Thread) (k : Ctl) (off : Nat) : Bool := (List.range 32).any (branching t k off)

/-- The channels' pointers after a branch (R99): a live channel it applies to goes to `target`, the other live channels to
`next`. -/
def movedPcip (t : Thread) (moves : Nat → Bool) (target next : DWord) : Vector DWord 32 :=
  Vector.ofFn fun i =>
    if t.live i.val then (if moves i.val then target else next) else t.pcip.getD i.val 0#32

/-- What a branch needs (R99): its channels, and the flag bits of its predicate. -/
def branchOffset (k : Ctl) : Exec Nat := do
  let off ← channelOffset k false
  checkFlags k false off k.exec.channels
  return off

/-- The default choice of the next `ip` (R99): `next` if a channel is live there, else `ip + JIP`. -/
def defaultIp (t : Thread) (p : Vector DWord 32) (next : DWord) (jip : BitVec 32) : Exec DWord :=
  if anyAt t p next then .ok next else branchTarget t.ip jip.toInt

/-- The state with the thread's pointers replaced. -/
def State.withPointers (s : State) (p : Vector DWord 32) (ip : DWord) : State :=
  { s with eu := { s.eu with pcip := p, ip := ip } }

/-- A branch whose channels go to `ip + target` and whose next `ip` is the default one (R126-R128, R132). The target must be
a legal address only if a channel goes there. -/
def branchBy (s : State) (k : Ctl) (target : Int) (jip : BitVec 32) : Exec State := do
  let t := s.eu
  let off ← branchOffset k
  let next ← nextIp t.ip branchBytes
  let dest ← if anyBranch t k off then branchTarget t.ip target else pure next
  let p := movedPcip t (branching t k off) dest next
  return s.withPointers p (← defaultIp t p next jip)

/-- The offset of a branch of one source; a register offset is `jmpi`'s alone. -/
def jipOf (o : BranchOne) : Exec (BitVec 32) :=
  match o.off with
  | .jip v => .ok v
  | .reg _ => refuse .control

/-- R100, R544: the illegal-opcode exception of the current thread; not enabled, or inside the system routine, it is
refused. -/
def raiseIllegal (s : State) : Exec State := do
  require (EuException.enabled .illegalOpcode s.eu && !s.eu.inRoutine) .illegalOpcode
  return { s with eu := s.eu.takeException s.ctx.sip .illegalOpcode }

/-- R100. -/
def execIllegal (s : State) : Host.Outcome State Fault Refusal := (raiseIllegal s).outcome

/-- R88, R167: the breakpoint of bit 30 is taken by the step before this. -/
def execNop (_ : Bool) (s : State) : Host.Outcome State Fault Refusal :=
  (do return { s with eu := ← s.eu.advance 16 } : Exec State).outcome

/-- The jump distance of `jmpi` (R119): the immediate, or "a `:d` register scalar". -/
def jmpiOffset (s : State) (o : BranchOne) : Exec Int :=
  match o.off with
  | .jip v => .ok v.toInt
  | .reg r => do
    require (r.ty == .d) .operandType
    match ← sourceValue s (.reg r) drawSrc1 0 with
    | .int i => return i
    | .flt _ _ => refuse .operandType

/-- R5, R589: source 1 of `jmpi` names no architecture register. -/
def BranchOne.namesArch (o : BranchOne) : Bool :=
  match o.off, o.tag1 with
  | .jip _, .reg .arf _ => true
  | _, _ => false

/-- R119: a scalar jump of the whole thread, from the incremented instruction pointer. "The predicate bit of channel 0" is that of
channel 0 of the instruction's window, which QtrCtrl moves: flag bit 16 * sub + off (DESIGN CHOICE, log 52). -/
def execJmpi (o : BranchOne) (s : State) : Host.Outcome State Fault Refusal :=
  (do
    require (o.ctl.exec == .s1) .control
    require (!BranchOne.namesArch o) .archRegister
    let off ← branchOffset o.ctl
    let next ← nextIp s.eu.ip branchBytes
    if predicateMask s.eu o.ctl off then
      return { s with eu := s.eu.goto (← branchTarget next (← jmpiOffset s o)) }
    else return { s with eu := s.eu.goto next } : Exec State).outcome

/-- R120: "the model refuses it". -/
def execBrd (_ : BranchOne) (_ : State) : Host.Outcome State Fault Refusal := .refused (.unknownOperation "brd")

/-- R122: "The author is not sure of the details; the model refuses it." -/
def execBrc (_ : BranchTwo) (_ : State) : Host.Outcome State Fault Refusal := .refused (.unknownOperation "brc")

/-- R121: live channels with a false predicate wait at `ip + JIP`; the others continue. With Single Program Flow all live
channels do the one or the other (R99). -/
def execIfOp (o : BranchTwo) (s : State) : Host.Outcome State Fault Refusal :=
  (do
    require (o.ctl.pred != .none) .control
    let t := s.eu
    let off ← branchOffset o.ctl
    let next ← nextIp t.ip branchBytes
    let fails (g : Nat) : Bool :=
      if t.singleFlow then !branching t o.ctl off g else inWindow o.ctl off g && !branching t o.ctl off g
    let anyFails := (List.range 32).any fun g => t.live g && fails g
    let other ← if anyFails then branchTarget t.ip o.jip.toInt else pure next
    let p := movedPcip t fails other next
    let continues := (List.range 32).any fun g => t.live g && !fails g
    return s.withPointers p (← if continues then pure next else branchTarget t.ip o.jip.toInt) : Exec State).outcome

/-- R123: every live channel goes to `ip + UIP`. -/
def execElseOp (o : BranchTwo) (s : State) : Host.Outcome State Fault Refusal :=
  (do
    let t := s.eu
    let _ ← channelOffset o.ctl false
    let next ← nextIp t.ip branchBytes
    let anyLive := (List.range 32).any t.live
    let dest ← if anyLive then branchTarget t.ip o.uip.toInt else pure next
    let p := movedPcip t (fun _ => true) dest next
    return s.withPointers p (← defaultIp t p next o.jip) : Exec State).outcome

/-- The channels' pointers after a reconvergence point (R124, R128, R133): live channels advance. Its channel controls are legal
(R49, R589). -/
def reconverge (t : Thread) (k : Ctl) : Exec (Vector DWord 32 × DWord) := do
  let _ ← channelOffset k false
  let next ← nextIp t.ip branchBytes
  return (movedPcip t (fun _ => false) next next, next)

/-- R124. -/
def execEndif (o : BranchOne) (s : State) : Host.Outcome State Fault Refusal :=
  (do
    let jip ← jipOf o
    let (p, next) ← reconverge s.eu o.ctl
    return s.withPointers p (← defaultIp s.eu p next jip) : Exec State).outcome

/-- R125: channels whose predicate holds go back to `ip + JIP`. -/
def execWhileOp (o : BranchOne) (s : State) : Host.Outcome State Fault Refusal :=
  (do
    let t := s.eu
    let jip ← jipOf o
    let off ← branchOffset o.ctl
    let next ← nextIp t.ip branchBytes
    if anyBranch t o.ctl off then
      let back ← branchTarget t.ip jip.toInt
      return s.withPointers (movedPcip t (branching t o.ctl off) back next) back
    else return s.withPointers (movedPcip t (fun _ => false) next next) next : Exec State).outcome

/-- R126: to the instruction after the `while` that UIP names. -/
def execBreakOp (o : BranchTwo) (s : State) : Host.Outcome State Fault Refusal :=
  (branchBy s o.ctl (o.uip.toInt + 16) o.jip).outcome

/-- R127. -/
def execCont (o : BranchTwo) (s : State) : Host.Outcome State Fault Refusal :=
  (branchBy s o.ctl o.uip.toInt o.jip).outcome

/-- R128: with zero offsets a reconvergence point like `endif`, which goes to the next instruction always (DEDUCED, log 35). -/
def execHalt (o : BranchTwo) (s : State) : Host.Outcome State Fault Refusal :=
  (if o.jip = 0#32 ∧ o.uip = 0#32 then do
    let (p, next) ← reconverge s.eu o.ctl
    return s.withPointers p next
  else branchBy s o.ctl o.uip.toInt o.jip : Exec State).outcome

/-- The mask of the channels a branch applies to. -/
def branchMask (t : Thread) (k : Ctl) (off : Nat) : DWord :=
  (List.range 32).foldl (fun m g => setBit m g (branching t k off g)) 0#32

/-- `call` and `calla` (R129, R130): the return address and the calling channels' mask in the destination, a general
register; the calling channels go to the target. -/
def callTo (s : State) (o : BranchOne) (target : Exec DWord) : Exec State := do
  let t := s.eu
  let off ← branchOffset o.ctl
  let next ← nextIp t.ip branchBytes
  match ← dstPlace t (.op { o.dst with ty := .ud }) 0 with
  | .grf a => do
    require (decide (a + 8 ≤ grfBytes)) .outsideGrf
    let g := grfWrite (grfWrite t.grf a next.toNat 4) (a + 4) (branchMask t o.ctl off).toNat 4
    let u := { s with eu := { t with grf := g } }
    if anyBranch t o.ctl off then
      let dest ← target
      return u.withPointers (movedPcip t (branching t o.ctl off) dest next) dest
    else return u.withPointers (movedPcip t (fun _ => false) next next) next
  | _ => refuse .archRegister

/-- R129: the target is an offset from the Instruction Base Address; `JIP` is signed (R85), so a negative one is no address. -/
def execCalla (o : BranchOne) (s : State) : Host.Outcome State Fault Refusal :=
  (do callTo s o (branchTarget 0#32 (← jipOf o).toInt) : Exec State).outcome

/-- R130. -/
def execCall (o : BranchOne) (s : State) : Host.Outcome State Fault Refusal :=
  (do callTo s o (branchTarget s.eu.ip (← jipOf o).toInt) : Exec State).outcome

/-- R131: the live channels return together; the thread goes on at `next` if a channel is live there, one that waited there
too. -/
def execRet (o : BranchOne) (s : State) : Host.Outcome State Fault Refusal :=
  (do
    let t := s.eu
    let off ← branchOffset o.ctl
    let next ← nextIp t.ip branchBytes
    let raw ← readSrc s { o.src0 with ty := .ud } drawSrc0 0
    let stays := (List.range 32).any fun g => t.live g && !branching t o.ctl off g
    require (!(stays && anyBranch t o.ctl off)) .control
    if stays then return s.withPointers (movedPcip t (fun _ => false) next next) next
    else
      let dest ← branchTarget 0#32 (raw.toNat : Int)
      let p := movedPcip t (branching t o.ctl off) dest next
      return s.withPointers p (if anyAt t p next then next else dest) : Exec State).outcome

/-- R132: forward `goto` only. -/
def execGoto (o : BranchTwo) (s : State) : Host.Outcome State Fault Refusal :=
  (do
    require (decide (0 ≤ o.uip.toInt) && decide (0 ≤ o.jip.toInt)) .control
    branchBy s o.ctl o.uip.toInt o.jip : Exec State).outcome

/-- R133: a channel is live at the join if it is dispatched and waits at its address (R99); if none is, the thread goes to
`ip + JIP`. -/
def execJoin (o : BranchOne) (s : State) : Host.Outcome State Fault Refusal :=
  (do
    let jip ← jipOf o
    let (p, next) ← reconverge s.eu o.ctl
    return s.withPointers p (← if (List.range 32).any s.eu.live then .ok next else branchTarget s.eu.ip jip.toInt) :
    Exec State).outcome

/-- The notification count a `wait` names (R134): `n0.k`. -/
def waitIndex (o : OneSrc) : Exec (Fin 4) :=
  match o.src0 with
  | .reg { file := .arf, loc := .direct reg sub, .. } => do
    require (reg == 0x90#8 && decide (sub.toNat < 16) && decide (sub.toNat % 4 = 0)) .archRegister
    return Fin.ofNat 4 (sub.toNat / 4)
  | _ => refuse .archRegister

/-- R134: a count of zero makes the thread wait; else the count is decremented. The count is the one that source 0 names; a
destination that is not the same `n0.k` is ignored (DESIGN CHOICE, log 57). -/
def execWait (o : OneSrc) (s : State) : Host.Outcome State Fault Refusal :=
  (do
    require (o.ctl.exec == .s1 && o.ctl.pred == .none) .control
    let _ ← channelOffset o.ctl false
    let k ← waitIndex o
    let n := s.eu.n0.get k
    if n = 0#32 then return { s with eu := { s.eu with run := .waiting k } }
    else
      let t ← s.eu.advance (Ctl.bytes o.ctl)
      return { s with eu := { t with n0 := t.n0.set k.val (n - 1#32) k.isLt } } : Exec State).outcome

end Sys2Proof.Machine
end

