-- ==== Sys2Proof/Machine/Vectors.lean ====
section
/-! DEFINITION. Dot products, line and plane equations, multiply-add and interpolation (R158-R166). -/

namespace Sys2Proof.Machine

/-- The member of a list a free value chooses; the draw among evaluation orders. -/
def chooseFrom (free : QWord) (l : List Nat) : Nat := l.getD (free.toNat % l.length) 0

/-- Every element of a list with the list of the others. -/
def pickOne {α : Type} : List α → List (α × List α)
  | [] => []
  | x :: xs => (x, xs) :: (pickOne xs).map fun (y, ys) => (y, x :: ys)

/-- The sums of a list in all orders, each addition correctly rounded (R158). `fuel` is the list's length. -/
def sumOrders (v : FloatEnv) (p : Fmt) (free : QWord) : Nat → List Nat → List Nat
  | 0, l => l
  | _ + 1, [] => []
  | _ + 1, [x] => [x]
  | fuel + 1, l =>
    (pickOne l).flatMap fun (x, xs) => (pickOne xs).flatMap fun (y, ys) =>
      sumOrders v p free fuel (fadd v p free x y :: ys)

/-- Channel `c` of a source as a float of format `p` (R97). -/
def floatSource (s : State) (o : Src) (p : Fmt) (purpose c : Nat) : Exec Nat := do
  return toFormat s.eu.floatEnv p (s.draw c drawResult) (← sourceValue s o purpose c)

/-- A dot product (R158-R161): the terms of one group of four channels from the two sources' channels of the group, in the
execution type (R97). With an ExecSize of 1 or 2 the one group is not full; the elements of its other channels are read all
the same (DESIGN CHOICE, log 52). -/
def dotProduct (s : State) (o : TwoSrc)
    (terms : FloatEnv → Fmt → QWord → (Nat → Nat) → (Nat → Nat) → List Nat) : Exec State := do
  checkFloatMode s.eu (twoTypes o)
  checkSource1 o.src1
  checkPacked o
  require (o.ctl.access == .align16) .control
  let p ← execFormat [o.src0.ty, Src.elemType o.src1]
  channelwise s o.ctl (.op o.dst) (plainUsage o.cond (twoTypes o)) fun c => do
    let j := c / 4 * 4
    let as ← sequence ((List.range 4).map fun i => floatSource s (.reg o.src0) p drawSrc0 (j + i))
    let bs ← sequence ((List.range 4).map fun i => floatSource s o.src1 p drawSrc1 (j + i))
    let free := s.draw j drawResult
    let ts := terms s.eu.floatEnv p free (as.getD · 0) (bs.getD · 0)
    let t := chooseFrom (s.draw j drawOrder) (sumOrders s.eu.floatEnv p free ts.length ts)
    return finishLane s o.ctl o.cond o.dst.ty c (.flt p t)

/-- The first `n` products of a group. -/
def products (n : Nat) (v : FloatEnv) (p : Fmt) (free : QWord) (a b : Nat → Nat) : List Nat :=
  (List.range n).map fun i => fmul v p free (a i) (b i)

/-- R158. -/
def execDp4 (o : TwoSrc) (s : State) : Host.Outcome State Fault Refusal := (dotProduct s o (products 4)).outcome

/-- R159. -/
def execDph (o : TwoSrc) (s : State) : Host.Outcome State Fault Refusal :=
  (dotProduct s o fun v p free a b => products 3 v p free a b ++ [flush v p (b 3)]).outcome

/-- R160. -/
def execDp3 (o : TwoSrc) (s : State) : Host.Outcome State Fault Refusal := (dotProduct s o (products 3)).outcome

/-- R161. -/
def execDp2 (o : TwoSrc) (s : State) : Host.Outcome State Fault Refusal := (dotProduct s o (products 2)).outcome

/-- The element `off` bytes past the origin of a source, after its modifier, as a float of format `p` (R97). -/
def originFloat (s : State) (o : SrcOp) (p : Fmt) (purpose off c : Nat) : Exec Nat := do
  let raw ← readPlace s (← originPlace s.eu o off o.ty.size) o.ty c purpose
  return toFormat s.eu.floatEnv p (s.draw c drawResult) (modify o.mod (valueOf o.ty raw))

/-- Element `k` of the row of four at the origin of source 0 (R162, R163). -/
def rowFloat (s : State) (o : SrcOp) (p : Fmt) (k : Nat) : Exec Nat := originFloat s o p drawSrc0 (k * o.ty.size) k

/-- R162: the rounding between product and sum is not stated, a draw between one rounding and two (log 18). -/
def execLine (o : TwoSrc) (s : State) : Host.Outcome State Fault Refusal :=
  (do
    checkFloatMode s.eu (twoTypes o)
    checkSource1 o.src1
    checkPacked o
    let f ← execFormat [o.src0.ty, Src.elemType o.src1]
    let v := s.eu.floatEnv
    let p ← rowFloat s o.src0 f 0
    let q ← rowFloat s o.src0 f 3
    channelwise s o.ctl (.op o.dst) (plainUsage o.cond (twoTypes o)) fun c => do
      let x ← floatSource s o.src1 f drawSrc1 c
      let free := s.draw c drawResult
      let r := chooseFrom (s.draw c drawOrder)
        [fadd v f free (fmul v f free p x) q,
         fmaNum v f free (operandNum v f p) (operandNum v f x) (operandNum v f q)]
      return finishLane s o.ctl o.cond o.dst.ty c (.flt f r) : Exec State).outcome

/-- The x (`row` 0) or y (`row` 1) value of channel `c` in the register pairs source 1 names (R163). Eight values of 64 bits
do not fit the one register that the rule gives them: those of channels 4 to 7 of each group are free values (DESIGN CHOICE,
log 53). The pair is named by registers; where source 1 has a subregister, or an indirect origin inside a register, the values
are counted from that byte, so that the x values run on into the second register (DESIGN CHOICE, log 57). -/
def planeCoordinate (s : State) (o : SrcOp) (p : Fmt) (row c : Nat) : Exec Nat :=
  if 32 < (c % 8 + 1) * o.ty.size then .ok ((s.draw c (drawSrc1 + row)).toNat % 2 ^ p.width)
  else originFloat s o p drawSrc1 (64 * (c / 8) + 32 * row + c % 8 * o.ty.size) c

/-- The plane equation's results (R163): the three terms added in all orders, each product rounded before it enters an
addition, or not rounded apart from that addition. -/
def planeResults (v : FloatEnv) (f : Fmt) (free : QWord) (p q r x y : Nat) : List Nat :=
  let plus := fadd v f free
  let fused (a b c : Nat) : Nat := fmaNum v f free (operandNum v f a) (operandNum v f b) (operandNum v f c)
  let px := fmul v f free p x
  let qy := fmul v f free q y
  ([plus px qy, fused p x qy, fused q y px].map fun t => plus t r) ++
  ([plus px r, fused p x r].flatMap fun t => [plus t qy, fused q y t]) ++
  ([plus qy r, fused q y r].flatMap fun t => [plus t px, fused p x t])

/-- R163: "source 1 names a register pair", so an immediate is refused. -/
def execPln (o : TwoSrc) (s : State) : Host.Outcome State Fault Refusal :=
  (do
    checkFloatMode s.eu (twoTypes o)
    checkSource1 o.src1
    match o.src1 with
    | .imm _ _ => refuse .operandType
    | .reg b => do
      let f ← execFormat [o.src0.ty, b.ty]
      let p ← rowFloat s o.src0 f 0
      let q ← rowFloat s o.src0 f 1
      let r ← rowFloat s o.src0 f 3
      channelwise s o.ctl (.op o.dst) (plainUsage o.cond (twoTypes o)) fun c => do
        let x ← planeCoordinate s b f 0 c
        let y ← planeCoordinate s b f 1 c
        let w := chooseFrom (s.draw c drawOrder) (planeResults s.eu.floatEnv f (s.draw c drawResult) p q r x y)
        return finishLane s o.ctl o.cond o.dst.ty c (.flt f w) : Exec State).outcome

/-- The exact value of a float operand (R97); an integer is refused. -/
def floatNum (v : FloatEnv) : Val → Exec Num
  | .flt p b => .ok (operandNum v p b)
  | .int _ => refuse .operandType

/-- The execution type of a float three-source instruction (R97: `:f` unless all are `:df` or `:hf`); the integer form is the
one R164 does not support ("the model supports float `mad` only"). -/
def triFormat (o : ThreeSrc) : Exec Fmt :=
  let (a, b, c) := triTypes o
  if a = .df then .ok .df
  else if a = .hf ∧ b = .hf ∧ c = .hf then .ok .hf
  else if RType.isInt a then refuse .operandType
  else .ok .f

/-- R164: float `s1 * s2 + s0` with one rounding; the integer form is not supported by the rule. -/
def execMad (o : ThreeSrc) (s : State) : Host.Outcome State Fault Refusal :=
  (do
    let p ← triFormat o
    let v := s.eu.floatEnv
    ternary s o true fun free _ a b c =>
      return .flt p (fmaNum v p free (← floatNum v b) (← floatNum v c) (← floatNum v a)) : Exec State).outcome

/-- The interpolation's results (R165): rounded terms summed, and the fused evaluations. -/
def lerpResults (v : FloatEnv) (free : QWord) (a b c : Nat) : List Nat :=
  let num := operandNum v .f
  let one := roundFloat .f .zero false 1 0
  let rest := fadd v .f free one (fneg .f a)
  let ab := fmul v .f free a b
  let rc := fmul v .f free rest c
  [fadd v .f free ab rc, fmaNum v .f free (num a) (num b) (num rc), fmaNum v .f free (num rest) (num c) (num ab)]

/-- R165: "`:f` only". -/
def execLrp (o : ThreeSrc) (s : State) : Host.Outcome State Fault Refusal :=
  (do
    require (threeTypes o == [.f, .f, .f, .f]) .operandType
    ternary s o true fun free order a b c =>
      match a, b, c with
      | .flt _ x, .flt _ y, .flt _ z => return .flt .f (chooseFrom order (lerpResults s.eu.floatEnv free x y z))
      | _, _, _ => refuse .operandType : Exec State).outcome

/-- R166: "The model refuses it." -/
def execMadm (_ : ThreeSrc) (_ : State) : Host.Outcome State Fault Refusal := .refused (.unknownOperation "madm")

end Sys2Proof.Machine
end

