-- ==== Sys2Proof/Machine/Compact.lean ====
section
/-! DEFINITION. The compact formats (R72-R76): expansion through the printed tables, then the native instruction. -/

namespace Sys2Proof.Machine

/-- `ControlIndex` (R75). -/
def controlTable : List (BitVec 19) :=
  [0b0000000000000000010#19, 0b0000100000000000000#19, 0b0000100000000000001#19,
   0b0000100000000000010#19, 0b0000100000000000011#19, 0b0000100000000000100#19,
   0b0000100000000000101#19, 0b0000100000000000111#19, 0b0000100000000001000#19,
   0b0000100000000001001#19, 0b0000100000000001101#19, 0b0000110000000000000#19,
   0b0000110000000000001#19, 0b0000110000000000010#19, 0b0000110000000000011#19,
   0b0000110000000000100#19] ++
  [0b0000110000000000101#19, 0b0000110000000000111#19, 0b0000110000000001001#19,
   0b0000110000000001101#19, 0b0000110000000010000#19, 0b0000110000100000000#19,
   0b0001000000000000000#19, 0b0001000000000000010#19, 0b0001000000000000100#19,
   0b0001000000100000000#19, 0b0010110000000000000#19, 0b0010110000000010000#19,
   0b0011000000000000000#19, 0b0011000000100000000#19, 0b0101000000000000000#19,
   0b0101000000100000000#19]

/-- `DataTypeIndex` (R74). -/
def dataTypeTable : List (BitVec 21) :=
  [0b001000000000000000001#21, 0b001000000000001000000#21, 0b001000000000001000001#21,
   0b001000000000011000001#21, 0b001000000000101011101#21, 0b001000000010111011101#21,
   0b001000000011101000001#21, 0b001000000011101000101#21, 0b001000000011101011101#21,
   0b001000001000001000001#21, 0b001000011000001000000#21, 0b001000011000001000001#21,
   0b001000101000101000101#21, 0b001000111000101000100#21, 0b001000111000101000101#21,
   0b001011100011101011101#21] ++
  [0b001011101011100011101#21, 0b001011101011101011100#21, 0b001011101011101011101#21,
   0b001011111011101011100#21, 0b000000000010000001100#21, 0b001000000000001011101#21,
   0b001000000000101000101#21, 0b001000001000001000000#21, 0b001000101000101000100#21,
   0b001000111000100000100#21, 0b001001001001000001001#21, 0b001010111011101011101#21,
   0b001011111011101011101#21, 0b001001111001101001100#21, 0b001001001001001001000#21,
   0b001001011001001001000#21]

/-- `SubRegIndex` (R73). -/
def subRegTable : List (BitVec 15) :=
  [0b000000000000000#15, 0b000000000000001#15, 0b000000000001000#15,
   0b000000000001111#15, 0b000000000010000#15, 0b000000010000000#15,
   0b000000100000000#15, 0b000000110000000#15, 0b000001000000000#15,
   0b000001000010000#15, 0b000001010000000#15, 0b001000000000000#15,
   0b001000000000001#15, 0b001000010000001#15, 0b001000010000010#15,
   0b001000010000011#15] ++
  [0b001000010000100#15, 0b001000010000111#15, 0b001000010001000#15,
   0b001000010001110#15, 0b001000010001111#15, 0b001000110000000#15,
   0b001000111101000#15, 0b010000000000000#15, 0b010000110000000#15,
   0b011000000000000#15, 0b011110010000111#15, 0b100000000000000#15,
   0b101000000000000#15, 0b110000000000000#15, 0b111000000000000#15,
   0b111000000011100#15]

/-- Three-source `ControlIndex` (R76). -/
def controlTableThree : List (BitVec 24) :=
  [0b100000000110000000000001#24, 0b000000000110000000000001#24, 0b000000001000000000000001#24,
   0b000000001000000000100001#24]

/-- Three-source `SourceIndex` (R76). -/
def sourceTableThree : List (BitVec 46) :=
  [0b0001110010011100100111001000001111000000000000#46,
   0b0001110010011100100111001000001111000000000010#46,
   0b0001110010011100100111001000001111000000001000#46,
   0b0001110010011100100111001000001111000000100000#46]

/-- The 13-bit immediate of a compact word (R72). -/
def compactImmediate (o : CompactTwo) : BitVec 32 := (o.src1Index ++ o.src1).signExtend 32

/-- R72: the native word of a compact one, with `EU_SRC_INDEX_TABLE` as an argument. The
immediate form is source 1's alone; with an immediate source 0 and a register source 1 the fields map as for registers
(log 20). -/
def expandTwo (table : List (BitVec 12)) (o : CompactTwo) : BitVec 128 :=
  let c := controlTable.getD o.control.toNat 0#19
  let d := dataTypeTable.getD o.dataType.toNat 0#21
  let r := subRegTable.getD o.subReg.toNat 0#15
  let s0 := table.getD o.src0Index.toNat 0#12
  let s1 := table.getD o.src1Index.toNat 0#12
  let last : BitVec 32 :=
    if d.extractLsb' 12 2 == 3#2 then compactImmediate o
    else 0#7 ++ s1 ++ o.src1 ++ r.extractLsb' 10 5
  last ++ (0#1 ++ d.extractLsb' 12 6 ++ s0 ++ o.src0 ++ r.extractLsb' 5 5) ++
  (d.extractLsb' 18 3 ++ o.dst ++ r.extractLsb' 0 5 ++ 0#1 ++ d.extractLsb' 0 12 ++ c.extractLsb' 1 1 ++
    c.extractLsb' 17 2) ++
  (c.extractLsb' 16 1 ++ BitVec.ofBool o.debug ++ 0#1 ++ BitVec.ofBool o.accWr ++ o.cond ++ c.extractLsb' 4 12 ++ 0#1 ++
    c.extractLsb' 2 2 ++ c.extractLsb' 0 1 ++ 0#1 ++ o.op)

/-- R76: the native word of a compact three-source one. -/
def expandThree (o : CompactThree) : BitVec 128 :=
  let c := controlTableThree.getD o.control.toNat 0#24
  let s := sourceTableThree.getD o.source.toNat 0#46
  (0#2 ++ s.extractLsb' 45 1 ++ o.src2 ++ o.sub2 ++ s.extractLsb' 35 8 ++ BitVec.ofBool o.rep2 ++ 0#1 ++
    s.extractLsb' 44 1 ++ o.src1 ++ o.sub1 ++ s.extractLsb' 27 8 ++ BitVec.ofBool o.rep1 ++ 0#1 ++ s.extractLsb' 43 1 ++
    o.src0 ++ o.sub0 ++ s.extractLsb' 19 8 ++ BitVec.ofBool o.rep0) ++
  (0#1 ++ o.dst ++ s.extractLsb' 16 3 ++ s.extractLsb' 12 4 ++ s.extractLsb' 9 3 ++ s.extractLsb' 6 3 ++
    s.extractLsb' 0 6 ++ 0#2 ++ c.extractLsb' 23 1 ++ c.extractLsb' 21 2) ++
  (BitVec.ofBool o.sat ++ BitVec.ofBool o.debug ++ 0#1 ++ c.extractLsb' 20 1 ++ c.extractLsb' 16 4 ++
    c.extractLsb' 0 16 ++ 0#1 ++ o.op)

/-- The controls of an expanded word: it keeps the compact length (R55). -/
def compacted (c : Ctl) : Ctl := { c with cmpt := true }

/-- An expanded form with its length; only one-, two- and three-source forms are compacted (R72, R76, R99). -/
def expandedShape : Shape → Option Shape
  | .one op o => some (.one op { o with ctl := compacted o.ctl })
  | .two op o => some (.two op { o with ctl := compacted o.ctl })
  | .three op o => some (.three op { o with ctl := compacted o.ctl })
  | _ => none

/-- The expanded instruction, or why there is none. -/
def expanded (w : BitVec 128) : Decoded Instr := do
  match expandedShape (← decodeNative w) with
  | none => .error (.illFormed "CompactForm")
  | some sh =>
    match sh.toInstr? with
    | some i => .ok i
    | none => .error .reservedOpcode

/-- The operation of an expanded one- or two-source instruction: the native instruction's. -/
def execExpandedTwo (i : Instr) (s : State) : Host.Outcome State Fault Refusal :=
  match i with
  | .mov o => execMov o s
  | .sel o => execSel o s
  | .movi o => execMovi o s
  | .not o => execNot o s
  | .and o => execAnd o s
  | .or o => execOr o s
  | .xor o => execXor o s
  | .shr o => execShr o s
  | .shl o => execShl o s
  | .smov o => execSmov o s
  | .asr o => execAsr o s
  | .cmp o => execCmp o s
  | .cmpn o => execCmpn o s
  | .bfrev o => execBfrev o s
  | .bfi1 o => execBfi1 o s
  | .wait o => execWait o s
  | .add o => execAdd o s
  | .mul o => execMul o s
  | .avg o => execAvg o s
  | .frc o => execFrc o s
  | .rndu o => execRndu o s
  | .rndd o => execRndd o s
  | .rnde o => execRnde o s
  | .rndz o => execRndz o s
  | .mac o => execMac o s
  | .mach o => execMach o s
  | .lzd o => execLzd o s
  | .fbh o => execFbh o s
  | .fbl o => execFbl o s
  | .cbit o => execCbit o s
  | .addc o => execAddc o s
  | .subb o => execSubb o s
  | .sad2 o => execSad2 o s
  | .sada2 o => execSada2 o s
  | .dp4 o => execDp4 o s
  | .dph o => execDph o s
  | .dp3 o => execDp3 o s
  | .dp2 o => execDp2 o s
  | .line o => execLine o s
  | .pln o => execPln o s
  | _ => .refused (.illFormed "CompactForm")

/-- The operation of an expanded three-source instruction: the native instruction's. -/
def execExpandedThree (i : Instr) (s : State) : Host.Outcome State Fault Refusal :=
  match i with
  | .csel o => execCsel o s
  | .bfe o => execBfe o s
  | .bfi2 o => execBfi2 o s
  | .mad o => execMad o s
  | .lrp o => execLrp o s
  | .madm o => execMadm o s
  | _ => .refused (.illFormed "CompactForm")

/-- A compact word's operation (R72, R80, R96): an opcode that is no instruction, or `illegal`, takes the illegal-opcode
exception; a word whose expansion is ill-formed is refused. -/
def execCompact (op : BitVec 7) (w : Decoded Instr) (run : Instr → State → Host.Outcome State Fault Refusal)
    (s : State) : Host.Outcome State Fault Refusal :=
  if op == 0x00#7 || !isOpcode op then (raiseIllegal s).outcome
  else
    match w with
    | .ok i => run i s
    | .error .reservedOpcode => (raiseIllegal s).outcome
    | .error (.illFormed f) => .refused (.illFormed f)

/-- R72. -/
def execCompactTwo (o : CompactTwo) (s : State) : Host.Outcome State Fault Refusal :=
  execCompact o.op (expanded (expandTwo Config.srcIndexTable o)) execExpandedTwo s

/-- R76. -/
def execCompactThree (o : CompactThree) (s : State) : Host.Outcome State Fault Refusal :=
  execCompact o.op (expanded (expandThree o)) execExpandedThree s

end Sys2Proof.Machine
end

