-- ==== Sys2Proof/Machine/Send.lean ====
section
/-! DEFINITION. Issuing a message (R69, R91-R93, R135-R138, R191, R202): descriptor, payload, slot mask, the shared function's
part, the response, the end of the thread. A shared function is given as a function from the message to the state it leaves
and the response registers. -/

namespace Sys2Proof.Machine

/-- A message as its shared function sees it. `channels` is the send's execution size. -/
structure Msg where
  sfid : Sfid
  desc : BitVec 31
  ex : BitVec 20
  eot : Bool
  payload : List HWord
  slots : DWord
  channels : Nat
deriving DecidableEq, Repr

/-- What a message answers with. -/
abbrev Answer := List ResponseReg

/-- The answer that writes whole registers. -/
def wholeRegs (l : List HWord) : Answer := l.map fun v => ⟨v, 0#32⟩

/-- The part a shared function plays. -/
abbrev Handler := Msg → State → Exec (State × Answer)

/-- Bits of the descriptor. -/
def Msg.bits (m : Msg) (lo n : Nat) : Nat := (m.desc.extractLsb' lo n).toNat

/-- Header Present (R202). -/
def Msg.hasHeader (m : Msg) : Bool := m.desc.getLsbD 19

/-- Response Length (R202). -/
def Msg.responseLength (m : Msg) : Nat := m.bits 20 5

/-- The header register; without a header its fields are 0 (R201). -/
def Msg.header (m : Msg) : HWord := if m.hasHeader then m.payload.headD 0#256 else 0#256

/-- The payload after the header (R196). -/
def Msg.body (m : Msg) : List HWord := if m.hasHeader then m.payload.drop 1 else m.payload

/-- Register `k` after the header. -/
def Msg.reg (m : Msg) (k : Nat) : HWord := m.body.getD k 0#256

/-- The message carries `n` registers after its header; a shorter one is not the structure its type names (R1). -/
def Msg.need (m : Msg) (n : Nat) : Exec Unit := require (decide (n ≤ m.body.length)) (.messageDescriptor "MessageLength")

/-- R197: the header is required. -/
def Msg.headerRequired (m : Msg) : Exec Unit := require m.hasHeader (.messageDescriptor "HeaderPresent")

/-- R195: the header is forbidden. -/
def Msg.headerForbidden (m : Msg) : Exec Unit := require (!m.hasHeader) (.messageDescriptor "HeaderPresent")

/-- Slot `i` of the message is enabled by the execution mask (R135). -/
def Msg.slot (m : Msg) (i : Nat) : Bool := m.slots.getLsbD i

/-- The immediate descriptor, or `a0.1 ++ a0.0` bits 30:0 (R6, R69). -/
def descriptor (t : Thread) : Desc → BitVec 31
  | .imm v => v
  | .reg => (t.a0.getD 1 0#16 ++ t.a0.getD 0 0#16).extractLsb' 0 31

/-- First register of a payload operand (R91, R92): whole registers, so its byte address is a multiple of 32. -/
def payloadBase (t : Thread) (l : Loc) : Exec Nat :=
  match l with
  | .direct reg sub => do
    require (sub == 0#5) (.messagePayload "Source0SubRegNum")
    return reg.toNat
  | .indirect a imm => do
    let origin := ((t.a0.getD a.toNat 0#16).toNat : Int) + imm.toInt
    require (decide (0 ≤ origin) && decide (origin < 4096)) .outsideGrf
    require (decide (origin % 32 = 0)) (.messagePayload "Source0Address")
    return origin.toNat / 32

/-- `n` whole registers from register `r` on. -/
def readRegs (t : Thread) (r n : Nat) : Exec (List HWord) := do
  require (decide (r + n ≤ 128)) .outsideGrf
  return (List.range n).map fun k => t.reg (r + k)

/-- The controls of a send. -/
def sendCtl : SendForm → Ctl
  | .plain _ o => o.ctl
  | .split _ o => o.ctl

/-- Whether a send waits for the thread's dependencies first (R136, R138). -/
def sendWaits : SendForm → Bool
  | .plain w _ => w
  | .split w _ => w

/-- The end-of-thread bit (R69). -/
def sendEot : SendForm → Bool
  | .plain _ o => o.eot
  | .split _ o => o.eot

/-- The extended function control, ExDesc[31:12] (R191, R192): of an immediate, bits 31:16 with 15:12 zero (R91, R92); of a
`sends` that selects a register (bit 77, D20, D22), 20 bits of the address register (log 32). -/
def sendEx (t : Thread) : SendForm → BitVec 20
  | .plain _ o => o.ex ++ 0#4
  | .split _ o =>
    match o.desc with
    | .imm _ => o.ex ++ 0#4
    | .reg => Config.registerExDesc t.a0.toList

/-- Two ranges of registers do not overlap. -/
def disjointRanges (a n b m : Nat) : Bool := decide (a + n ≤ b) || decide (b + m ≤ a) || n == 0 || m == 0

/-- The payload (R91, R92, R137): Message Length registers from source 0, then for a split send ExDesc[9:6] registers from
source 1, which is no architecture register, not the null register either (R5, R589). -/
def sendPayload (f : SendForm) (t : Thread) (mlen : Nat) : Exec (List HWord) :=
  match f with
  | .plain _ o => do readRegs t (← payloadBase t o.src0) mlen
  | .split _ o => do
    let base ← payloadBase t o.src0
    let first ← readRegs t base mlen
    match o.src1File with
    | .grf =>
      require (disjointRanges base mlen o.src1.toNat o.exLen.toNat) (.messagePayload "SourceOverlap")
      let second ← readRegs t o.src1.toNat o.exLen.toNat
      return first ++ second
    | .arf => refuse .archRegister

/-- The register a response goes to: only the register number of the location is used (R58, R59). -/
def responseRegister (t : Thread) : Loc → Exec Nat
  | .direct reg _ => .ok reg.toNat
  | .indirect a imm => do
    let origin := ((t.a0.getD a.toNat 0#16).toNat : Int) + imm.toInt
    require (decide (0 ≤ origin) && decide (origin < 4096)) .outsideGrf
    return origin.toNat / 32

/-- The destination of the response: a general register, or none for the null register (R5, R135). -/
def sendDestination (f : SendForm) (t : Thread) : Exec (Option Nat) :=
  let place (file : RegFile) (l : Loc) : Exec (Option Nat) :=
    match file with
    | .grf => do return some (← responseRegister t l)
    | .arf =>
      match l with
      | .direct reg _ => do
        require (reg.extractLsb' 4 4 == 0#4) .archRegister
        return none
      | .indirect _ _ => refuse .archRegister
  match f with
  | .plain _ o => place o.dst.file o.dst.loc
  | .split _ o => place o.dstFile o.dst

/-- The execution mask as slots (R135): slot `i` is channel `off + i`. -/
def slotMask (t : Thread) (k : Ctl) (off : Nat) : DWord :=
  (List.range k.exec.channels).foldl (fun m i => setBit m i (writeEnable t k (off + i))) 0#32

/-- Bit 15 of a `tdr0` word: the dependency it names has not cleared (R5; PRESUMED position, log 21). -/
def Thread.hasDependency (t : Thread) : Bool := t.tdr0.toList.any fun w => w.getLsbD 15

/-- A thread whose recorded dependency on a fixed-function thread has cleared (R136). -/
def Thread.clearDependency (t : Thread) (fftid : BitVec 8) : Thread :=
  { t with tdr0 := t.tdr0.map fun w => if w.getLsbD 15 && w.extractLsb' 0 8 == fftid then w &&& 0x7FFF#16 else w }

/-- The end of the current thread (R13, R135, R494): it runs no more, nothing is delivered to it, the threads behind it in
order or in the scoreboard go on, and a group whose last thread it was is gone (R14). -/
def State.endThread (s : State) : State :=
  let others := s.parked.map (Thread.clearDependency · s.eu.fftid)
  let last := !(others.any (fun t => t.group == s.eu.group) || s.media.waiting.any fun h => h.group == s.eu.group)
  { s with
    eu := { s.eu with run := .ended, group := .none }
    parked := others
    pending := s.pending.filter fun r => r.tid != s.eu.tid
    groups := if last then s.groups.filter (fun g => some g.id != s.eu.group) else s.groups
    media := { s.media with live := s.media.live.filter fun e => e.2.2 != s.eu.tid } }

/-- The response registers a message answers with: the Response Length of its descriptor; those the shared function does
not define hold a free value. -/
def responseRegs (s : State) (n : Nat) (data : Answer) : Answer :=
  (List.range n).map fun k => data.getD k ⟨Config.freeReg s.draws k, 0#32⟩

/-- After a message is issued: its response is pending (R12, R135), the thread goes on, or ends. -/
def finishSend (s : State) (k : Ctl) (base : Option Nat) (rlen : Nat) (data : Answer) (eot : Bool) :
    Exec State := do
  let t ← s.eu.advance (Ctl.bytes k)
  let s1 := { s with eu := t }
  let s2 :=
    match base, rlen with
    | some r, n + 1 =>
      { s1 with pending := s1.pending ++ [⟨t.tid, r, responseRegs s1 (n + 1) data, 0#4096⟩] }
    | _, _ => s1
  return if eot then s2.endThread else s2

/-- Where a response of `n` registers goes (R135): nowhere if it has none. -/
def responseBase (f : SendForm) (t : Thread) (n : Nat) : Exec (Option Nat) :=
  match n with
  | 0 => .ok none
  | _ + 1 => sendDestination f t

/-- All the registers of a response exist (R4). -/
def responseFits (base : Option Nat) (n : Nat) : Exec Unit :=
  match base with
  | some r => require (decide (r + n ≤ 128)) .outsideGrf
  | none => .ok ()

/-- A send (R135-R138). One that waits and has dependencies stays where it is; a predicated one with no channel enabled
sends nothing. -/
def issueMessage (f : SendForm) (h : Handler) (s : State) : Exec State := do
  let t := s.eu
  if sendWaits f && t.hasDependency then return s
  let k := sendCtl f
  let off ← channelOffset k false
  checkFlags k false off k.exec.channels
  let slots := slotMask t k off
  if k.pred ≠ .none && slots == 0#32 then
    return { s with eu := ← t.advance (Ctl.bytes k) }
  let desc := descriptor t f.desc
  let mlen := (desc.extractLsb' 25 4).toNat
  let rlen := (desc.extractLsb' 20 5).toNat
  require (decide (1 ≤ mlen)) (.messageDescriptor "MessageLength")
  require (decide (rlen ≤ 16)) (.messageDescriptor "ResponseLength")
  require (!(desc.getLsbD 29)) (.messageDescriptor "Reserved29")
  let payload ← sendPayload f t mlen
  let base ← responseBase f t rlen
  responseFits base rlen
  let r ← h { sfid := f.sfid, desc, ex := sendEx t f, eot := sendEot f, payload, slots, channels := k.exec.channels } s
  finishSend r.1 k base rlen r.2 (sendEot f)

end Sys2Proof.Machine
end

