-- ==== Sys2Proof/Machine/Surface.lean ====
section
/-! DEFINITION. What a message addresses (20_memory.md): binding table, surface state, stateless and shared local memory,
bounds (R20-R25, R429, R436-R454). -/

namespace Sys2Proof.Machine

/-- The fields of RENDER_SURFACE_STATE (R437-R455), as the fields' raw values; offsets and QPitch in pixels and rows. `kind`,
`astc` and `pixelBytes` are what the access takes the format for; `raw` is the eight first DWords without the bits that the
access ignores. -/
structure Surface where
  ty : Nat
  array : Bool
  format : BitVec 10
  valign : Nat
  halign : Nat
  tile : Nat
  vls : Nat
  vlso : Nat
  renderCacheMode : Bool
  boundary : Nat
  baseMip : Nat
  qpitch : Nat
  width : Nat
  height : Nat
  depth : Nat
  pitch : Nat
  rotation : Nat
  minArray : Nat
  viewExtent : Nat
  depthStencil : Bool
  samplesLog : Nat
  xOffset : Nat
  yOffset : Nat
  resourceMode : Nat
  iaCoherent : Bool
  mipTail : Nat
  minLod : Nat
  mip : Nat
  auxMode : Nat
  auxPitch : Nat
  auxQpitch : Nat
  uOffset : Nat × Nat
  compressed : Bool
  selects : List (BitVec 3)
  resourceMinLod : Nat
  base : Nat
  aux : Nat
  auxIndex : Nat
  quilt : Nat × Nat
  clear : List DWord
  raw : BitVec 256
  kind : Config.FormatKind
  astc : Bool
  pixelBytes : Nat
deriving DecidableEq, Repr

/-- SURFTYPE codes (R437). -/
def surf1D : Nat := 0
/-- R437. -/
def surf2D : Nat := 1
/-- R437. -/
def surf3D : Nat := 2
/-- R437. -/
def surfCube : Nat := 3
/-- R437. -/
def surfBuffer : Nat := 4
/-- R437. -/
def surfStrbuf : Nat := 5
/-- R438. -/
def surfNull : Nat := 7

/-- Who accesses a surface: the sampling engine, a render target message, a typed message, a media block or transpose read or
write, another data port message, or a message that asks for the fields. Some fields are read, or must be zero, for some of
them only (R437-R454). -/
inductive SurfaceUse | sampler | render | typed | data | media | info
deriving DecidableEq, Repr

/-- Whether an access reads the Surface Format (R437): data port messages other than the render target ones ignore it, but for
typed messages, whose elements have it, and media block messages, of which some forms use it (log 55). -/
def SurfaceUse.readsFormat (k : SurfaceUse) : Bool := k != .data

/-- The bits of the DWords 0 to 10 that an access ignores: those without an effect on what is read or written (R437: the L2
order and, of a render target, the cache mode; R435; the palette index of R447; the EWA control of R448; R451 and D28), and
those read by other kinds of access only: the alignment factors (R440), the rotation and the view extent (R447), Tiled Resource
Mode, Mip Tail Start LOD and Surface Min LOD (R448), the Resource Min LOD (R451), the quilt (R454). -/
def ignoredBits (k : SurfaceUse) : List DWord :=
  let when (b : Bool) (m : DWord) : DWord := if b then m else 0#32
  let port := k == .typed || k == .data || k == .media
  [0x200#32 ||| when (k == .render) 0x100#32 ||| when port 0x3C000#32, 0x7F000000#32, 0#32, 0#32,
   0x7#32 ||| when port 0x60000000#32 ||| when (k == .sampler || k == .data || k == .media) 0x3FF80#32,
   0x100000#32 ||| when (k == .media) 0xC0000#32 ||| when (k == .data || k == .media) 0xF00#32 |||
     when (k == .render || k == .data || k == .media) 0xF0#32,
   0#32, 0x80000000#32 ||| when (k == .render || port) 0xFFF#32, 0#32, 0#32, when (k == .render || port) 0x3FF#32]

/-- A DWord of a surface state as an access sees it. -/
def seenDword (k : SurfaceUse) (d : Nat → DWord) (i : Nat) : DWord := d i &&& ~~~(ignoredBits k).getD i 0#32

/-- Whether a surface format's name begins PLANAR_ (R436). -/
def isPlanar (kind : Config.FormatKind) : Bool :=
  match kind with
  | .planar420x8 | .planar420 | .planar => true
  | .other | .yuv | .compressed | .fxt1 | .raw | .mono8 | .r8Uint | .depth | .rotatable => false

/-- The kind of a format as an access takes it (R437): an ASTC format is a compressed one (R439). -/
def formatSeen (k : SurfaceUse) (format : BitVec 10) : Config.FormatKind :=
  if !k.readsFormat then .other else if format.getLsbD 9 then .compressed else Config.formatKind format

/-- The fields of a surface state for an access, from its DWords. Which layout DWords 6, 10 and 11 have follows the surface
format and Memory Compression Enable (R436, R449, R454); an access that ignores the format reads none of their fields. A pixel
of block and media messages has 32 bits (R444, R448). -/
def surfaceFields (k : SurfaceUse) (words : Nat → DWord) : Surface :=
  let d := seenDword k words
  let at_ (k lo n : Nat) : Nat := ((d k).extractLsb' lo n).toNat
  let format : BitVec 10 := (d 0).extractLsb' 18 10
  let kind := formatSeen k format
  let planar := isPlanar kind
  let compressed := (d 7).getLsbD 30
  { ty := at_ 0 29 3
    array := (d 0).getLsbD 28
    format
    kind
    astc := k.readsFormat && format.getLsbD 9
    pixelBytes := if k = .data ∨ k = .media then 4 else Config.texelSize format
    valign := at_ 0 16 2
    halign := at_ 0 14 2
    tile := at_ 0 12 2
    vls := at_ 0 11 1
    vlso := at_ 0 10 1
    renderCacheMode := (d 0).getLsbD 8
    boundary := at_ 0 6 2
    baseMip := at_ 1 19 5
    qpitch := at_ 1 0 15 * 4
    width := at_ 2 0 14
    height := at_ 2 16 14
    depth := at_ 3 21 11
    pitch := at_ 3 0 18
    rotation := at_ 4 29 2
    minArray := at_ 4 18 11
    viewExtent := at_ 4 7 11
    depthStencil := (d 4).getLsbD 6
    samplesLog := at_ 4 3 3
    xOffset := at_ 5 25 7 * 4
    yOffset := at_ 5 21 3 * 4
    resourceMode := at_ 5 18 2
    iaCoherent := (d 5).getLsbD 14
    mipTail := at_ 5 8 4
    minLod := at_ 5 4 4
    mip := at_ 5 0 4
    auxMode := if planar || !k.readsFormat then 0 else at_ 6 0 3
    auxPitch := at_ 6 3 9
    auxQpitch := at_ 6 16 15 * 4
    uOffset := if planar then (at_ 6 16 14, at_ 6 0 14) else (0, 0)
    compressed
    selects := [(d 7).extractLsb' 25 3, (d 7).extractLsb' 22 3, (d 7).extractLsb' 19 3, (d 7).extractLsb' 16 3]
    resourceMinLod := at_ 7 0 12
    base := ((d 9).extractLsb' 0 16 ++ d 8).toNat
    aux := if planar || compressed then 0 else (((d 11).extractLsb' 0 16 ++ (d 10).extractLsb' 12 20) ++ 0#12).toNat
    auxIndex := if compressed then at_ 10 21 11 else 0
    quilt := (at_ 10 0 5, at_ 10 5 5)
    clear := [d 12, d 13, d 14, d 15]
    raw := d 7 ++ d 6 ++ d 5 ++ d 4 ++ d 3 ++ d 2 ++ d 1 ++ d 0 }

/-- A surface of rows and columns: neither a buffer nor one-dimensional. -/
def Surface.isPlane (u : Surface) : Bool := u.ty == surf2D || u.ty == surf3D || u.ty == surfCube

/-- A buffer or structured buffer. -/
def Surface.isBuffer (u : Surface) : Bool := u.ty == surfBuffer || u.ty == surfStrbuf

/-- A two-dimensional surface that is no array. -/
def Surface.flat (u : Surface) : Bool := u.ty == surf2D && !u.array

/-- The bits of DWords 0 to 5 and 7 to 9 that must be zero in every layout, by DWord (R437, R443-R448, R451, R454). -/
def surfaceReserved : List DWord :=
  [0x00000000#32, 0x80078000#32, 0xC000C000#32, 0x001C0000#32, 0x80000000#32, 0x0103B000#32, 0x00000000#32,
   0x2000F000#32, 0x00000000#32, 0xFFFF0000#32, 0x00000000#32, 0x00000000#32]

/-- The bits of the DWords that are not ignored in a null surface (R438): Surface Type, Width, Height, Depth, Render Target
View Extent, LOD. -/
def nullKept : List DWord := [0xE0000000#32, 0#32, 0x3FFF3FFF#32, 0xFFE00000#32, 0x0003FF80#32, 0x0000000F#32]

/-- A surface of a PLANAR_* format (R436). -/
def Surface.planar (u : Surface) : Bool := isPlanar u.kind

/-- A surface of a compressed format (R439). -/
def Surface.blocky (u : Surface) : Bool := u.kind == .compressed || u.kind == .fxt1

/-- A surface of a YUV format, planar or not. -/
def Surface.yuv (u : Surface) : Bool := u.kind == .yuv || u.planar

/-- A surface whose QPitch is a distance between slices (R443): an array, a volume, a cube. -/
def Surface.sliced (u : Surface) : Bool := u.array || u.ty == surf3D || u.ty == surfCube

/-- A quarter turn of a render target (R447). -/
def Surface.quarterTurn (u : Surface) : Bool := u.rotation == 1 || u.rotation == 3

/-- The coherency of accesses to a surface (R27, R448). -/
def Surface.coherency (u : Surface) : Coherency := if u.iaCoherent then .coherent else .gpuCoherent

/-- An alignment factor from its field (R437); 0 for the reserved code. -/
def alignmentFactor (code : Nat) : Nat := [0, 4, 8, 16].getD code 0

/-- The formats of R439: a buffer's is not YUV or compressed, a one-dimensional surface's not planar or compressed, that of
multisamples not compressed or YCRCB. -/
def Surface.formatOk (u : Surface) : Bool :=
  (!u.isBuffer || !(u.yuv || u.blocky)) && (u.ty != surf1D || !(u.planar || u.blocky)) &&
    (u.samplesLog == 0 || !(u.blocky || u.kind == .yuv))

/-- Codes of the shader channel select that are not reserved (R452). -/
def channelCodeOk (c : BitVec 3) : Bool := c != 2#3 && c != 3#3

/-- The Depth (R445, R446): of a buffer its unused upper bits are zero (a raw one, or one whose format the access ignores, has 30
bits of size, a typed or structured one 27); of a cube at most 340, of an array reduced by the Minimum Array Element. -/
def Surface.depthOk (u : Surface) (k : SurfaceUse) : Bool :=
  if u.ty = surf3D then true
  else if u.isBuffer then
    decide (u.depth ≤ 63) || (u.ty == surfBuffer && (u.kind == .raw || !k.readsFormat) && decide (u.depth ≤ 511))
  else decide (u.depth + u.minArray ≤ if u.ty = surfCube then 340 else 2047)

/-- The pitch range of R445: of a buffer's structure to 2047, of a structured buffer a multiple of 4 bytes, of a RAW buffer
1; of a tiled surface whole tiles (X 512 bytes, W and Y 128, R441, of a tiled resource `Config.tileWidth`); of a
one-dimensional surface it is ignored. -/
def Surface.pitchOk (u : Surface) : Bool :=
  if u.isBuffer then
    decide (u.pitch ≤ 2047) && (u.ty != surfStrbuf || (u.pitch + 1) % 4 == 0) &&
      (u.ty != surfBuffer || u.pitch == 0 || u.kind != .raw)
  else if u.ty = surf1D ∨ u.tile = 0 then true
  else if u.resourceMode ≠ 0 then (u.pitch + 1) % Config.tileWidth u.raw == 0
  else (u.pitch + 1) % (if u.tile = 2 then 512 else 128) == 0

/-- The Width and Height of R444: an even height with a boundary mode, an even width of a PLANAR surface, whole DWords of a
RAW buffer, 32 texels of a MONO8 texture. -/
def Surface.sizeOk (u : Surface) : Bool :=
  (u.boundary == 0 || u.height % 2 == 1) && (u.width % 2 == 1 || !u.planar) &&
    (u.ty != surfBuffer || u.width % 4 == 3 || u.kind != .raw) && (u.width % 32 == 31 || u.kind != .mono8)

/-- The tile modes of R441: buffers are linear, X only for two dimensions, W only of R8_UINT without a line stride,
multisamples only Y, ASTC only Y. One-dimensional surfaces are linear, or Y or W with no tiled resource. -/
def Surface.tileOk (u : Surface) : Bool :=
  (!u.isBuffer || u.tile == 0) && (u.tile != 2 || u.ty == surf2D) &&
    (u.tile != 1 || (u.kind == .r8Uint && u.vls == 0)) && (u.samplesLog == 0 || u.tile == 3) &&
    (!u.astc || u.tile == 3) && (u.ty != surf1D || u.tile == 0 || u.resourceMode == 0)

/-- A level's extent: the field plus 1, shifted by the LOD, at least 1 (R297, R436). -/
def mipExtent (field lod : Nat) : Nat := max 1 ((field + 1) / 2 ^ lod)

/-- Bytes of an element of a tiled resource (R448): of a YCRCB format 2, of PLANAR_420_8 1, else of the texel or block. -/
def Surface.elementBytes (u : Surface) : Nat :=
  match u.kind with
  | .yuv => 2
  | .planar420x8 => 1
  | _ => u.pixelBytes

/-- The logarithm of a texel size in bytes; 4 for sizes of no row of R445. -/
def logBytes (n : Nat) : Fin 5 := if n = 1 then 0 else if n = 2 then 1 else if n = 4 then 2 else if n = 8 then 3 else 4

/-- The largest mip that is the Mip Tail Start LOD (R448): width, height and depth by the logarithm of the element's bytes
and of the samples. -/
def mipTailLimit (u : Surface) : Nat × Nat × Nat :=
  let z := (logBytes u.elementBytes).val
  let ys := u.resourceMode == 2
  if u.ty = surf1D then ((if ys then 16384 else 1024) / 2 ^ z, 1, 1)
  else if u.ty = surf3D then
    if ys then ([32, 16, 16, 16, 8].getD z 0, [32, 32, 32, 16, 16].getD z 0, [32, 32, 16, 16, 16].getD z 0)
    else ([16, 8, 8, 8, 4].getD z 0, [8, 8, 8, 4, 4].getD z 0, [16, 16, 8, 8, 8].getD z 0)
  else
    let w := [128, 128, 64, 64, 32].getD z 0
    let h := [256, 128, 128, 64, 64].getD z 0
    if !ys then ([32, 32, 16, 16, 8].getD z 0, [64, 32, 32, 16, 16].getD z 0, 2048)
    else
      match u.samplesLog with
      | 0 => (w, h, 2048)
      | 1 => (w, h / 2, 2048)
      | 2 => (w / 2, h / 2, 2048)
      | 3 => (w / 2, h / 4, 2048)
      | _ => (w / 4, h / 4, 2048)

/-- The mip of the Mip Tail Start LOD is no larger than its table lists (R448). -/
def Surface.mipTailOk (u : Surface) : Bool :=
  let l := mipTailLimit u
  decide (mipExtent u.width u.mipTail ≤ l.1) && decide (mipExtent u.height u.mipTail ≤ l.2.1) &&
    (u.ty != surf3D || decide (mipExtent u.depth u.mipTail ≤ l.2.2))

/-- The tiled resource modes of R448: code 3 is reserved; one other than NONE is Y tiled, or one-dimensional, of elements of 8
to 128 bits or a compressed format, with a mip tail in its limits. -/
def Surface.resourceOk (u : Surface) : Bool :=
  u.resourceMode == 0 ||
    (u.resourceMode != 3 && (u.tile == 3 || u.ty == surf1D) &&
      (u.astc || u.kind == .compressed || [1, 2, 4, 8, 16].contains u.elementBytes) && u.mipTailOk)

/-- The levels of a MONO8 surface are the whole one (R448, R451). -/
def Surface.monoOk (u : Surface) : Bool :=
  (u.mipTail == 0 && u.minLod == 0 && u.resourceMinLod == 0) || u.kind != .mono8

/-- The X and Y Offset are zero where R448 says so. -/
def Surface.offsetOk (u : Surface) : Bool :=
  (u.xOffset == 0 && u.yOffset == 0) ||
    (u.tile != 0 && u.ty == surf2D && u.mip == 0 && u.samplesLog == 0 && !u.array && u.auxMode == 0 && u.resourceMode == 0 &&
      u.rotation == 0 && (u.valign != 2 || u.xOffset % 8 == 0) && [1, 2, 4, 8, 16].contains u.pixelBytes &&
      (u.pixelBytes != 1 || u.xOffset % 16 == 0) && (u.pixelBytes != 2 || u.xOffset % 8 == 0))

/-- The line stride of R437: only of a two-dimensional surface that is no array; a stride of 1 without an auxiliary surface
and of no compressed format. -/
def Surface.strideOk (u : Surface) : Bool :=
  (u.vls == 0 && u.vlso == 0) || (u.flat && (u.vls == 0 || (u.auxMode == 0 && !u.blocky)))

/-- Whether the auxiliary surface is a colour control surface (R450). -/
def Surface.colourControl (u : Surface) : Bool := u.auxMode == 1 || u.auxMode == 5

/-- A colour control surface of a surface of one sample needs a format that the table of formats supports (R450): with
compression, and of any that is sampled, for render target compression, else for fast clears. -/
def Surface.colourControlOk (u : Surface) (k : SurfaceUse) : Bool :=
  !u.colourControl || u.samplesLog != 0 ||
    ((u.auxMode == 1 || Config.compressesTarget u.format) && (u.auxMode == 5 || Config.clearsFast u.format) &&
      (k != .sampler || Config.compressesTarget u.format))

/-- DWord 6 (R449, R450): of a planar format its reserved bits and the Separate UV Plane Enable (C55) zero, the X offset a
multiple of 4, the Y offset one of 4 or for PLANAR_420_*, whose chroma is interleaved, of 2, in a tiled resource whole tiles;
of another its reserved bits zero and a listed auxiliary mode, a depth one of a depth format without samples or volume, a
colour control one of a format that supports it. To an access that ignores the format the bits reserved in both layouts are
zero. -/
def auxOk (d6 : DWord) (u : Surface) (k : SurfaceUse) : Bool :=
  if !k.readsFormat then d6 &&& 0x8000C000#32 == 0#32
  else if u.planar then
    d6 &&& 0xC003C000#32 == 0#32 && u.uOffset.2 % (if u.kind == .planar then 4 else 2) == 0 &&
      (u.resourceMode == 0 ||
        (u.uOffset.1 * u.elementBytes % Config.tileWidth u.raw == 0 && u.uOffset.2 % Config.tileRows u.raw == 0))
  else
    d6 &&& 0x8000F000#32 == 0#32 && [0, 1, 2, 3, 5].contains u.auxMode &&
      (u.auxMode != 3 || (u.samplesLog == 0 && u.ty != surf3D && u.kind == .depth)) && u.colourControlOk k

/-- DWords 10 and 11 (R454): bits 11:10 zero; of a planar format bits 63:62 and 47:46 zero, and 31:12 but for the table index
of a compressed one (the V plane's offsets are ignored, since its planes are not separate); else without memory compression the
address bits 63:48 (R37). An access that ignores the format looks at no more than bits 11:10. -/
def auxBaseOk (d10 d11 : DWord) (u : Surface) (k : SurfaceUse) : Bool :=
  d10 &&& 0xC00#32 == 0#32 &&
    (if !k.readsFormat then true
     else if u.planar then
      d10 &&& (if u.compressed then 0x001FF000#32 else 0xFFFFF000#32) == 0#32 && d11 &&& 0xC000C000#32 == 0#32
     else u.compressed || d11.extractLsb' 16 16 == 0#16)

/-- DWords 12 to 15 (R455): colours of a colour control surface, with multisamples 0 or 1, ignored but by the sampling engine
and render targets; a depth and zeros of a depth one; else zeros. An access that ignores the format does not know which they
are. -/
def clearOk (u : Surface) (k : SurfaceUse) : Bool :=
  !k.readsFormat ||
  match u.auxMode with
  | 1 | 5 =>
    u.samplesLog == 0 || (k != .sampler && k != .render) || u.clear.all fun c => c == 0#32 || c == Config.formatOne u.format
  | 3 => (u.clear.drop 1).all (· == 0#32)
  | _ => u.clear.all (· == 0#32)

/-- The surface-tiling modes of the compression limits (R433). -/
inductive CompressedTiling | legacy4K | tileYF | tileYS
deriving DecidableEq, Repr

/-- The largest frame width in bytes and in pixels and the largest pitch with memory compression (R433, R445), by the
logarithm of the bytes per pixel (0 to 4). -/
def compressionLimits (t : CompressedTiling) (logBytes : Fin 5) : Nat × Nat × Nat :=
  let k := 1024
  match t with
  | .legacy4K => (16 * k, 16 * k / 2 ^ logBytes.val, 16 * k + 127)
  | .tileYF =>
    if logBytes = 0 then (8 * k, 8 * k, 8 * k + 63)
    else (16 * k, 16 * k / 2 ^ logBytes.val, 16 * k + (if logBytes.val < 3 then 127 else 255))
  | .tileYS =>
    (16 * k, 16 * k / 2 ^ logBytes.val, 16 * k + (if logBytes.val = 0 then 255 else if logBytes.val < 3 then 511 else 1023))

/-- Memory compression (R445, R451): Y tiled only, within the widths and the pitch of its tiling mode. Compression changes no
value (D28). -/
def Surface.compressionOk (u : Surface) : Bool :=
  let mode : CompressedTiling := if u.resourceMode = 1 then .tileYF else if u.resourceMode = 2 then .tileYS else .legacy4K
  let z := u.pixelBytes
  let l := compressionLimits mode (logBytes z)
  !u.compressed ||
    (u.tile == 3 && decide ((u.width + 1) * z ≤ l.1) && decide (u.width + 1 ≤ l.2.1) && decide (u.pitch + 1 ≤ l.2.2))

/-- The alignment of the base address of a tiled surface (R453, R25): 64 KByte of TileYS and 64 KByte tiles, else 4. -/
def Surface.baseOk (u : Surface) : Bool :=
  if u.resourceMode = 2 then u.base % 65536 == 0 else (u.tile == 0 && u.resourceMode == 0) || u.base % 4096 == 0

/-- The Surface QPitch of a tiled volume is whole tiles (R443). -/
def Surface.qpitchTileOk (u : Surface) : Bool :=
  u.ty != surf3D || u.tile == 0 || u.qpitch % Config.tileRows u.raw == 0

/-- The Media Boundary Pixel Mode (R442): of a two-dimensional surface that is no array, read by media block and transpose
messages; else zero. -/
def Surface.boundaryOk (u : Surface) (k : SurfaceUse) : Bool :=
  u.boundary == 0 || (u.boundary != 1 && u.flat && (k == .media || k == .info))

/-- A surface state from its DWords as an access takes it, ill-formed ones refused (R1, R437-R455). The other fields of a null
surface are ignored (R438). -/
def parseSurface (k : SurfaceUse) (d : Nat → DWord) : Exec Surface := do
  let u := surfaceFields k d
  require (decide (u.ty ≠ 6)) (.stateStructure "SurfaceType")
  if u.ty = surfNull then return surfaceFields k fun i => d i &&& nullKept.getD i 0#32
  require ((List.range 12).all fun i => d i &&& surfaceReserved.getD i 0#32 == 0#32) (.stateStructure "SurfaceStateReserved")
  require (u.ty == surfCube || (d 0).extractLsb' 0 6 == 0#6) (.stateStructure "CubeFaceEnable")
  require (u.boundaryOk k) (.stateStructure "MediaBoundaryPixelMode")
  require u.strideOk (.stateStructure "VerticalLineStride")
  require (if u.array then u.ty == surf1D || u.ty == surf2D || u.ty == surfCube
    else u.depth == 0 || u.ty == surf3D || u.isBuffer) (.stateStructure "SurfaceArray")
  require u.formatOk (.stateStructure "SurfaceFormat")
  require (decide (u.baseMip ≤ 28)) (.stateStructure "BaseMipLevel")
  require ((!u.sliced || u.qpitch != 0) && u.qpitchTileOk) (.stateStructure "SurfaceQPitch")
  require (u.ty != surf1D || u.height == 0) (.stateStructure "Height")
  require (if u.isBuffer then decide (u.width ≤ 127) else u.ty != surfCube || u.width == u.height)
    (.stateStructure "Width")
  require u.sizeOk (.stateStructure "WidthHeight")
  require (u.depthOk k) (.stateStructure "Depth")
  require u.pitchOk (.stateStructure "SurfacePitch")
  require (u.ty != surfStrbuf || d 4 == 0#32) (.stateStructure "StructuredBufferDWord4")
  require (decide (u.samplesLog ≤ 4) && (u.samplesLog == 0 || u.ty == surf2D)) (.stateStructure "NumberOfMultisamples")
  require u.tileOk (.stateStructure "TileMode")
  require u.resourceOk (.stateStructure "TiledResourceMode")
  require u.compressionOk (.stateStructure "MemoryCompressionEnable")
  require (decide (u.mip ≤ 14)) (.stateStructure "MipCount")
  require u.monoOk (.stateStructure "Mono8")
  require u.offsetOk (.stateStructure "XYOffset")
  require (auxOk (d 6) u k) (.stateStructure "AuxiliarySurfaceMode")
  require (u.selects.all channelCodeOk) (.stateStructure "ShaderChannelSelect")
  require (auxBaseOk (d 10) (d 11) u k) (.stateStructure "AuxiliarySurfaceBaseAddress")
  require (clearOk u k) (.stateStructure "ClearColor")
  require u.baseOk .messageAddress
  return u

/-- The element size that a typed or render target surface without tiles is aligned to (R434, R453): of a YUV format
twice the element. -/
def Surface.unit (u : Surface) : Nat := (if u.yuv then 2 else 1) * Config.texelSize u.format

/-- The channel selects of a render target (R451, R452): the colours exchanged, alpha in its place. -/
def Surface.selectsPermute (u : Surface) : Bool :=
  let c (k : Nat) : Nat := (u.selects.getD k 0#3).toNat
  c 3 == 7 && [4, 5, 6].contains (c 0) && [4, 5, 6].contains (c 1) && [4, 5, 6].contains (c 2) &&
    c 0 != c 1 && c 0 != c 2 && c 1 != c 2

/-- The rotation of a render target (R447): of a two-dimensional surface without levels or slices, X tiled, of a listed
format; a quarter turn needs even sides. -/
def Surface.rotationOk (u : Surface) : Bool :=
  u.rotation == 0 ||
    (u.flat && u.mip == 0 && u.tile == 2 && (!u.quarterTurn || (u.width % 2 == 1 && u.height % 2 == 1)) &&
      u.kind == .rotatable)

/-- The Surface QPitch is a multiple of the alignment of its slices (R443), where there are slices: of a one-dimensional
surface the horizontal factor, else the vertical factor, but of a tiled volume (`Surface.qpitchTileOk`). The factors are
ignored in a tiled resource (R440). -/
def Surface.qpitchOk (u : Surface) : Bool :=
  !u.sliced || (u.ty == surf3D && u.tile != 0) || u.resourceMode != 0 ||
    u.qpitch % alignmentFactor (if u.ty = surf1D then u.halign else u.valign) == 0

/-- The alignment fields of a surface whose accesses read them (R440, R443, R449): code 0 is reserved; 8 rows only of R8_UINT;
8 rows and 8 columns of a stencil buffer, which is W tiled (R441); with a colour control surface 16 columns, and where it has
slices its own QPitch is not 0 and a multiple of the rows. -/
def Surface.alignmentOk (u : Surface) : Bool :=
  let ccs := u.colourControl
  let stencil := u.tile == 1
  let slices := u.sliced && (ccs || u.auxMode == 3)
  (u.isBuffer || u.resourceMode != 0 ||
      (u.halign != 0 && (!ccs || u.halign == 3) && (!stencil || u.halign == 2) &&
        (u.ty == surf1D || (u.valign != 0 && (u.valign != 2 || u.kind == .r8Uint) && (!stencil || u.valign == 2) &&
          (!slices || u.auxQpitch % alignmentFactor u.valign == 0))))) &&
    u.qpitchOk && (!slices || u.auxQpitch != 0)

/-- The pitch holds a row (R444), which of a quarter turn is a column (R447), and two rows of a W tiled surface, which are
interleaved (R445: 2x the value computed from the width; how that one is rounded up to whole tiles is not in the sources); a
buffer has none, and that of a one-dimensional surface is ignored. -/
def Surface.rowOk (u : Surface) (turned : Bool) : Bool :=
  u.isBuffer || u.ty == surf1D ||
    (if u.tile = 1 then decide (2 * (u.width + 1) ≤ u.pitch + 1) else decide ((if turned then u.height else u.width) ≤ u.pitch))

/-- What the fields of a surface must be for an access of a kind: the line stride and the render cache mode (R437), the
alignment factors where they are read (R440), the width and height of YUV render targets (R444), a cube's depth (R445), channel
selects, rotation, multisamples, the view extent of arrays (R447), the MIP Count (R448), quilts (R454), the Resource Min LOD
(R451), memory compression (R451: only the sampling engine, whose messages `samplerMessageFits` tells apart, and media
messages), and the address and pitch in elements (R445, R453). A message that only asks for the fields needs none of these. -/
def Surface.admits (u : Surface) (k : SurfaceUse) : Exec Unit := do
  if u.ty = surfNull then return ()
  require (k == .info || u.rowOk (k == .render && u.quarterTurn)) (.stateStructure "SurfacePitch")
  require (!u.compressed || k == .sampler || k == .media || k == .info) (.stateStructure "MemoryCompressionEnable")
  let buffer := u.ty != surfBuffer || u.kind == .raw || Config.texelSize u.format == 0 || u.base % Config.texelSize u.format == 0
  let elements := u.tile != 0 || u.unit == 0 || (u.base % u.unit == 0 && (u.ty == surf1D || (u.pitch + 1) % u.unit == 0))
  match k with
  | .sampler =>
    require (!u.renderCacheMode) (.stateStructure "RenderCacheReadWriteMode")
    require u.alignmentOk (.stateStructure "SurfaceAlignment")
    require (u.mip == 0 || !u.yuv) (.stateStructure "MipCount")
    require buffer .messageAddress
    require (decide (u.resourceMinLod ≤ 14 * 256)) (.stateStructure "ResourceMinLod")
    require ([0, 1, 3, 7, 15, 31].contains u.quilt.1 && [0, 1, 3, 7, 15, 31].contains u.quilt.2) (.stateStructure "Quilt")
    require (u.quilt == (0, 0) ||
      (u.ty == surf2D && u.samplesLog == 0 && u.vls == 0 && u.auxMode == 0 &&
        decide ((u.depth + 1) * ((u.quilt.1 + 1) * (u.quilt.2 + 1)) ≤ 2048))) (.stateStructure "Quilt")
  | .render =>
    require (u.vls == 0 && u.vlso == 0) (.stateStructure "VerticalLineStride")
    require u.alignmentOk (.stateStructure "SurfaceAlignment")
    require (u.samplesLog == 0 || !u.depthStencil) (.stateStructure "MultisampledSurfaceStorageFormat")
    require (u.ty != surfCube || u.depth == 0) (.stateStructure "Depth")
    require ((u.mip == 0 && u.width % 2 == 1) || !u.yuv) (.stateStructure "YuvRenderTarget")
    require u.selectsPermute (.stateStructure "ShaderChannelSelect")
    require u.rotationOk (.stateStructure "Rotation")
    require (!(u.ty == surf1D || u.ty == surf2D) || u.viewExtent == u.depth) (.stateStructure "RenderTargetViewExtent")
    require elements .messageAddress
  | .typed =>
    require (!u.renderCacheMode) (.stateStructure "RenderCacheReadWriteMode")
    require (!(u.ty == surf1D || u.ty == surf2D) || u.viewExtent == u.depth) (.stateStructure "RenderTargetViewExtent")
    require elements .messageAddress
  | .data | .media =>
    require (!u.renderCacheMode) (.stateStructure "RenderCacheReadWriteMode")
    require (u.mip == 0) (.stateStructure "MipCount")
    require (u.samplesLog == 0) (.stateStructure "NumberOfMultisamples")
    require (u.ty != surfCube || u.depth == 0) (.stateStructure "Depth")
  | .info => return ()

/-- The DWords of memory from an address on. -/
def memDword (m : Memory) (a k : Nat) : DWord := BitVec.ofNat 32 (Memory.readLE m (a + 4 * k) 4)

/-- The surface state at an address of the context (R19, R21), for an access of a kind; one modified in use is refused (R28). -/
def readSurfaceFor (s : State) (k : SurfaceUse) (a : Nat) : Exec Surface := do
  s.checkStructure a 64
  let u ← parseSurface k (memDword s.mem a)
  u.admits k
  return u

/-- What a message names (R22). -/
inductive Target
  | surface (u : Surface)
  | stateless (nc : Bool)
  | slm
deriving DecidableEq, Repr

/-- The address of the surface state a binding table index selects (R22, R189, R429, R456): through the binding table, whose
pointer is relative to the Surface State Base Address and which starts at a 64-byte boundary, or the bindless offset of the
extended descriptor. -/
def surfaceStateAddress (s : State) (m : Msg) : Exec Nat := do
  let bti := m.bits 0 8
  if bti = 0xFC then return s.ctx.bindlessBase.toNat + m.ex.toNat * 2 ^ 6
  else
    let table := s.ctx.surfaceBase.toNat + s.eu.bindingTable.toNat
    require (decide (table % 64 = 0)) (.stateStructure "BindingTableAlignment")
    let a := table + 4 * bti
    s.checkStructure a 4
    let e := memDword s.mem a 0
    require (e.extractLsb' 0 6 == 0#6) (.stateStructure "BindingTableReserved")
    return s.ctx.surfaceBase.toNat + e.toNat

/-- Which values the Binding Table Index field of a message lists beside surfaces: `MDC_BTS` none (R214), `MDC_BTS_A32` the
stateless ones (R215), `MDC_BTS_SLM_A32` those and shared local memory (R176). Which message has which is not in the sources:
DESIGN CHOICE, log 55. -/
inductive Index | surface | stateless | shared
deriving DecidableEq, Repr

/-- The target of a data port message (R22, R176, R214, R215); F0h-FBh and the values its index field does not list are
reserved. -/
def resolveTarget (s : State) (m : Msg) (k : SurfaceUse) (x : Index) : Exec Target := do
  let bti := m.bits 0 8
  if bti < 0xF0 || bti == 0xFC then return .surface (← readSurfaceFor s k (← surfaceStateAddress s m))
  else if bti == 0xFE && x == .shared then return .slm
  else if (bti == 0xFD || bti == 0xFF) && x != .surface then return .stateless (bti == 0xFD)
  else refuse (.messageDescriptor "BindingTableIndex")

/-- The index of a message that is stateless only (`MDC_STATELESS`, R213): whether it is the non-coherent one. -/
def statelessIndex (m : Msg) : Exec Bool := do
  let bti := m.bits 0 8
  require (bti == 0xFF || bti == 0xFD) (.messageDescriptor "BindingTableIndex")
  return bti == 0xFD

/-- Entries of a buffer surface (R446). -/
def Surface.entries (u : Surface) : Nat := u.depth * 2 ^ 21 + u.height * 2 ^ 7 + u.width + 1

/-- Bytes of a surface (R446: of a buffer `N * (Surface Pitch + 1)`). The size of another surface in bytes is not in the
sources: its rows times its slices; of a one-dimensional one, whose pitch is ignored (R445), its last slice and the QPitch of
those before (DESIGN CHOICE, log 55). -/
def Surface.bytes (u : Surface) : Nat :=
  if u.isBuffer then u.entries * (u.pitch + 1)
  else if u.ty = surf1D then (u.depth * u.qpitch + u.width + 1) * u.pixelBytes
  else (u.pitch + 1) * (u.height + 1) * (u.depth + 1)

/-- Byte-addressed storage of a message: bytes of memory from a base, bounded, with the coherency of the access; a tiled
surface; the shared memory of a group; the null surface (R22, R23, R438). -/
inductive Space
  | memory (base size : Nat) (c : Coherency)
  | tiled (u : Surface)
  | slm (group : Nat) (size : Nat)
  | zero
deriving DecidableEq, Repr

/-- The storage of a surface as a row of bytes; the swizzle of a tiled one is open (R441, `Config.texelOffset`). -/
def Surface.space (u : Surface) : Space :=
  if u.ty = surfNull then .zero
  else if u.tile = 0 then .memory u.base u.bytes u.coherency
  else .tiled u

/-- Where byte `off` of a tiled surface lies. -/
def tiledAddress (u : Surface) (off : Nat) : Nat := u.base + Config.texelOffset u.raw off 0 0 0 0

/-- The current thread's group. -/
def State.ownGroup (s : State) : Option Group := s.groups.find? fun g => some g.id == s.eu.group

/-- The shared memory of the current thread: empty without a group (R14, D10). -/
def slmSpace (s : State) : Space :=
  match s.ownGroup with
  | some g => .slm g.id g.slmSize
  | none => .slm 0 0

/-- The coherency of a stateless access (R22, R213). -/
def statelessCoherency (nc : Bool) : Coherency := if nc then .nonCoherent else .coherent

/-- A32 stateless storage (R21, R22, R224, R253): from General State Base plus a buffer base, bounded by the General State
Buffer Size, which counts from the General State Base, and, where the message carries one, by the per-thread scratch size, of
which `used` bytes lie before the buffer base: of a block message all of it, since R253 bounds the Buffer Base Address and the
Global Offset together; of a scratch block none, since its size is the space the thread may use (R23, R242). -/
def statelessSpace (s : State) (nc : Bool) (bufferBase : Nat) (ptss : Option Nat) (used : Nat) : Exec Space := do
  require (decide (s.ctx.generalBase.toNat + bufferBase < addressLimit)) .addressSum
  let size := s.ctx.generalSize.toNat - bufferBase
  match ptss with
  | none => return .memory (s.ctx.generalBase.toNat + bufferBase) size (statelessCoherency nc)
  | some p =>
    require (decide (p ≤ 11)) (.messagePayload "PerThreadScratchSpace")
    return .memory (s.ctx.generalBase.toNat + bufferBase) (min size (1024 * 2 ^ p - used)) (statelessCoherency nc)

/-- Every byte of an element of a tiled surface has an address (R21, R38). -/
def checkTiled (s : State) (u : Surface) (off n : Nat) : Exec Unit :=
  (sequence ((List.range n).map fun k => s.checkAccess (tiledAddress u (off + k)) 1)).map fun _ => ()

/-- Bytes of a tiled surface as one number. -/
def readTiled (s : State) (u : Surface) (off : Nat) : Nat → Nat
  | 0 => 0
  | n + 1 => (s.loadByte u.coherency (tiledAddress u off)).toNat + 256 * readTiled s u (off + 1) n

/-- The state after the bytes of a number are stored in a tiled surface. -/
def writeTiled (s : State) (u : Surface) (off v : Nat) : Nat → State
  | 0 => s
  | n + 1 => writeTiled (s.store u.coherency (tiledAddress u off) 1 v) u (off + 1) (v / 256) n

/-- The shared memory contents of a group. -/
def State.slmOf (s : State) (id : Nat) : Store :=
  match s.groups.find? fun g => g.id == id with
  | some g => g.slm
  | none => []

/-- The state with a group's shared memory replaced. -/
def State.setSlm (s : State) (id : Nat) (m : Store) : State :=
  { s with groups := s.groups.map fun g => if g.id == id then { g with slm := m } else g }

/-- An element of `n` bytes at an offset: 0 out of bounds (R23, D9-D11). -/
def Space.read (s : State) (sp : Space) (off n : Nat) : Exec Nat :=
  match sp with
  | .memory base size c =>
    if off + n ≤ size then do
      s.checkAccess (base + off) n
      return s.load c (base + off) n
    else .ok 0
  | .tiled u =>
    if off + n ≤ u.bytes then do
      checkTiled s u off n
      return readTiled s u off n
    else .ok 0
  | .slm id size => .ok (if off + n ≤ size then Store.readLE (Config.slmFill id) (s.slmOf id) off n else 0)
  | .zero => .ok 0

/-- An element of `n` bytes written at an offset: dropped out of bounds (R23, D9-D11). -/
def Space.write (s : State) (sp : Space) (off n v : Nat) : Exec State :=
  match sp with
  | .memory base size c =>
    if off + n ≤ size then do
      s.checkAccess (base + off) n
      return s.store c (base + off) n v
    else .ok s
  | .tiled u =>
    if off + n ≤ u.bytes then do
      checkTiled s u off n
      return writeTiled s u off v n
    else .ok s
  | .slm id size => .ok (if off + n ≤ size then s.setSlm id (Store.writeLE (s.slmOf id) off v n) else s)
  | .zero => .ok s

/-- Whether an element lies inside (R23). -/
def Space.inside (sp : Space) (off n : Nat) : Bool :=
  match sp with
  | .memory _ size _ => decide (off + n ≤ size)
  | .tiled u => decide (off + n ≤ u.bytes)
  | .slm _ size => decide (off + n ≤ size)
  | .zero => false

/-- 48-bit canonical form (R20). -/
def canonical (a : Nat) : Bool := decide (a < 2 ^ 47) || (decide (2 ^ 64 - 2 ^ 47 ≤ a) && decide (a < 2 ^ 64))

/-- An A64 element in bounds (R23): its first and last byte are canonical. -/
def a64Inside (a n : Nat) : Bool := canonical a && canonical (a + n - 1)

/-- The storage of one A64 element (R20, R22, R23): the 48 address bits the hardware uses; none out of bounds. -/
def a64Space (nc : Bool) (a n : Nat) : Space :=
  if a64Inside a n then .memory (a % addressLimit) n (statelessCoherency nc) else .zero

/-- R25: the address is a multiple of `n`. -/
def aligned (a n : Nat) : Exec Unit := require (decide (a % n = 0)) .messageAddress

/-! ### Surfaces with coordinates -/

/-- Number of samples of a surface (R447). -/
def Surface.samples (u : Surface) : Nat := 2 ^ u.samplesLog

/-- Whether an element's coordinates are inside a surface (R23, R275, R444-R448): `lod` counts from the Surface Min LOD, a
volume's R is bounded by the Render Target View Extent too (R447). -/
def Surface.contains (u : Surface) (x y r lod sample : Nat) : Bool :=
  if u.isBuffer then decide (x < u.entries)
  else
    let level := lod + u.minLod
    decide (lod ≤ u.mip) && decide (sample < u.samples) && decide (x < mipExtent u.width level) &&
    (if u.ty = surf1D then decide (y ≤ u.depth)
     else decide (y < mipExtent u.height level) &&
      (if u.ty = surf3D then decide (r < mipExtent u.depth level) && decide (r ≤ u.viewExtent)
       else if u.ty = surfCube then decide (r < 6 * (u.depth + 1)) else decide (r ≤ u.depth)))

/-- The memory row of row `y` of level 0 and slice `r` of a linear surface (R443): slices QPitch rows apart; the line stride
is that of a flat surface (R437). -/
def Surface.linearRow (u : Surface) (y r : Nat) : Nat := (r + u.minArray) * u.qpitch + (y * (u.vls + 1) + if u.vls = 1 then u.vlso else 0)

/-- Address of an element (R436, R443, R445, R446, R448): of a buffer `base + x * pitch`; of level 0, sample 0 of a linear
surface by its row, slices QPitch rows apart (of a one-dimensional one QPitch pixels); others from the open layout, from the
start of the surface that the X and Y Offset give. -/
def Surface.address (u : Surface) (x y r lod sample : Nat) : Nat :=
  let z := Config.texelSize u.format
  if u.isBuffer then u.base + x * (u.pitch + 1)
  else if u.tile = 0 ∧ u.resourceMode = 0 ∧ lod + u.minLod = 0 ∧ sample = 0 then
    if u.ty = surf1D then u.base + ((y + u.minArray) * u.qpitch + x) * z
    else u.base + u.linearRow y r * (u.pitch + 1) + x * z
  else
    u.base + Config.texelOffset u.raw (x + u.xOffset) (y * (u.vls + 1) + (if u.vls = 1 then u.vlso else 0) + u.yOffset)
      (r + u.minArray) (lod + u.minLod) sample

/-- The bytes of an element of a surface, at most 16; 0 outside and on the null surface (R23, R438). -/
def Surface.readTexel (s : State) (u : Surface) (x y r lod sample : Nat) : Exec (BitVec 128) :=
  let n := min 16 (Config.texelSize u.format)
  if u.ty ≠ surfNull ∧ u.contains x y r lod sample then do
    let a := u.address x y r lod sample
    s.checkAccess a n
    return BitVec.ofNat 128 (s.load u.coherency a n)
  else .ok 0#128

/-- The bytes of an element of a surface written; nothing outside and on the null surface (R23, R438). -/
def Surface.writeTexel (s : State) (u : Surface) (x y r lod sample : Nat) (v : BitVec 128) : Exec State :=
  let n := min 16 (Config.texelSize u.format)
  if u.ty ≠ surfNull ∧ u.contains x y r lod sample then do
    let a := u.address x y r lod sample
    s.checkAccess a n
    return s.store u.coherency a n v.toNat
  else .ok s

/-- The row of memory that row `y` of a media block is, when a surface has `h` addressable rows (R223, R437, R442). `vls`
and `vlso` are the effective line stride and offset. -/
def mediaRow (mode h vls vlso : Nat) (y : Int) : Nat :=
  let clampTo (n : Nat) (z : Int) : Nat := (min (max z 0) ((n : Int) - 1)).toNat
  let sameParity : Nat :=
    if y < 0 then (y % 2).toNat
    else if ((h : Int) - 1 - y) % 2 = 0 then h - 1 else h - 2
  let inside := decide (0 ≤ y) && decide (y < h)
  if vls = 0 then
    if mode = 3 && !inside then sameParity else clampTo h y
  else if mode = 2 then clampTo (2 * h) (2 * y + vlso)
  else clampTo h y * 2 + vlso

end Sys2Proof.Machine
end

