-- ==== Sys2Proof/Machine/Payload.lean ====
section
/-! DEFINITION. Address and data payloads of the data ports (43_dataport_payloads.md), slot enables (R183-R184, R207-R211,
R245), and response registers. -/

namespace Sys2Proof.Machine

/-- SIMD modes of a message (R207-R209). -/
inductive Simd | s8 | s16 | s4x2
deriving DecidableEq, Repr

/-- Slots of a mode. -/
def Simd.slots : Simd → Nat
  | .s8 => 8
  | .s16 => 16
  | .s4x2 => 2

/-- MDC_SM2 (R208). -/
def simd2 (c : Nat) : Simd := if c = 0 then .s8 else .s16

/-- MDC_SM2R (R207). -/
def simd2R (c : Nat) : Simd := if c = 0 then .s16 else .s8

/-- MDC_SM3 (R209). -/
def simd3 (c : Nat) : Exec Simd :=
  match c with
  | 0 => .ok .s4x2
  | 1 => .ok .s16
  | 2 => .ok .s8
  | _ => refuse (.messageDescriptor "SimdMode")

/-- MDC_SM2RS (R217): SIMD8 only. -/
def simd2RS (c : Nat) : Exec Simd := if c = 1 then .ok .s8 else refuse (.messageDescriptor "SimdMode")

/-- MDC_SM2S (R218): SIMD8 only. -/
def simd2S (c : Nat) : Exec Simd := if c = 0 then .ok .s8 else refuse (.messageDescriptor "SimdMode")

/-- MDC_SM3S (R219): SIMD4x2 and SIMD8. -/
def simd3S (c : Nat) : Exec Simd :=
  match c with
  | 0 => .ok .s4x2
  | 2 => .ok .s8
  | _ => refuse (.messageDescriptor "SimdMode")

/-- The pixel/sample mask of a header (R245); all ones without one. -/
def Msg.pixelMask (m : Msg) : BitVec 16 :=
  if m.hasHeader then (dword m.header 7).extractLsb' 0 16 else 0xFFFF#16

/-- Slot `i` is accessed: enabled and in the pixel mask (R245), shifted by a slot group (R210); in SIMD4x2 a slot is four
channels, and any of them enables it (log 22). -/
def slotActive (m : Msg) (mode : Simd) (mask : BitVec 16) (group i : Nat) : Bool :=
  match mode with
  | .s4x2 => m.slot (4 * i) || m.slot (4 * i + 1) || m.slot (4 * i + 2) || m.slot (4 * i + 3)
  | _ => m.slot i && mask.getLsbD (i + 8 * group)

/-- QWord `k` of a register (R285). -/
def qword (r : HWord) (k : Nat) : QWord := r.extractLsb' (64 * k) 64

/-- OWord `k` of a register (R276). -/
def oword (r : HWord) (k : Nat) : OWord := r.extractLsb' (128 * k) 128

/-- Where slot `i` of the DWord part that starts at register `k` lies: register and DWord (R261, R268; SIMD4x2: DWord
`4 * slot + c` of the register, R264). -/
def dwordPlace (mode : Simd) (k c i : Nat) : Nat × Nat :=
  match mode with
  | .s8 => (k, i)
  | .s16 => (k + i / 8, i % 8)
  | .s4x2 => (k, 4 * i + c)

/-- Registers of one DWord part. -/
def Simd.regs : Simd → Nat
  | .s16 => 2
  | _ => 1

/-- The DWord of slot `i` in the part at register `k`. -/
def Msg.dw (m : Msg) (mode : Simd) (k c i : Nat) : DWord :=
  let p := dwordPlace mode k c i
  dword (m.reg p.1) p.2

/-- Where slot `i` of the contiguous QWord part at register `k` lies (R292, R295; SIMD4x2: QWord `2 * slot`, R301). -/
def qwordPlace (mode : Simd) (k i : Nat) : Nat × Nat :=
  match mode with
  | .s4x2 => (k, 2 * i)
  | _ => (k + i / 4, i % 4)

/-- Registers of one contiguous QWord part. -/
def Simd.qregs : Simd → Nat
  | .s8 => 2
  | .s16 => 4
  | .s4x2 => 1

/-- The QWord of slot `i` in the part at register `k`. -/
def Msg.qw (m : Msg) (mode : Simd) (k i : Nat) : QWord :=
  let p := qwordPlace mode k i
  qword (m.reg p.1) p.2

/-! ### Responses -/

/-- What a response register defines: values at bit positions with a width, later ones last. -/
abbrev Piece := Nat × Nat × Nat

/-- Bits `lo .. lo + w - 1` of a register replaced by a value. -/
def placeBits (r : HWord) (lo w v : Nat) : HWord :=
  let mask : HWord := BitVec.ofNat 256 ((2 ^ w - 1) * 2 ^ lo)
  (r &&& ~~~mask) ||| BitVec.ofNat 256 (v % 2 ^ w * 2 ^ lo)

/-- A register from its pieces over what it otherwise holds. -/
def piecesOver (r : HWord) : List Piece → HWord
  | [] => r
  | (lo, w, v) :: rest => piecesOver (placeBits r lo w v) rest

/-- `n` response registers from values placed at (register, low bit, width, value); the other bits are free (log 22). -/
def responseFrom (s : State) (n : Nat) (l : List (Nat × Piece)) : Answer :=
  wholeRegs ((List.range n).map fun r =>
    piecesOver (Config.freeReg s.draws r) (l.filterMap fun e => if e.1 = r then some e.2 else none))

/-- The bytes of a register that no piece touches, a bit each. -/
def untouched : List Piece → DWord
  | [] => 0xFFFFFFFF#32
  | (lo, w, _) :: rest =>
    untouched rest &&& ~~~(BitVec.ofNat 32 ((2 ^ ((lo + w + 7) / 8 - lo / 8) - 1) * 2 ^ (lo / 8)))

/-- As `responseFrom`, the other bytes not written (R239, R246). -/
def responseOver (n : Nat) (l : List (Nat × Piece)) : Answer :=
  (List.range n).map fun r =>
    let own := l.filterMap fun e => if e.1 = r then some e.2 else none
    ⟨piecesOver 0#256 own, untouched own⟩

/-- Slots `0 .. n-1` that satisfy a test. -/
def activeSlots (n : Nat) (p : Nat → Bool) : List Nat := (List.range n).filter p

/-- A list of parts run one after another on the state, with their values. -/
def runSlots {α : Type} (s : State) (slots : List Nat) (f : State → Nat → Exec (State × α)) :
    Exec (State × List α) :=
  match slots with
  | [] => .ok (s, [])
  | i :: rest => do
    let (s1, a) ← f s i
    let (s2, as) ← runSlots s1 rest f
    return (s2, a :: as)

/-- A list of parts run one after another on the state. -/
def runAll {α : Type} (s : State) (l : List α) (f : State → α → Exec State) : Exec State :=
  match l with
  | [] => .ok s
  | a :: rest => do runAll (← f s a) rest f

end Sys2Proof.Machine
end

