-- ==== Sys2Proof/Machine/Atomic.lean ====
section
/-! DEFINITION. Atomic operations (R26, R177-R182) and the order of a message's slots (D12). -/

namespace Sys2Proof.Machine

/-- Sources an integer operation takes (R180-R182); none for a reserved code. -/
def intSources (op : Nat) : Option Nat :=
  match op with
  | 0x5 | 0x6 | 0xF => some 0
  | 0x1 | 0x2 | 0x3 | 0x4 | 0x7 | 0x8 | 0x9 | 0xA | 0xB | 0xC | 0xD => some 1
  | 0x0 | 0xE => some 2
  | _ => none

/-- Signed value of the low `w` bits. -/
def signedOf (w v : Nat) : Int := if v % 2 ^ w ≥ 2 ^ (w - 1) then (v % 2 ^ w : Int) - 2 ^ w else (v % 2 ^ w : Int)

/-- The value stored by an integer operation at width `w` (R180-R182; modulo `2^w`, D21). -/
def intResult (op w old a b : Nat) : Nat :=
  let m := 2 ^ w
  match op with
  | 0x1 => old &&& a
  | 0x2 => old ||| a
  | 0x3 => old ^^^ a
  | 0x4 => a
  | 0x5 => (old + 1) % m
  | 0x6 | 0xF => (old + m - 1) % m
  | 0x7 => (old + a) % m
  | 0x8 => (old + m - a % m) % m
  | 0x9 => (a + m - old % m) % m
  | 0xA => if signedOf w old < signedOf w a then a else old
  | 0xB => if signedOf w a < signedOf w old then a else old
  | 0xC => max old a
  | 0xD => min old a
  | _ => if a = old then b else old

/-- The value an integer operation returns (R182): the new one for `AOP_PREDEC`, else the old one. -/
def intReturn (op w old a b : Nat) : Nat := if op = 0xF then intResult op w old a b else old

/-- A signalling NaN of single precision. -/
def isSignalling (b : Nat) : Bool := isNan .f b && b / 2 ^ 22 % 2 == 0

/-- Of two operands one is a NaN: what `fmax` and `fmin` give (R178): a signalling operand as it is
(`FOP2_SNAN_RESULT`, 92_eei_decisions.md), else the operand that is no NaN; which of two is open. -/
def nanPick (free : QWord) (x y : Nat) : Nat :=
  let either := if free.getLsbD 0 then x else y
  let quietized (b : Nat) : Nat := if Config.fop2SnanUnquietized then b else b ||| 2 ^ 22
  if isSignalling x && isSignalling y then quietized either
  else if isSignalling x then quietized x
  else if isSignalling y then quietized y
  else if isNan .f x && isNan .f y then either
  else if isNan .f x then y else x

/-- `AOP_FMAX` (R177, R178): `fmax(-0, +0) = -0`, the other order of the zeros open. -/
def floatMax (free : QWord) (old a : Nat) : Nat :=
  if isNan .f old || isNan .f a then nanPick free old a
  else
    match compareNum (decodeFloat .f old) (decodeFloat .f a) with
    | some .lt => a
    | some .gt => old
    | _ => if old = 0x80000000 then old else if free.getLsbD 0 then old else a

/-- `AOP_FMIN` (R177, R178): `fmin(+0, -0) = +0`, the other order of the zeros open. -/
def floatMin (free : QWord) (old a : Nat) : Nat :=
  if isNan .f old || isNan .f a then nanPick free old a
  else
    match compareNum (decodeFloat .f old) (decodeFloat .f a) with
    | some .lt => old
    | some .gt => a
    | _ => if old = 0 then old else if free.getLsbD 0 then old else a

/-- `AOP_FCMPWR` (R179): IEEE equality, then a raw move. -/
def floatCompareWrite (old a b : Nat) : Nat :=
  if compareNum (decodeFloat .f old) (decodeFloat .f a) == some .eq && !(isNan .f old || isNan .f a) then b else old

/-- An atomic operation. -/
inductive Atomic
  | int (op : Nat)
  | float (op : Nat)
deriving DecidableEq, Repr

/-- Sources of an operation; reserved codes are refused (93 "Others: Reserved"). -/
def Atomic.sources : Atomic → Exec Nat
  | .int op =>
    match intSources op with
    | some n => .ok n
    | none => refuse (.messageDescriptor "AtomicOperation")
  | .float op =>
    match op with
    | 1 | 2 => .ok 1
    | 3 => .ok 2
    | _ => refuse (.messageDescriptor "AtomicOperation")

/-- MDC_AOP3S (R216): the compare and write only. No message of the sources names this field. -/
def subsetTrinary (c : Nat) : Exec Atomic := if c = 0xE then .ok (.int c) else refuse (.messageDescriptor "AtomicOperation")

/-- The value an operation stores. -/
def Atomic.result (o : Atomic) (free : QWord) (w old a b : Nat) : Nat :=
  match o with
  | .int op => intResult op w old a b
  | .float op => if op = 1 then floatMax free old a else if op = 2 then floatMin free old a else floatCompareWrite old a b

/-- The value an operation returns (R177, R179-R182). -/
def Atomic.returned (o : Atomic) (w old a b : Nat) : Nat :=
  match o with
  | .int op => intReturn op w old a b
  | .float _ => old

/-- A list reordered by the code of a permutation. -/
def permute {α : Type} : Nat → Nat → List α → List α
  | 0, _, l => l
  | n + 1, code, l =>
    match l.drop (code % l.length) with
    | [] => l
    | a :: rest => a :: permute n (code / l.length) (l.take (code % l.length) ++ rest)

/-- Two address ranges of `n` bytes overlap. -/
def overlaps (n a b : Nat) : Bool := decide (a < b + n) && decide (b < a + n)

/-- No two of some address ranges overlap. -/
def apart (n : Nat) : List Nat → Bool
  | [] => true
  | a :: rest => !rest.any (overlaps n a) && apart n rest

/-- The slots of a message in the order they are performed: it matters only when two address the same bytes, and is open
then (R26, D12). -/
def slotSequence (s : State) (n : Nat) (slots addrs : List Nat) : List Nat :=
  if apart n addrs then slots else permute slots.length (Config.slotOrder s.draws) slots

end Sys2Proof.Machine
end

