-- ==== Sys2Proof/Machine/DataPort.lean ====
section
/-! DEFINITION. The data ports' operations: scattered, untyped and typed surface accesses, blocks, media blocks, atomics
(20_memory.md; payloads R261-R321). What a message is made of is in the files of the ports. -/

namespace Sys2Proof.Machine

/-- Where an element is: a storage and an offset in it, given the slot, the byte distance from the slot's address and the
element's size. -/
abbrev Locator := Nat → Nat → Nat → Space × Nat

/-- Elements at offsets in one storage. -/
def offsetLocator (sp : Space) (off : Nat → Nat) : Locator := fun i d _ => (sp, off i + d)

/-- Elements at 64-bit addresses (R20, R23). -/
def a64Locator (nc : Bool) (addr : Nat → Nat) : Locator := fun i d n => (a64Space nc (addr i + d) n, 0)

/-- The channels a mask includes: position in the payload and channel (R183). -/
def maskChannels (mask : Nat) : List (Nat × Nat) :=
  let l := (List.range 4).filter fun c => mask / 2 ^ c % 2 == 0
  (List.range l.length).zip l

/-- R183: all channels excluded is reserved. -/
def checkMask (mask : Nat) : Exec Unit := require (mask != 15) (.messageDescriptor "ChannelMask")

/-- R222: the masks of an untyped write. -/
def checkWriteMask (mask : Nat) : Exec Unit :=
  require (mask == 0 || mask == 8 || mask == 12 || mask == 14) (.messageDescriptor "WriteChannelMask")

/-- Register of the payload part of channel position `j`, from register `k` on. -/
def channelReg (mode : Simd) (k j : Nat) : Nat :=
  match mode with
  | .s4x2 => k
  | _ => k + j * mode.regs

/-- Registers of a payload with `n` channels. -/
def channelRegs (mode : Simd) (n : Nat) : Nat :=
  match mode with
  | .s4x2 => 1
  | _ => n * mode.regs

/-- One element read. -/
def readAt (s : State) (loc : Locator) (i d n : Nat) : Exec Nat :=
  let p := loc i d n
  Space.read s p.1 p.2 n

/-- One element written. -/
def writeAt (s : State) (loc : Locator) (i d n v : Nat) : Exec State :=
  let p := loc i d n
  Space.write s p.1 p.2 n v

/-- A read of DWord channels (R183, R264, R266, R268): channel `c` of slot `i` is the DWord `4 * c` bytes past the slot's
address. -/
def channelRead (s : State) (mode : Simd) (mask : Nat) (active : List Nat) (loc : Locator) :
    Exec (State × Answer) := do
  checkMask mask
  let chans := maskChannels mask
  let reads ← sequence (active.flatMap fun i => chans.map fun jc => do
    let v ← readAt s loc i (4 * jc.2) 4
    let p := dwordPlace mode (channelReg mode 0 jc.1) jc.2 i
    return (p.1, (32 * p.2, 32, v)))
  return (s, responseFrom s (channelRegs mode chans.length) reads)

/-- A write of DWord channels from the payload's register `k` on (R183, R222). -/
def channelWrite (s : State) (m : Msg) (mode : Simd) (mask k : Nat) (active : List Nat) (addr : Nat → Nat)
    (loc : Locator) : Exec (State × Answer) := do
  checkWriteMask mask
  let chans := maskChannels mask
  m.need (k + channelRegs mode chans.length)
  let order := slotSequence s 16 active (active.map addr)
  let s1 ← runAll s (order.flatMap fun i => chans.map fun jc => (i, jc)) fun t e =>
    writeAt t loc e.1 (4 * e.2.2) 4 (m.dw mode (channelReg mode k e.2.1) e.2.2 e.1).toNat
  return (s1, [])

/-- A scattered read of `n`-byte elements, one in each slot's DWord (R190, R266, R268): the bytes above are free. -/
def scatteredRead (s : State) (mode : Simd) (n : Nat) (active : List Nat) (loc : Locator) :
    Exec (State × Answer) := do
  let reads ← sequence (active.map fun i => do
    let v ← readAt s loc i 0 n
    let p := dwordPlace mode 0 0 i
    return (p.1, (32 * p.2, 8 * n, v)))
  return (s, responseFrom s mode.regs reads)

/-- A scattered write of `n`-byte elements from the payload's register `k` on. -/
def scatteredWrite (s : State) (m : Msg) (mode : Simd) (n k : Nat) (active : List Nat) (addr : Nat → Nat)
    (loc : Locator) : Exec (State × Answer) := do
  m.need (k + mode.regs)
  let order := slotSequence s n active (active.map addr)
  let s1 ← runAll s order fun t i => writeAt t loc i 0 n (m.dw mode k 0 i).toNat
  return (s1, [])

/-- Element widths of the A64 scattered messages (R170). -/
inductive ElementSize | byte | dword | qword
deriving DecidableEq, Repr

/-- Bytes of an element. -/
def ElementSize.bytes : ElementSize → Nat
  | .byte => 1
  | .dword => 4
  | .qword => 8

/-- Where element `e` of slot `i` lies in an A64 scattered payload from register `k` on: bytes of one slot share its DWord;
each DWord or QWord element has its own part (R266, R268, R292, R295). -/
def elementPlace (z : ElementSize) (mode : Simd) (k e i : Nat) : Nat × Nat :=
  match z with
  | .byte => let p := dwordPlace mode k 0 i; (p.1, 32 * p.2 + 8 * e)
  | .dword => let p := dwordPlace mode (k + e * mode.regs) 0 i; (p.1, 32 * p.2)
  | .qword => let p := qwordPlace mode (k + e * mode.qregs) i; (p.1, 64 * p.2)

/-- Registers of an A64 scattered payload of `n` elements. -/
def elementRegs (z : ElementSize) (mode : Simd) (n : Nat) : Nat :=
  match z with
  | .byte => mode.regs
  | .dword => n * mode.regs
  | .qword => n * mode.qregs

/-- R170: 8 elements not for bytes, at most 256 bytes of payload. -/
def checkElements (z : ElementSize) (mode : Simd) (n : Nat) : Exec Unit :=
  require (decide (z = .byte → n ≤ 4) && decide (n * mode.slots * z.bytes ≤ 256)) (.messageDescriptor "DataSize")

/-- An A64 scattered read of `n` consecutive elements for each slot (R170). -/
def elementRead (s : State) (z : ElementSize) (mode : Simd) (n : Nat) (active : List Nat) (loc : Locator) :
    Exec (State × Answer) := do
  checkElements z mode n
  let reads ← sequence (active.flatMap fun i => (List.range n).map fun e => do
    let v ← readAt s loc i (e * z.bytes) z.bytes
    let p := elementPlace z mode 0 e i
    return (p.1, (p.2, 8 * z.bytes, v)))
  return (s, responseFrom s (elementRegs z mode n) reads)

/-- An A64 scattered write of `n` consecutive elements for each slot (R170). -/
def elementWrite (s : State) (m : Msg) (z : ElementSize) (mode : Simd) (n k : Nat) (active : List Nat)
    (addr : Nat → Nat) (loc : Locator) : Exec (State × Answer) := do
  checkElements z mode n
  m.need (k + elementRegs z mode n)
  let order := slotSequence s (n * z.bytes) active (active.map addr)
  let s1 ← runAll s (order.flatMap fun i => (List.range n).map fun e => (i, e)) fun t x =>
    let p := elementPlace z mode k x.2 x.1
    writeAt t loc x.1 (x.2 * z.bytes) z.bytes ((m.reg p.1).extractLsb' p.2 (8 * z.bytes)).toNat
  return (s1, [])

/-! ### Atomics -/

/-- How an atomic's values lie in its payload: DWords; QWords split in two DWord parts (R289, R291, R293, R294); contiguous
QWords (R290, R292); OWords (R282-R284). -/
inductive AtomLayout | dword | split | contiguous | oword
deriving DecidableEq, Repr

/-- Bytes of a value. -/
def AtomLayout.bytes : AtomLayout → Nat
  | .dword => 4
  | .split | .contiguous => 8
  | .oword => 16

/-- Registers of one source. -/
def AtomLayout.regs (l : AtomLayout) (mode : Simd) : Nat :=
  match mode, l with
  | .s4x2, _ => 1
  | .s8, .dword => 1
  | .s8, .oword => 4
  | .s8, _ => 2
  | .s16, .dword => 2
  | .s16, .oword => 8
  | .s16, _ => 4

/-- Registers of `n` sources: in SIMD4x2 DWords and split QWords share one register (R262, R287). -/
def AtomLayout.sourceRegs (l : AtomLayout) (mode : Simd) (n : Nat) : Nat :=
  match mode, l with
  | .s4x2, .dword | .s4x2, .split => min n 1
  | _, _ => n * l.regs mode

/-- Where source (or return) `j` of slot `i` lies from register `k` on: pieces of it as (register, low bit, width). -/
def AtomLayout.place (l : AtomLayout) (mode : Simd) (k j i : Nat) : List (Nat × Nat × Nat) :=
  let b := k + j * l.regs mode
  match mode, l with
  | .s4x2, .dword => [(k, 128 * i + 32 * j, 32)]
  | .s4x2, .split => [(k, 128 * i + 64 * j, 64)]
  | .s4x2, .contiguous => [(b, 128 * i, 64)]
  | .s4x2, .oword => [(b, 128 * i, 128)]
  | .s8, .dword | .s16, .dword => [(b + i / 8, 32 * (i % 8), 32)]
  | .s8, .split => [(b, 32 * i, 32), (b + 1, 32 * i, 32)]
  | .s16, .split => [(b + i / 8, 32 * (i % 8), 32), (b + 2 + i / 8, 32 * (i % 8), 32)]
  | .s8, .contiguous | .s16, .contiguous => [(b + i / 4, 64 * (i % 4), 64)]
  | .s8, .oword | .s16, .oword => [(b + i / 2, 128 * (i % 2), 128)]

/-- The number made of pieces, the first least significant. -/
def gather (m : Msg) : List (Nat × Nat × Nat) → Nat
  | [] => 0
  | (r, lo, w) :: rest => ((m.reg r).extractLsb' lo w).toNat + 2 ^ w * gather m rest

/-- A number cut into pieces. -/
def scatter : List (Nat × Nat × Nat) → Nat → List (Nat × Piece)
  | [], _ => []
  | (r, lo, w) :: rest, v => (r, (lo, w, v)) :: scatter rest (v / 2 ^ w)

/-- An atomic message (R26): each active slot's read, operation and write in one step, in an open order; an element out of
bounds writes nothing and returns 0. -/
def atomicMessage (s : State) (m : Msg) (o : Atomic) (l : AtomLayout) (mode : Simd) (k : Nat) (returns : Bool)
    (active : List Nat) (addr : Nat → Nat) (loc : Locator) : Exec (State × Answer) := do
  let n ← o.sources
  m.need (k + l.sourceRegs mode n)
  let z := l.bytes
  let order := slotSequence s z active (active.map addr)
  let (s1, vals) ← runSlots s order fun t i => do
    let a := if n ≥ 1 then gather m (l.place mode k 0 i) else 0
    let b := if n ≥ 2 then gather m (l.place mode k 1 i) else 0
    let p := loc i 0 z
    let old ← Space.read t p.1 p.2 z
    let t1 ← Space.write t p.1 p.2 z (o.result (t.draw i 7) (8 * z) old a b)
    return (t1, (i, if p.1.inside p.2 z then o.returned (8 * z) old a b else 0))
  let back := vals.flatMap fun e => scatter (l.place mode 0 0 e.1) e.2
  return (s1, if returns then responseFrom s (l.regs mode) back else [])

/-! ### Blocks -/

/-- The bytes of a block as registers from one OWord position on. -/
def blockPieces (r0 half : Nat) : Nat → List Nat → List (Nat × Piece)
  | _, [] => []
  | j, v :: rest => (r0 + (half + j) / 2, (128 * ((half + j) % 2), 128, v)) :: blockPieces r0 half (j + 1) rest

/-- MDC_DB_OW (R172, R203): OWords of a block, and whether it lies in the upper half of the register. -/
def owordCount (c : Nat) : Exec (Nat × Nat) :=
  match c with
  | 0 => .ok (1, 0)
  | 1 => .ok (1, 1)
  | 2 => .ok (2, 0)
  | 3 => .ok (4, 0)
  | 4 => .ok (8, 0)
  | _ => refuse (.messageDescriptor "DataBlocks")

/-- The storage of a block of `n` bytes, which is one access: none if any of its bytes lies outside (R23, D11; 95 B9). -/
def Space.block (sp : Space) (off n : Nat) : Space := if sp.inside off n then sp else .zero

/-- A block read into the response (R276-R281), whatever channels are enabled. -/
def blockRead (s : State) (n half : Nat) (sp : Space) (off : Nat) : Exec (State × Answer) := do
  let vals ← sequence ((List.range n).map fun j => Space.read s (sp.block off (16 * n)) (off + 16 * j) 16)
  return (s, responseFrom s ((n + half + 1) / 2) (blockPieces 0 half 0 vals))

/-- A block written from the payload (R276-R281). -/
def blockWrite (s : State) (m : Msg) (n half : Nat) (sp : Space) (off : Nat) : Exec (State × Answer) := do
  m.need ((n + half + 1) / 2)
  let s1 ← runAll s (List.range n) fun t j =>
    Space.write t (sp.block off (16 * n)) (off + 16 * j) 16 (oword (m.reg ((half + j) / 2)) ((half + j) % 2)).toNat
  return (s1, [])

/-- Two blocks, slot 0 in the low and slot 1 in the high half of each register (R277, R280); `blk` gives each slot's storage
and the offset of its block. -/
def dualRead (s : State) (n : Nat) (active : List Nat) (blk : Nat → Space × Nat) : Exec (State × Answer) := do
  let reads ← sequence (active.flatMap fun i => (List.range n).map fun e => do
    let v ← Space.read s (blk i).1 ((blk i).2 + 16 * e) 16
    return (e, (128 * i, 128, v)))
  return (s, responseFrom s n reads)

/-- Two blocks written (R277, R280). -/
def dualWrite (s : State) (m : Msg) (n k : Nat) (active : List Nat) (addr : Nat → Nat) (blk : Nat → Space × Nat) :
    Exec (State × Answer) := do
  m.need (k + n)
  let order := slotSequence s (16 * n) active (active.map addr)
  let s1 ← runAll s (order.flatMap fun i => (List.range n).map fun e => (i, e)) fun t x =>
    Space.write t (blk x.1).1 ((blk x.1).2 + 16 * x.2) 16 (oword (m.reg (k + x.2)) x.1).toNat
  return (s1, [])

/-- The DWords of HWord `j` that a channel mode lets through (R184): each by its channel in the serial view of 8 or of 16
DWords, which is that of the send's execution size; or all four of an OWord if one of its channels is enabled in the SIMD4x2
view of each register (log 23: the rule does not say how the views go on over several registers). -/
def hwordDwords (m : Msg) (byDword : Bool) (j : Nat) : List Nat :=
  (List.range 8).filter fun d =>
    if byDword then m.slot ((8 * j + d) % (if m.channels ≤ 8 then 8 else 16))
    else (List.range 4).any fun c => m.slot (d / 4 * 4 + c)

/-- An HWord block read (R226, R250, R184). -/
def hwordRead (s : State) (m : Msg) (n : Nat) (byDword : Bool) (sp : Space) (off : Nat) :
    Exec (State × Answer) := do
  let reads ← sequence ((List.range n).flatMap fun j => (hwordDwords m byDword j).map fun d => do
    let v ← Space.read s (sp.block off (32 * n)) (off + 32 * j + 4 * d) 4
    return (j, (32 * d, 32, v)))
  return (s, responseFrom s n reads)

/-- An HWord block write (R226, R250, R184). -/
def hwordWrite (s : State) (m : Msg) (n : Nat) (byDword : Bool) (sp : Space) (off : Nat) :
    Exec (State × Answer) := do
  m.need n
  let s1 ← runAll s ((List.range n).flatMap fun j => (hwordDwords m byDword j).map fun d => (j, d)) fun t x =>
    Space.write t (sp.block off (32 * n)) (off + 32 * x.1 + 4 * x.2) 4 (dword (m.reg x.1) x.2).toNat
  return (s1, [])

/-! ### Typed surfaces -/

/-- What a shader channel select reads (R452). The codes are PRESUMED with the spec (general knowledge). -/
inductive ChannelSelect | zero | one | red | green | blue | alpha
deriving DecidableEq, Repr

/-- R452; the other codes are reserved. -/
def channelSelect (code : BitVec 3) : Option ChannelSelect :=
  match code.toNat with
  | 0 => some .zero
  | 1 => some .one
  | 4 => some .red
  | 5 => some .green
  | 6 => some .blue
  | 7 => some .alpha
  | _ => none

/-- The channel of the surface that a select names, if it names one (R452). -/
def ChannelSelect.channel : ChannelSelect → Option Nat
  | .zero | .one => none
  | .red => some 0
  | .green => some 1
  | .blue => some 2
  | .alpha => some 3

/-- What shader channel `c` selects in a surface (R451, R452). -/
def Surface.select (u : Surface) (c : Nat) : ChannelSelect := (channelSelect (u.selects.getD c 0#3)).getD .zero

/-- The value shader channel `c` reads from a texel (R452): 0, 1 in the format's class, or the channel selected; of a channel
the format does not have, an undefined value. -/
def Surface.shaderValue (u : Surface) (free : DWord) (texel : BitVec 128) (c : Nat) : DWord :=
  match u.select c, (u.select c).channel with
  | .one, _ => Config.formatOne u.format
  | _, some k => if (Config.formatChannels u.format).getLsbD k then Config.texelDecode u.format texel k else free
  | _, none => 0#32

/-- The shader channel that a write puts into surface channel `k` (R452): the first, in RGBA order, selected to it. -/
def Surface.writer (u : Surface) (k : Nat) : Option Nat := (List.range 4).find? fun c => (u.select c).channel == some k

/-- Where a texel is: U, V, R, LOD, sample. -/
structure TexelAt where
  x : Nat
  y : Nat
  r : Nat
  lod : Nat
  sample : Nat
deriving DecidableEq, Repr

/-- Whether a typed message to a surface has sample numbers in its address payload (R298, R307): a multisampled surface. Which
messages have them is not in the sources: DESIGN CHOICE, log 55. -/
def Surface.sampled (u : Surface) : Bool := u.samplesLog != 0

/-- Coordinates of a slot of a typed message (R298, R299, R307, R308, R274, R275). SIMD8 only, or SIMD4x2. -/
def typedAt (m : Msg) (u : Surface) (mode : Simd) (i : Nat) : TexelAt :=
  let k := if u.sampled then 1 else 0
  match mode with
  | .s4x2 =>
    let dw (c : Nat) : DWord := dword (m.reg k) (4 * i + c)
    { x := (dw 0).toNat, y := (dw 1).toNat, r := (dw 2).toNat, lod := (dw 3).toNat % 16
      sample := if u.sampled then (dword (m.reg 0) (4 * i)).toNat % 16 else 0 }
  | _ =>
    let dw (c : Nat) : DWord := dword (m.reg (k + c)) i
    { x := (dw 0).toNat, y := (dw 1).toNat, r := (dw 2).toNat, lod := (dw 3).toNat % 16
      sample := if u.sampled then (dword (m.reg 0) i).toNat % 16 else 0 }

/-- Registers of the coordinates (R298, R299, R307, R308). -/
def typedRegs (u : Surface) (mode : Simd) : Nat :=
  (if u.sampled then 1 else 0) +
    match mode with
    | .s4x2 => 1
    | _ => 4

/-- R274, R306: a LOD is at most 14. -/
def checkLods (m : Msg) (u : Surface) (mode : Simd) (active : List Nat) : Exec Unit :=
  require (active.all fun i => (typedAt m u mode i).lod != 15) (.messagePayload "LOD")

/-- A texel lies in a surface that is no null surface. -/
def Surface.holds (u : Surface) (p : TexelAt) : Bool := u.ty != surfNull && u.contains p.x p.y p.r p.lod p.sample

/-- The address of a texel. -/
def Surface.texelAddress (u : Surface) (p : TexelAt) : Nat := u.address p.x p.y p.r p.lod p.sample

/-- Whether the data of a message are 8-bit red values, one register of them (R319, R320): of a W-tiled surface in SIMD8. -/
def Surface.redOnly (u : Surface) (mode : Simd) : Bool := u.tile == 1 && mode == .s8

/-- The channels of a typed message's data, with their place in the payload (R183, R320). -/
def typedChannels (u : Surface) (mode : Simd) (mask : Nat) : List (Nat × Nat) :=
  if u.redOnly mode then [(0, 0)] else maskChannels mask

/-- Bits of a channel in the data payload (R264, R268, R319). -/
def typedWidth (u : Surface) (mode : Simd) : Nat := if u.redOnly mode then 8 else 32

/-- The channel values a slot of a typed read gets (R452): zeros outside and on the null surface. -/
def typedValue (s : State) (u : Surface) (p : TexelAt) (texel : BitVec 128) (i c : Nat) : DWord :=
  if u.holds p then u.shaderValue ((s.draw (4 * i + c) 30).setWidth 32) texel c else 0#32

/-- A typed read (R186, R183): channel values of the element's format. -/
def typedRead (s : State) (m : Msg) (u : Surface) (mode : Simd) (mask : Nat) (active : List Nat) :
    Exec (State × Answer) := do
  checkMask mask
  m.need (typedRegs u mode)
  checkLods m u mode active
  let chans := typedChannels u mode mask
  let reads ← sequence (active.map fun i => do
    let p := typedAt m u mode i
    let t ← u.readTexel s p.x p.y p.r p.lod p.sample
    return chans.map fun jc =>
      let q := dwordPlace mode (channelReg mode 0 jc.1) jc.2 i
      (q.1, (32 * q.2, typedWidth u mode, (typedValue s u p t i jc.2).toNat)))
  return (s, responseFrom s (channelRegs mode chans.length) reads.flatten)

/-- The texel a slot of a typed write leaves (R452): each channel of the surface takes the value of the shader channel that
writes it, if the message has that channel. -/
def typedTexel (m : Msg) (u : Surface) (mode : Simd) (mask i : Nat) (old : BitVec 128) : BitVec 128 :=
  let chans := typedChannels u mode mask
  let place (k : Nat) : Option (Nat × Nat) := (u.writer k).bind fun c => chans.find? fun jc => jc.2 == c
  let val (k : Nat) : DWord :=
    match place k with
    | some jc => (m.dw mode (channelReg mode (typedRegs u mode) jc.1) jc.2 i) &&& (if u.redOnly mode then 0xFF#32 else 0xFFFFFFFF#32)
    | none => 0#32
  let en : BitVec 4 := (List.range 4).foldl (fun e k => if (place k).isSome then e ||| (1#4 <<< k) else e) 0#4
  Config.texelEncode u.format old en (val 0) (val 1) (val 2) (val 3)

/-- A typed write (R186, R183): the channels of the mask, in the element's format. -/
def typedWrite (s : State) (m : Msg) (u : Surface) (mode : Simd) (mask : Nat) (active : List Nat) :
    Exec (State × Answer) := do
  checkMask mask
  m.need (typedRegs u mode + channelRegs mode (typedChannels u mode mask).length)
  checkLods m u mode active
  let order := slotSequence s 16 active (active.map fun i => u.texelAddress (typedAt m u mode i))
  let s1 ← runAll s order fun t i => do
    let p := typedAt m u mode i
    let old ← u.readTexel t p.x p.y p.r p.lod p.sample
    u.writeTexel t p.x p.y p.r p.lod p.sample (typedTexel m u mode mask i old)
  return (s1, [])

/-- The storage of a slot's element in a typed atomic. -/
def typedSpace (u : Surface) (p : TexelAt) : Space := if u.holds p then .memory (u.texelAddress p) 8 u.coherency else .zero

/-- An atomic on 32-bit elements of a typed surface (R186). -/
def typedAtomic (s : State) (m : Msg) (u : Surface) (op : Nat) (mode : Simd) (returns : Bool) (active : List Nat) :
    Exec (State × Answer) := do
  checkLods m u mode active
  let l := if op = 0 then AtomLayout.split else AtomLayout.dword
  atomicMessage s m (.int op) l mode (typedRegs u mode) returns active (fun i => u.texelAddress (typedAt m u mode i))
    fun i d _ => (typedSpace u (typedAt m u mode i), d)

/-- The counter of an atomic counter message (R450 `AUX_APPEND`; else open). -/
def counterAddress (u : Surface) : Nat :=
  if u.auxMode = 2 then u.aux else Config.counterAddress u.raw

/-- An atomic counter message (R186): every slot operates on the surface's counter; it has no address payload (log 22). -/
def counterAtomic (s : State) (m : Msg) (u : Surface) (op : Nat) (mode : Simd) (returns : Bool) (active : List Nat) :
    Exec (State × Answer) :=
  let sp : Space := if u.ty = surfNull then .zero else .memory (counterAddress u) 8 u.coherency
  let l := if op = 0 then AtomLayout.split else AtomLayout.dword
  atomicMessage s m (.int op) l mode 0 returns active (fun _ => counterAddress u) fun _ d _ => (sp, d)

/-! ### Media blocks -/

/-- The next power of two, at least 4 (R239 BasePitch, at most 64 here). -/
def basePitch (w : Nat) : Nat := if w ≤ 4 then 4 else if w ≤ 8 then 8 else if w ≤ 16 then 16 else if w ≤ 32 then 32 else 64

/-- Bytes of a row of a surface as media blocks see it: 32-bit pixels (R448 X Offset notes; log 22). -/
def Surface.rowBytes (u : Surface) : Nat := 4 * (u.width + 1)

/-- Address of byte `x` of memory row `y` of a surface (R436, R448: its X Offset counts 32-bit pixels; open if tiled). -/
def Surface.byteAddress (u : Surface) (x y : Nat) : Nat :=
  if u.tile = 0 then u.base + y * (u.pitch + 1) + x
  else u.base + Config.texelOffset u.raw ((y + u.yOffset) * (u.pitch + 1) + x + 4 * u.xOffset) 0 0 0 0

/-- The effective vertical line stride and offset (R223). -/
def lineStride (u : Surface) (vlso : Nat) : Nat × Nat :=
  if vlso / 4 % 2 = 1 then (vlso / 2 % 2, vlso % 2) else (u.vls, u.vlso)

/-- A byte of a block read: vertically the boundary mode's row (R442), horizontally 0 outside (R23, R238). -/
def mediaByte (s : State) (u : Surface) (vlso : Nat) (x y : Int) : Exec Nat := do
  if u.ty = surfNull ∨ x < 0 ∨ x ≥ (u.rowBytes : Int) then return 0
  let (vls, off) := lineStride u vlso
  let a := u.byteAddress x.toNat (mediaRow u.boundary (u.height + 1) vls off y)
  s.checkAccess a 1
  return (s.loadByte u.coherency a).toNat

/-- The state after a byte of a block is written; nothing outside the surface (R23, R238). -/
def mediaWrite (s : State) (u : Surface) (vlso : Nat) (x y : Int) (v : Byte) : Exec State := do
  if u.ty = surfNull ∨ x < 0 ∨ x ≥ (u.rowBytes : Int) ∨ y < 0 ∨ y > (u.height : Int) then return s
  let (vls, off) := lineStride u vlso
  let row := if vls = 0 then y.toNat else 2 * y.toNat + off
  let a := u.byteAddress x.toNat row
  s.checkAccess a 1
  return s.store u.coherency a 1 v.toNat

/-- Byte `b` of a register. -/
def regByte (r : HWord) (b : Nat) : Byte := r.extractLsb' (8 * b) 8

/-- A media block read (R239, R240): `w` bytes by `h` rows from (`x`, `y`), row `r` at response byte
`sro + r * rpc * pitch`; the other bytes are not written. -/
def mediaRead (s : State) (m : Msg) (u : Surface) (vlso w h rpc sro : Nat) (x y : Int) :
    Exec (State × Answer) := do
  let pitch := basePitch w
  let cells := (List.range h).flatMap fun r => (List.range w).map fun b => (r, b)
  let vals ← sequence (cells.map fun c => do
    let v ← mediaByte s u vlso (x + c.2) (y + c.1)
    let at_ := sro + c.1 * (rpc * pitch) + c.2
    return (at_ / 32, (8 * (at_ % 32), 8, v)))
  let last := sro + (h - 1) * (rpc * pitch) + w
  return (s, responseOver ((last + 31) / 32) vals)

/-- A media block write (R231, R240, R243): byte `b` of row `r` is at payload byte `r * pitch + b`; `keep` says which are
written. -/
def mediaStore (s : State) (m : Msg) (u : Surface) (vlso w h : Nat) (x y : Int) (keep : Nat → Nat → Bool) :
    Exec (State × Answer) := do
  let pitch := basePitch w
  m.need (((h - 1) * pitch + w + 31) / 32)
  let cells := (List.range h).flatMap fun r => (List.range w).map fun b => (r, b)
  let s1 ← runAll s (cells.filter fun c => keep c.1 c.2) fun t c =>
    let p := c.1 * pitch + c.2
    mediaWrite t u vlso (x + c.2) (y + c.1) (regByte (m.reg (p / 32)) (p % 32))
  return (s1, [])

/-- The bit of a pixel mask for pixel (column, row) (R243). -/
def pixelMaskBit (c r : Nat) : Nat := 16 * (c / 4) + 8 * (r / 2) + 4 * (c % 4 / 2) + 2 * (r % 2) + c % 2

end Sys2Proof.Machine
end

