-- ==== Sys2Proof/Machine/PortOperands.lean ====
section
/-! DEFINITION. Storage and addresses of the data port messages: from descriptor, header and address payload (R168-R176,
R213-R215, R224-R228, R230, R245, R253-R259, R300-R318). The positions of the control fields in descriptor bits 13:0 are
PRESUMED (the family's; 95_test_vectors.md C9 uses them), log 23. -/

namespace Sys2Proof.Machine

/-- Buffer Base Address of an A32 stateless header (R224, R253, R256): DWord 5, bits 31:10. -/
def Msg.bufferBase (m : Msg) : Nat := (dword m.header 5).toNat / 1024 * 1024

/-- Per Thread Scratch Space of a header (R242), if the message has one. -/
def Msg.scratch (m : Msg) : Option Nat := if m.hasHeader then some ((dword m.header 3).extractLsb' 0 4).toNat else none

/-- Global Offset of a block header (R230, R253). -/
def Msg.globalOffset (m : Msg) : Nat := (dword m.header 2).toNat

/-- The storage of a data port 0 or read-only message (R22, R230, R253). -/
def blockSpace (s : State) (m : Msg) (x : Index) : Exec Space := do
  match ← resolveTarget s m .data x with
  | .surface u => return u.space
  | .slm => return slmSpace s
  | .stateless nc => statelessSpace s nc m.bufferBase m.scratch m.bufferBase

/-- The storage of a data port 1 untyped message, and its surface if it is one (R22, R256): of a buffer with its pitch taken as
1 byte (R445). -/
def untypedSpace (s : State) (m : Msg) : Exec (Space × Option Surface) := do
  match ← resolveTarget s m .data .shared with
  | .surface u =>
    require (u.isBuffer || u.ty == surfNull) (.stateStructure "SurfaceType")
    return (if u.ty = surfBuffer then .memory u.base u.entries u.coherency else u.space, some u)
  | .slm => return (slmSpace s, none)
  | .stateless nc => return (← statelessSpace s nc m.bufferBase none 0, none)

/-- Whether an untyped message's address payload has U and V (R302, R311, R314): a structured buffer. -/
def isStructured (u : Option Surface) : Bool :=
  match u with
  | some v => v.ty == surfStrbuf
  | none => false

/-- Registers of an untyped 32-bit address payload (R300, R302, R309, R311, R312, R314). -/
def untypedAddressRegs (mode : Simd) (u : Option Surface) : Nat :=
  match mode with
  | .s4x2 => 1
  | _ => if isStructured u then 2 * mode.regs else mode.regs

/-- Byte offset of a slot of an untyped message (R259 without header, R446): U, or for a structured buffer
`U * pitch + V`, with a U beyond the entries outside. -/
def untypedOffset (m : Msg) (mode : Simd) (u : Option Surface) (i : Nat) : Nat :=
  match u with
  | some v =>
    if v.ty = surfStrbuf then
      let x := (m.dw mode 0 0 i).toNat
      let y := (m.dw mode (match mode with | .s4x2 => 0 | _ => mode.regs) 1 i).toNat
      if x < v.entries then x * (v.pitch + 1) + y else v.bytes
    else (m.dw mode 0 0 i).toNat
  | none => (m.dw mode 0 0 i).toNat

/-- Active slots of an untyped message whose header may carry a pixel mask (R245). -/
def untypedActive (m : Msg) (mode : Simd) : List Nat := activeSlots mode.slots (slotActive m mode m.pixelMask 0)

/-- Active slots of a message without a pixel mask. -/
def plainActive (m : Msg) (mode : Simd) : List Nat := activeSlots mode.slots (slotActive m mode 0xFFFF#16 0)

/-- R25: the active slots' addresses are multiples of `n`. -/
def alignedAll (active : List Nat) (addr : Nat → Nat) (n : Nat) : Exec Unit :=
  require (active.all fun i => addr i % n == 0) .messageAddress

/-! ### Data port 2 -/

/-- The 16-bit sideband offset of a data port 2 message, ExDesc[31:16], where it is enabled (R169, R175, R188). -/
def Msg.sideband (m : Msg) : Nat := if m.desc.getLsbD 7 then (m.ex.extractLsb' 4 16).toNat else 0

/-- Pitch of a scaled header (R259): items are `item` bytes. -/
def Msg.headerPitch (m : Msg) (item : Nat) : Nat := (((dword m.header 0).extractLsb' 0 16).toNat + 1) * item

/-- Storage and byte offsets of a data port 2 A32 or shared-memory message (R168, R169, R254, R255, R259, D26). Its descriptor
has no stateless index: that its stateless access is the coherent kind of R22 is the model's choice (DESIGN CHOICE, log 55). -/
def scaledA32 (s : State) (m : Msg) (mode : Simd) (item : Nat) : Exec (Space × (Nat → Nat)) := do
  let u (i : Nat) : Nat := (m.dw mode 0 0 i).toNat + m.sideband
  if m.hasHeader then
    let base := (dword m.header 5).toNat
    require (decide (base % 4 = 0)) (.messagePayload "BufferBaseAddress")
    return (← statelessSpace s false base none 0, fun i => u i * m.headerPitch item)
  else if m.desc.getLsbD 7 then
    return (slmSpace s, fun i => u i * (m.bits 0 7 + 1))
  else return (← statelessSpace s false 0 none 0, u)

/-- 64-bit addresses of a data port 2 A64 message (R174, R175, R228, R259): with a header, base plus scaled 32-bit offsets;
without, the payload's 64-bit addresses, and out of bounds if the sideband offset is enabled. The second part is the
number of address registers. -/
def scaledA64 (m : Msg) (mode : Simd) (item : Nat) : Exec ((Nat → Nat) × Nat) := do
  if m.hasHeader then
    let base := (qword m.header 2).toNat
    require (decide (base % 4 = 0)) (.messagePayload "BufferBaseAddress")
    let bad := !canonical base
    return (fun i => if bad then 2 ^ 64 else base + m.sideband + (m.dw mode 0 0 i).toNat * m.headerPitch item, mode.regs)
  else
    let bad := m.desc.getLsbD 7
    return (fun i => if bad then 2 ^ 64 else (m.qw mode 0 i).toNat, mode.qregs)

end Sys2Proof.Machine
end

