-- ==== Sys2Proof/Machine/DataPort0.lean ====
section
/-! DEFINITION. The messages of data port 0 (R185) and of the read-only data port (R205). -/

namespace Sys2Proof.Machine

/-- A block of OWords: its storage and byte offset, the Global Offset counted in units of `unit` bytes and, for byte units,
a multiple of `align` (R230, R253). -/
def owordBlock (s : State) (m : Msg) (x : Index) (unit align : Nat) : Exec (Space × Nat) := do
  let off := m.globalOffset * unit
  aligned off align
  return (← blockSpace s m x, off)

/-- Block read of OWords (R185, R203, R205). -/
def owordBlockRead (x : Index) (unit align : Nat) : Handler := fun m s => do
  require (decide (m.bits 13 1 = 0)) (.messageDescriptor "InvalidateAfterRead")
  let (n, half) ← owordCount (m.bits 8 3)
  let (sp, off) ← owordBlock s m x unit align
  blockRead s n half sp off

/-- Block write of OWords (R185, R203). -/
def owordBlockWrite (unit align : Nat) : Handler := fun m s => do
  let (n, half) ← owordCount (m.bits 8 3)
  let (sp, off) ← owordBlock s m .shared unit align
  blockWrite s m n half sp off

/-- MDC_DB_OWD (R204): OWords of each block. -/
def dualCount (c : Nat) : Exec Nat :=
  match c with
  | 0 => .ok 1
  | 2 => .ok 4
  | _ => refuse (.messageDescriptor "OWDualDataBlocks")

/-- Dual block read (R204, R277, R280, R303): offsets in OWords. -/
def owordDualRead (x : Index) : Handler := fun m s => do
  require (decide (m.bits 13 1 = 0)) (.messageDescriptor "InvalidateAfterRead")
  let n ← dualCount (m.bits 8 2)
  m.need 1
  let sp ← blockSpace s m x
  let addr (i : Nat) : Nat := 16 * (m.globalOffset + (m.dw .s4x2 0 0 i).toNat)
  dualRead s n (plainActive m .s4x2) fun i => (sp.block (addr i) (16 * n), addr i)

/-- Dual block write (R204, R277, R280, R303). -/
def owordDualWrite : Handler := fun m s => do
  let n ← dualCount (m.bits 8 2)
  let sp ← blockSpace s m .shared
  let addr (i : Nat) : Nat := 16 * (m.globalOffset + (m.dw .s4x2 0 0 i).toNat)
  dualWrite s m n 1 (plainActive m .s4x2) addr fun i => (sp.block (addr i) (16 * n), addr i)

/-- DWord scattered read (R185, R25, R315, R317): offsets in DWords. That the scattered messages have `MDC_SM2` (0 SIMD8, 1
SIMD16) and not its reverse is PRESUMED (log 23), here and in the messages below. -/
def dwordScatteredRead (x : Index) : Handler := fun m s => do
  let mode := simd2 (m.bits 8 1)
  m.need mode.regs
  let sp ← blockSpace s m x
  let addr (i : Nat) : Nat := 4 * (m.globalOffset + (m.dw mode 0 0 i).toNat)
  scatteredRead s mode 4 (plainActive m mode) (offsetLocator sp addr)

/-- DWord scattered write. -/
def dwordScatteredWrite : Handler := fun m s => do
  let mode := simd2 (m.bits 8 1)
  let sp ← blockSpace s m .shared
  let addr (i : Nat) : Nat := 4 * (m.globalOffset + (m.dw mode 0 0 i).toNat)
  scatteredWrite s m mode 4 mode.regs (plainActive m mode) addr (offsetLocator sp addr)

/-- MDC_DS (R190). -/
def dataSize (c : Nat) : Exec Nat :=
  match c with
  | 0 => .ok 1
  | 1 => .ok 2
  | 2 => .ok 4
  | _ => refuse (.messageDescriptor "DataSize")

/-- Byte scattered read (R185, R190, R25): offsets in bytes. -/
def byteScatteredRead : Handler := fun m s => do
  let n ← dataSize (m.bits 10 2)
  let mode := simd2 (m.bits 8 1)
  m.need mode.regs
  let sp ← blockSpace s m .shared
  let addr (i : Nat) : Nat := m.globalOffset + (m.dw mode 0 0 i).toNat
  scatteredRead s mode n (plainActive m mode) (offsetLocator sp addr)

/-- Byte scattered write (R185, R190). -/
def byteScatteredWrite : Handler := fun m s => do
  let n ← dataSize (m.bits 10 2)
  let mode := simd2 (m.bits 8 1)
  let sp ← blockSpace s m .shared
  let addr (i : Nat) : Nat := m.globalOffset + (m.dw mode 0 0 i).toNat
  scatteredWrite s m mode n mode.regs (plainActive m mode) addr (offsetLocator sp addr)

/-- The stores of the current thread, performed with respect to every thread (R27 item 4): its non-coherent ones race no
more. -/
def State.fence (s : State) : State :=
  { s with stores := s.stores.map fun b =>
      if b.writer = .thread s.eu.tid true then { b with writer := .thread s.eu.tid false } else b }

/-- Memory fence (R27 item 4): a message's memory effect is done when it is sent (log 6), so a fence only makes the thread's
non-coherent stores visible. -/
def memoryFence : Handler := fun _ s => .ok (s.fence, [])

/-- A scratch block message (R185 bit 18, R198, R199, R250). The positions in its descriptor, and that its offset counts
units of 32 bytes, are PRESUMED (log 23); that its access is the coherent kind of R22, no index naming one, is a DESIGN CHOICE
(log 55). -/
def scratchBlock : Handler := fun m s => do
  m.headerRequired
  require (decide (m.bits 15 1 = 0)) (.messageDescriptor "InvalidateAfterRead")
  let sp ← statelessSpace s false m.bufferBase m.scratch 0
  let n := 2 ^ m.bits 12 2
  let off := 32 * m.bits 0 12
  if m.bits 17 1 = 1 then hwordWrite s m n (m.bits 16 1 = 1) sp off
  else hwordRead s m n (m.bits 16 1 = 1) sp off

/-- `MT0R_B` (R185). -/
def execMt0rB (f : SendForm) (s : State) : Host.Outcome State Fault Refusal :=
  (issueMessage f (owordBlockRead .shared 16 1) s).outcome

/-- `MT0R_AB` (R185, R230): a byte offset, DWord aligned. -/
def execMt0rAb (f : SendForm) (s : State) : Host.Outcome State Fault Refusal :=
  (issueMessage f (owordBlockRead .shared 1 4) s).outcome

/-- `MT0R_OWDB` (R185). -/
def execMt0rOwdb (f : SendForm) (s : State) : Host.Outcome State Fault Refusal :=
  (issueMessage f (owordDualRead .shared) s).outcome

/-- `MT0R_DWS` (R185). -/
def execMt0rDws (f : SendForm) (s : State) : Host.Outcome State Fault Refusal :=
  (issueMessage f (dwordScatteredRead .shared) s).outcome

/-- `MT0R_BS` (R185). -/
def execMt0rBs (f : SendForm) (s : State) : Host.Outcome State Fault Refusal :=
  (issueMessage f byteScatteredRead s).outcome

/-- `MT0_MEMFENCE` (R185, R27). -/
def execMt0Memfence (f : SendForm) (s : State) : Host.Outcome State Fault Refusal :=
  (issueMessage f memoryFence s).outcome

/-- `MT0W_B` (R185). -/
def execMt0wB (f : SendForm) (s : State) : Host.Outcome State Fault Refusal :=
  (issueMessage f (owordBlockWrite 16 1) s).outcome

/-- `MT0W_OWDB` (R185). -/
def execMt0wOwdb (f : SendForm) (s : State) : Host.Outcome State Fault Refusal :=
  (issueMessage f owordDualWrite s).outcome

/-- `MT0W_DWS` (R185). -/
def execMt0wDws (f : SendForm) (s : State) : Host.Outcome State Fault Refusal :=
  (issueMessage f dwordScatteredWrite s).outcome

/-- `MT0W_BS` (R185). -/
def execMt0wBs (f : SendForm) (s : State) : Host.Outcome State Fault Refusal :=
  (issueMessage f byteScatteredWrite s).outcome

/-- A data port 0 message by its type in the descriptor (R185). -/
def dataPort0 : Handler := fun m s =>
  if m.bits 18 1 = 1 then scratchBlock m s
  else
    match m.bits 14 4 with
    | 0x0 => owordBlockRead .shared 16 1 m s
    | 0x1 => owordBlockRead .shared 1 4 m s
    | 0x2 => owordDualRead .shared m s
    | 0x3 => dwordScatteredRead .shared m s
    | 0x4 => byteScatteredRead m s
    | 0x7 => memoryFence m s
    | 0x8 => owordBlockWrite 16 1 m s
    | 0xA => owordDualWrite m s
    | 0xB => dwordScatteredWrite m s
    | 0xC => byteScatteredWrite m s
    | _ => refuse (.messageDescriptor "MessageType")

/-- `sfid.DataCacheDataPort` (R93): the type is in a register descriptor, or is a scratch block. -/
def execSfidDp0 (f : SendForm) (s : State) : Host.Outcome State Fault Refusal := (issueMessage f dataPort0 s).outcome

/-! ### Read-only data port -/

/-- The control dword of a media block header (R239-R241): width and height in bytes and rows, register pitch control and
sub-register offset. -/
structure BlockControl where
  mode : Nat
  w : Nat
  h : Nat
  rpc : Nat
  sro : Nat
deriving DecidableEq, Repr

/-- R232, R239, R241, R244. A Register Pitch Control of 3 is 4 blocks; its code 2 is reserved in a read and ignored in a
write. -/
def blockControl (m : Msg) : BlockControl :=
  let d := dword m.header 2
  let rpc := (d.extractLsb' 8 2).toNat
  { mode := (d.extractLsb' 30 2).toNat
    w := (d.extractLsb' 0 6).toNat + 1
    h := (d.extractLsb' 16 6).toNat + 1
    rpc := if rpc = 3 then 4 else rpc + 1
    sro := (d.extractLsb' 24 5).toNat }

/-- The surface of a message that takes only a surface index (R214), for an access of a kind. -/
def surfaceTarget (s : State) (m : Msg) (k : SurfaceUse) : Exec Surface := do
  match ← resolveTarget s m k .surface with
  | .surface u => return u
  | _ => refuse (.messageDescriptor "BindingTableIndex")

/-- A media block read (R239, R240): normal, or merged when a register pitch or sub-register offset is given. -/
def mediaBlockRead (merged : Bool) : Handler := fun m s => do
  m.headerRequired
  let u ← surfaceTarget s m .media
  let c := blockControl m
  require (decide (c.rpc ≠ 3)) (.messagePayload "RegisterPitchControl")
  require (c.mode == 0 || !merged) (.messagePayload "MessageMode")
  require (decide (c.w ≤ 32) && decide ((c.w + 3) / 4 * c.h ≤ 64)) (.messagePayload "BlockSize")
  let pitch := basePitch c.w
  require (merged || (c.rpc == 1 && c.sro == 0)) (.messagePayload "SubRegisterOffset")
  require (decide (c.sro % pitch = 0) && decide (c.sro = 0 ∨ c.rpc * pitch + c.sro ≤ 32)) (.messagePayload "SubRegisterOffset")
  require (decide (c.rpc = 1 ∨ c.w % 4 = 0) && decide (c.rpc = 1 ∨ c.rpc * pitch ≤ 32)) (.messagePayload "RegisterPitchControl")
  require (decide (c.rpc ≠ 1) || decide (c.sro % (pitch * c.h) = 0)) (.messagePayload "SubRegisterOffset")
  mediaRead s m u (m.bits 8 3) c.w c.h c.rpc c.sro (dword m.header 0).toInt (dword m.header 1).toInt

/-- A field of a surface shifted by a LOD (R297). -/
def sizeAt (field lod : Nat) : DWord := BitVec.ofNat 32 ((field + 1) / 2 ^ lod)

/-- The second response register of Read Surface Info (R297). -/
def surfaceInfo (u : Surface) (lod : Nat) : List (Nat × Piece) :=
  let isNull := u.ty == surfNull
  let width : DWord := if isNull then 0 else sizeAt u.width lod
  let height : DWord :=
    if u.ty = surf1D then (if u.array then BitVec.ofNat 32 (u.depth + 1) else 0)
    else if u.ty = surfBuffer || isNull then 0 else sizeAt u.height lod
  let depth : DWord :=
    if u.ty = surf3D then sizeAt u.depth lod
    else if u.array && (u.ty == surf2D || u.ty == surfCube) then BitVec.ofNat 32 (u.depth + 1) else 0
  let dws : List DWord := [width, height, depth, BitVec.ofNat 32 u.mip, BitVec.ofNat 32 u.ty, (u.format.extractLsb' 0 9).setWidth 32]
  (List.range 6).map fun k => (1, (32 * k, 32, (dws.getD k 0#32).toNat))

/-- A 48-bit address in canonical 64-bit form (R20, R297). -/
def canonicalForm (a : BitVec 48) : QWord := a.signExtend 64

/-- Read Surface Info (R205, R296, R297). -/
def readSurfaceInfo : Handler := fun m s => do
  m.need 1
  let u ← surfaceTarget s m .info
  let lod := ((dword (m.reg 0) 3).extractLsb' 0 4).toNat
  require (decide (lod ≠ 15)) (.messagePayload "LOD")
  return (s, responseFrom s 2 ((0, (192, 64, (canonicalForm s.ctx.instructionBase).toNat)) :: surfaceInfo u lod))

/-- `MT_CC_OWB` (R205). -/
def execMtCcOwb (f : SendForm) (s : State) : Host.Outcome State Fault Refusal :=
  (issueMessage f (owordBlockRead .stateless 16 1) s).outcome

/-- `MT_CC_OWUB` (R205). -/
def execMtCcOwub (f : SendForm) (s : State) : Host.Outcome State Fault Refusal :=
  (issueMessage f (owordBlockRead .stateless 1 4) s).outcome

/-- `MT_CC_OWDB` (R205). -/
def execMtCcOwdb (f : SendForm) (s : State) : Host.Outcome State Fault Refusal :=
  (issueMessage f (owordDualRead .stateless) s).outcome

/-- `MT_CC_DWS` (R205). -/
def execMtCcDws (f : SendForm) (s : State) : Host.Outcome State Fault Refusal :=
  (issueMessage f (dwordScatteredRead .stateless) s).outcome

/-- `MT_SC_OWUB` (R205). -/
def execMtScOwub (f : SendForm) (s : State) : Host.Outcome State Fault Refusal :=
  (issueMessage f (owordBlockRead .stateless 1 4) s).outcome

/-- `MT_SC_MB` (R205, R241: the message mode is ignored). -/
def execMtScMb (f : SendForm) (s : State) : Host.Outcome State Fault Refusal :=
  (issueMessage f (mediaBlockRead false) s).outcome

/-- `MT_RSI` (R205). -/
def execMtRsi (f : SendForm) (s : State) : Host.Outcome State Fault Refusal :=
  (issueMessage f readSurfaceInfo s).outcome

/-- A read-only data port message by its type in the descriptor (R205). -/
def readOnlyPort : Handler := fun m s =>
  match m.bits 14 4 with
  | 0x0 => owordBlockRead .stateless 16 1 m s
  | 0x1 => owordBlockRead .stateless 1 4 m s
  | 0x2 => owordDualRead .stateless m s
  | 0x3 => dwordScatteredRead .stateless m s
  | 0x4 => owordBlockRead .stateless 1 4 m s
  | 0x5 => mediaBlockRead false m s
  | 0x6 => readSurfaceInfo m s
  | _ => refuse (.messageDescriptor "MessageType")

/-- `sfid.DataCacheReadOnlyDataPort` (R93): the type is in a register descriptor. -/
def execSfidReadOnly (f : SendForm) (s : State) : Host.Outcome State Fault Refusal :=
  (issueMessage f readOnlyPort s).outcome

end Sys2Proof.Machine
end

