-- ==== Sys2Proof/Machine/DataPort1.lean ====
section
/-! DEFINITION. The messages of data port 1 (R186): untyped and typed surfaces, atomics, media and transpose blocks, A64. -/

namespace Sys2Proof.Machine

/-- Untyped surface read (R183, R209, R300-R314). -/
def untypedRead : Handler := fun m s => do
  let mode ← simd3 (m.bits 12 2)
  let (sp, u) ← untypedSpace s m
  m.need (untypedAddressRegs mode u)
  let active := untypedActive m mode
  let off := untypedOffset m mode u
  alignedAll active off 4
  channelRead s mode (m.bits 8 4) active (offsetLocator sp off)

/-- Untyped surface write (R222). -/
def untypedWrite : Handler := fun m s => do
  let mode ← simd3 (m.bits 12 2)
  let (sp, u) ← untypedSpace s m
  let active := untypedActive m mode
  let off := untypedOffset m mode u
  alignedAll active off 4
  channelWrite s m mode (m.bits 8 4) (untypedAddressRegs mode u) active off (offsetLocator sp off)

/-- Untyped atomic (R177-R182, R262-R267, R286-R294): `CMPWR_2W` on 8 bytes. -/
def untypedAtomic (o : Msg → Atomic) (mode : Msg → Simd) : Handler := fun m s => do
  let (sp, u) ← untypedSpace s m
  let active := untypedActive m (mode m)
  let off := untypedOffset m (mode m) u
  let l := if o m = .int 0 then AtomLayout.split else AtomLayout.dword
  alignedAll active off l.bytes
  atomicMessage s m (o m) l (mode m) (untypedAddressRegs (mode m) u) (m.bits 13 1 = 1) active off (offsetLocator sp off)

/-- The integer operation of a descriptor (R180-R182). -/
def intOp (m : Msg) : Atomic := .int (m.bits 8 4)

/-- The float operation of a descriptor (R177, R179). -/
def floatOp (m : Msg) : Atomic := .float (m.bits 8 2)

/-- The mode of a SIMD8 or SIMD16 atomic (R207). -/
def reversedMode (m : Msg) : Simd := simd2R (m.bits 12 1)

/-- SIMD4x2. -/
def fourByTwo (_ : Msg) : Simd := .s4x2

/-- A typed message's mode and slot group (R211). -/
def slotGroup3 (m : Msg) : Exec (Simd × Nat) :=
  match m.bits 12 2 with
  | 0 => .ok (.s4x2, 0)
  | 1 => .ok (.s8, 0)
  | 2 => .ok (.s8, 1)
  | _ => refuse (.messageDescriptor "SlotGroup")

/-- Active slots of a typed message (R210, R211, R245). -/
def typedActive (m : Msg) (mode : Simd) (group : Nat) : List Nat :=
  activeSlots mode.slots (slotActive m mode m.pixelMask (if m.hasHeader then group else 0))

/-- Typed surface read. -/
def typedReadMessage : Handler := fun m s => do
  let (mode, group) ← slotGroup3 m
  let u ← surfaceTarget s m .typed
  typedRead s m u mode (m.bits 8 4) (typedActive m mode group)

/-- Typed surface write. -/
def typedWriteMessage : Handler := fun m s => do
  let (mode, group) ← slotGroup3 m
  let u ← surfaceTarget s m .typed
  typedWrite s m u mode (m.bits 8 4) (typedActive m mode group)

/-- Typed atomic (R210); `counter` for the atomic counter messages. -/
def typedAtomicMessage (mode : Simd) (counter : Bool) : Handler := fun m s => do
  let u ← surfaceTarget s m .typed
  let active := typedActive m mode (if mode = .s4x2 then 0 else m.bits 12 1)
  if counter then counterAtomic s m u (m.bits 8 4) mode (m.bits 13 1 = 1) active
  else
    m.need (typedRegs u mode)
    typedAtomic s m u (m.bits 8 4) mode (m.bits 13 1 = 1) active

/-- A media block write (R231, R232, R240, R241, R243, R244): plain, byte masked or pixel masked. -/
def mediaBlockWrite : Handler := fun m s => do
  m.headerRequired
  let u ← surfaceTarget s m .media
  let c := blockControl m
  let x := (dword m.header 0).toInt
  let y := (dword m.header 1).toInt
  let mask := dword m.header 3
  match c.mode with
  | 0 =>
    require (decide (x % 4 = 0) && decide (c.w % 4 = 0)) .messageAddress
    require (decide (c.w / 4 * c.h ≤ 64)) (.messagePayload "BlockSize")
    mediaStore s m u (m.bits 8 3) c.w c.h x y fun _ _ => true
  | 1 =>
    require (decide (x % 32 = 0) && decide (y % 4 = 0)) .messageAddress
    require (c.sro == 0 && c.rpc == 1) (.messagePayload "SubRegisterOffset")
    mediaStore s m u (m.bits 8 3) 32 4 x y fun r b => mask.getLsbD (pixelMaskBit (b / 4) r)
  | 2 =>
    require (decide (x % 4 = 0) && decide (c.w % 4 = 0)) .messageAddress
    require (decide (c.w ≤ 32) && decide (c.w / 4 * c.h ≤ 64)) (.messagePayload "BlockSize")
    mediaStore s m u (m.bits 8 3) c.w c.h x y fun _ b => mask.getLsbD b
  | _ => refuse (.messagePayload "MessageMode")

/-- A transpose read (R229, R260): register `c` of the response holds column `c`, DWord `r` its row `r` (log 22). That
it has the line stride override (R223), in descriptor bits 10:8, is PRESUMED (log 23). -/
def transposeRead : Handler := fun m s => do
  m.headerRequired
  let u ← surfaceTarget s m .media
  let d := dword m.header 2
  let h : Nat := 2 ^ (d.extractLsb' 20 2).toNat
  let w : Nat := 2 ^ (d.extractLsb' 0 2).toNat
  let x := (dword m.header 0).toInt
  let y := (dword m.header 1).toInt
  require (decide (x % (4 * w) = 0) && decide (y % h = 0)) .messageAddress
  let cells := (List.range w).flatMap fun c => (List.range h).flatMap fun r => (List.range 4).map fun b => (c, r, b)
  let vals ← sequence (cells.map fun e => do
    let v ← mediaByte s u (m.bits 8 3) (x + 4 * e.1 + e.2.2) (y + e.2.1)
    return (e.1, (32 * e.2.1 + 8 * e.2.2, 8, v)))
  return (s, responseFrom s w vals)

/-! ### A64 -/

/-- Element size of an A64 scattered message (R170). The codes 0 byte, 1 DWord, 2 QWord are PRESUMED (log 23). -/
def elementSize (c : Nat) : Exec ElementSize :=
  match c with
  | 0 => .ok .byte
  | 1 => .ok .dword
  | 2 => .ok .qword
  | _ => refuse (.messageDescriptor "ElementSize")

/-- What every A64 message of this port has (R186, R213): no header, a stateless index. -/
def a64Index (m : Msg) : Exec Bool := do
  m.headerForbidden
  statelessIndex m

/-- A64 scattered read (R170, R316, R318); `MDC_SM2` as in the other scattered messages (PRESUMED, log 23). -/
def a64ScatteredRead : Handler := fun m s => do
  let nc ← a64Index m
  let z ← elementSize (m.bits 8 2)
  let mode := simd2 (m.bits 12 1)
  m.need mode.qregs
  elementRead s z mode (2 ^ m.bits 10 2) (plainActive m mode) (a64Locator nc fun i => (m.qw mode 0 i).toNat)

/-- A64 scattered write. -/
def a64ScatteredWrite : Handler := fun m s => do
  let nc ← a64Index m
  let z ← elementSize (m.bits 8 2)
  let mode := simd2 (m.bits 12 1)
  let addr (i : Nat) : Nat := (m.qw mode 0 i).toNat
  elementWrite s m z mode (2 ^ m.bits 10 2) mode.qregs (plainActive m mode) addr (a64Locator nc addr)

/-- A64 untyped read (R301, R310, R313). -/
def a64UntypedRead : Handler := fun m s => do
  let nc ← a64Index m
  let mode ← simd3 (m.bits 12 2)
  m.need mode.qregs
  let addr (i : Nat) : Nat := (m.qw mode 0 i).toNat
  alignedAll (plainActive m mode) addr 4
  channelRead s mode (m.bits 8 4) (plainActive m mode) (a64Locator nc addr)

/-- A64 untyped write. -/
def a64UntypedWrite : Handler := fun m s => do
  let nc ← a64Index m
  let mode ← simd3 (m.bits 12 2)
  let addr (i : Nat) : Nat := (m.qw mode 0 i).toNat
  alignedAll (plainActive m mode) addr 4
  channelWrite s m mode (m.bits 8 4) mode.qregs (plainActive m mode) addr (a64Locator nc addr)

/-- Layout of an A64 atomic (R282-R292): 32 or 64 bits, doubled for `CMPWR_2W`. -/
def a64Layout (wide : Bool) (o : Atomic) : AtomLayout :=
  if o = .int 0 then (if wide then .oword else .split) else if wide then .contiguous else .dword

/-- A64 atomic, SIMD8 or SIMD4x2; `wide` says that the data are 64 bits. -/
def a64Atomic (o : Msg → Atomic) (mode : Simd) (wide : Msg → Bool) : Handler := fun m s => do
  let nc ← a64Index m
  let l := a64Layout (wide m) (o m)
  let addr (i : Nat) : Nat := (m.qw mode 0 i).toNat
  let active := plainActive m mode
  alignedAll active addr l.bytes
  atomicMessage s m (o m) l mode mode.qregs (m.bits 13 1 = 1) active addr (a64Locator nc addr)

/-- 64-bit data (descriptor bit 12). -/
def wideData (m : Msg) : Bool := m.bits 12 1 = 1

/-- 32-bit data. -/
def narrowData (_ : Msg) : Bool := false

/-- OWords of each block of an A64 dual block (R173). -/
def a64DualCount (c : Nat) : Exec Nat :=
  match c with
  | 1 => .ok 1
  | 3 => .ok 4
  | _ => refuse (.messageDescriptor "DataBlocks")

/-- HWords of an A64 block (R171). -/
def a64HwordCount (c : Nat) : Exec Nat :=
  match c with
  | 1 => .ok 1
  | 2 => .ok 2
  | 3 => .ok 4
  | 4 => .ok 8
  | _ => refuse (.messageDescriptor "DataBlocks")

/-- The block offsets' register of an A64 block message (R225-R227): the first payload register. -/
def Msg.first (m : Msg) : HWord := m.payload.headD 0#256

/-- An A64 block of OWords: out of bounds as a whole unless its offset is canonical (R226, R227). -/
def a64Block (nc : Bool) (a n : Nat) : Space := a64Space nc a n

/-- The rest of the payload of an A64 block message. -/
def Msg.afterFirst (m : Msg) : Msg := { m with payload := m.payload.drop 1, desc := m.desc &&& 0x7FF7FFFF#31 }

/-- A64 block read (R171-R173, R225-R227, R236). The subtype in descriptor bits 12:11 and its codes, 0 OWord, 1 unaligned
OWord, 2 dual OWord, 3 HWord, are PRESUMED (log 23). -/
def a64BlockRead : Handler := fun m s => do
  let nc ← a64Index m
  let c := m.bits 8 3
  let a := (qword m.first 0).toNat
  match m.bits 11 2 with
  | 0 => do
    aligned a 16
    let (n, half) ← owordCount c
    blockRead s n half (a64Block nc a (16 * n)) 0
  | 1 => do
    aligned a 4
    let (n, half) ← owordCount c
    blockRead s n half (a64Block nc a (16 * n)) 0
  | 2 => do
    let n ← a64DualCount c
    let addr (i : Nat) : Nat := (qword m.first i).toNat
    alignedAll (plainActive m .s4x2) addr 16
    dualRead s n (plainActive m .s4x2) fun i => (a64Space nc (addr i) (16 * n), 0)
  | _ => do
    aligned a 32
    let n ← a64HwordCount c
    hwordRead s m n ((dword m.first 5).getLsbD 31) (a64Block nc a (32 * n)) 0

/-- A64 block write. -/
def a64BlockWrite : Handler := fun m s => do
  let nc ← a64Index m
  let c := m.bits 8 3
  let a := (qword m.first 0).toNat
  let d := m.afterFirst
  match m.bits 11 2 with
  | 0 => do
    aligned a 16
    let (n, half) ← owordCount c
    blockWrite s d n half (a64Block nc a (16 * n)) 0
  | 1 => do
    aligned a 4
    let (n, half) ← owordCount c
    blockWrite s d n half (a64Block nc a (16 * n)) 0
  | 2 => do
    let n ← a64DualCount c
    let addr (i : Nat) : Nat := (qword m.first i).toNat
    alignedAll (plainActive m .s4x2) addr 16
    dualWrite s d n 0 (plainActive m .s4x2) addr fun i => (a64Space nc (addr i) (16 * n), 0)
  | _ => do
    aligned a 32
    let n ← a64HwordCount c
    hwordWrite s d n ((dword m.first 5).getLsbD 31) (a64Block nc a (32 * n)) 0

/-- `MT1R_T` (R186). -/
def execMt1rT (f : SendForm) (s : State) : Host.Outcome State Fault Refusal :=
  (issueMessage f transposeRead s).outcome

/-- `MT1R_US` (R186). -/
def execMt1rUs (f : SendForm) (s : State) : Host.Outcome State Fault Refusal :=
  (issueMessage f untypedRead s).outcome

/-- `MT1A_UI` (R186). -/
def execMt1aUi (f : SendForm) (s : State) : Host.Outcome State Fault Refusal :=
  (issueMessage f (untypedAtomic intOp reversedMode) s).outcome

/-- `MT1A_UI4x2` (R186). -/
def execMt1aUi4x2 (f : SendForm) (s : State) : Host.Outcome State Fault Refusal :=
  (issueMessage f (untypedAtomic intOp fourByTwo) s).outcome

/-- `MT1R_MB` (R186). -/
def execMt1rMb (f : SendForm) (s : State) : Host.Outcome State Fault Refusal :=
  (issueMessage f (mediaBlockRead true) s).outcome

/-- `MT1R_TS` (R186). -/
def execMt1rTs (f : SendForm) (s : State) : Host.Outcome State Fault Refusal :=
  (issueMessage f typedReadMessage s).outcome

/-- `MT1A_TA` (R186). -/
def execMt1aTa (f : SendForm) (s : State) : Host.Outcome State Fault Refusal :=
  (issueMessage f (typedAtomicMessage .s8 false) s).outcome

/-- `MT1A_TA4x2` (R186). -/
def execMt1aTa4x2 (f : SendForm) (s : State) : Host.Outcome State Fault Refusal :=
  (issueMessage f (typedAtomicMessage .s4x2 false) s).outcome

/-- `MT1W_US` (R186). -/
def execMt1wUs (f : SendForm) (s : State) : Host.Outcome State Fault Refusal :=
  (issueMessage f untypedWrite s).outcome

/-- `MT1W_MB` (R186). -/
def execMt1wMb (f : SendForm) (s : State) : Host.Outcome State Fault Refusal :=
  (issueMessage f mediaBlockWrite s).outcome

/-- `MT1A_TC` (R186). -/
def execMt1aTc (f : SendForm) (s : State) : Host.Outcome State Fault Refusal :=
  (issueMessage f (typedAtomicMessage .s8 true) s).outcome

/-- `MT1A_TC4x2` (R186). -/
def execMt1aTc4x2 (f : SendForm) (s : State) : Host.Outcome State Fault Refusal :=
  (issueMessage f (typedAtomicMessage .s4x2 true) s).outcome

/-- `MT1W_TS` (R186). -/
def execMt1wTs (f : SendForm) (s : State) : Host.Outcome State Fault Refusal :=
  (issueMessage f typedWriteMessage s).outcome

/-- `MT1R_A64_SB` (R186). -/
def execMt1rA64Sb (f : SendForm) (s : State) : Host.Outcome State Fault Refusal :=
  (issueMessage f a64ScatteredRead s).outcome

/-- `MT1R_A64_US` (R186). -/
def execMt1rA64Us (f : SendForm) (s : State) : Host.Outcome State Fault Refusal :=
  (issueMessage f a64UntypedRead s).outcome

/-- `MT1A_A64_UI` (R186). -/
def execMt1aA64Ui (f : SendForm) (s : State) : Host.Outcome State Fault Refusal :=
  (issueMessage f (a64Atomic intOp .s8 wideData) s).outcome

/-- `MT1A_A64_UI4x2` (R186). -/
def execMt1aA64Ui4x2 (f : SendForm) (s : State) : Host.Outcome State Fault Refusal :=
  (issueMessage f (a64Atomic intOp .s4x2 wideData) s).outcome

/-- `MT1R_A64_B` (R186). -/
def execMt1rA64B (f : SendForm) (s : State) : Host.Outcome State Fault Refusal :=
  (issueMessage f a64BlockRead s).outcome

/-- `MT1W_A64_B` (R186). -/
def execMt1wA64B (f : SendForm) (s : State) : Host.Outcome State Fault Refusal :=
  (issueMessage f a64BlockWrite s).outcome

/-- `MT1W_A64_US` (R186). -/
def execMt1wA64Us (f : SendForm) (s : State) : Host.Outcome State Fault Refusal :=
  (issueMessage f a64UntypedWrite s).outcome

/-- `MT1W_A64_SB` (R186). -/
def execMt1wA64Sb (f : SendForm) (s : State) : Host.Outcome State Fault Refusal :=
  (issueMessage f a64ScatteredWrite s).outcome

/-- `MT1A_UF` (R186). -/
def execMt1aUf (f : SendForm) (s : State) : Host.Outcome State Fault Refusal :=
  (issueMessage f (untypedAtomic floatOp reversedMode) s).outcome

/-- `MT1A_UF4x2` (R186). -/
def execMt1aUf4x2 (f : SendForm) (s : State) : Host.Outcome State Fault Refusal :=
  (issueMessage f (untypedAtomic floatOp fourByTwo) s).outcome

/-- `MT1A_A64_UF` (R186). -/
def execMt1aA64Uf (f : SendForm) (s : State) : Host.Outcome State Fault Refusal :=
  (issueMessage f (a64Atomic floatOp .s8 narrowData) s).outcome

/-- `MT1A_A64_UF4x2` (R186). -/
def execMt1aA64Uf4x2 (f : SendForm) (s : State) : Host.Outcome State Fault Refusal :=
  (issueMessage f (a64Atomic floatOp .s4x2 narrowData) s).outcome

/-- A data port 1 message by its type in the descriptor (R186). -/
def dataPort1 : Handler := fun m s =>
  match m.bits 14 5 with
  | 0x00 => transposeRead m s
  | 0x01 => untypedRead m s
  | 0x02 => untypedAtomic intOp reversedMode m s
  | 0x03 => untypedAtomic intOp fourByTwo m s
  | 0x04 => mediaBlockRead true m s
  | 0x05 => typedReadMessage m s
  | 0x06 => typedAtomicMessage .s8 false m s
  | 0x07 => typedAtomicMessage .s4x2 false m s
  | 0x09 => untypedWrite m s
  | 0x0A => mediaBlockWrite m s
  | 0x0B => typedAtomicMessage .s8 true m s
  | 0x0C => typedAtomicMessage .s4x2 true m s
  | 0x0D => typedWriteMessage m s
  | 0x10 => a64ScatteredRead m s
  | 0x11 => a64UntypedRead m s
  | 0x12 => a64Atomic intOp .s8 wideData m s
  | 0x13 => a64Atomic intOp .s4x2 wideData m s
  | 0x14 => a64BlockRead m s
  | 0x15 => a64BlockWrite m s
  | 0x19 => a64UntypedWrite m s
  | 0x1A => a64ScatteredWrite m s
  | 0x1B => untypedAtomic floatOp reversedMode m s
  | 0x1C => untypedAtomic floatOp fourByTwo m s
  | 0x1D => a64Atomic floatOp .s8 narrowData m s
  | 0x1E => a64Atomic floatOp .s4x2 narrowData m s
  | _ => refuse (.messageDescriptor "MessageType")

/-- `sfid.DataCacheDataPort_1` (R93): the type is in a register descriptor. -/
def execSfidDp1 (f : SendForm) (s : State) : Host.Outcome State Fault Refusal := (issueMessage f dataPort1 s).outcome

end Sys2Proof.Machine
end

