-- ==== Sys2Proof/Machine/DataPort2.lean ====
section
/-! DEFINITION. The messages of data port 2 (R187): scaled accesses to stateless and shared local memory. -/

namespace Sys2Proof.Machine

/-- Scaled untyped read: items are DWords (R255, R259). -/
def scaledUntypedRead : Handler := fun m s => do
  let mode ← simd3 (m.bits 12 2)
  m.need mode.regs
  let (sp, off) ← scaledA32 s m mode 4
  let active := untypedActive m mode
  alignedAll active off 4
  channelRead s mode (m.bits 8 4) active (offsetLocator sp off)

/-- Scaled untyped write. -/
def scaledUntypedWrite : Handler := fun m s => do
  let mode ← simd3 (m.bits 12 2)
  m.need mode.regs
  let (sp, off) ← scaledA32 s m mode 4
  let active := untypedActive m mode
  alignedAll active off 4
  channelWrite s m mode (m.bits 8 4) mode.regs active off (offsetLocator sp off)

/-- Scaled byte scattered read: items are bytes; `MDC_SM2` as in the other scattered messages (PRESUMED, log 23). -/
def scaledByteRead : Handler := fun m s => do
  let n ← dataSize (m.bits 10 2)
  let mode := simd2 (m.bits 12 1)
  m.need mode.regs
  let (sp, off) ← scaledA32 s m mode 1
  scatteredRead s mode n (plainActive m mode) (offsetLocator sp off)

/-- Scaled byte scattered write. -/
def scaledByteWrite : Handler := fun m s => do
  let n ← dataSize (m.bits 10 2)
  let mode := simd2 (m.bits 12 1)
  m.need mode.regs
  let (sp, off) ← scaledA32 s m mode 1
  scatteredWrite s m mode n mode.regs (plainActive m mode) off (offsetLocator sp off)

/-- Scaled A64 untyped read. -/
def scaledA64UntypedRead : Handler := fun m s => do
  let mode ← simd3 (m.bits 12 2)
  let (addr, k) ← scaledA64 m mode 4
  m.need k
  alignedAll (plainActive m mode) addr 4
  channelRead s mode (m.bits 8 4) (plainActive m mode) (a64Locator false addr)

/-- Scaled A64 untyped write. -/
def scaledA64UntypedWrite : Handler := fun m s => do
  let mode ← simd3 (m.bits 12 2)
  let (addr, k) ← scaledA64 m mode 4
  alignedAll (plainActive m mode) addr 4
  channelWrite s m mode (m.bits 8 4) k (plainActive m mode) addr (a64Locator false addr)

/-- Scaled A64 scattered read. -/
def scaledA64ScatteredRead : Handler := fun m s => do
  let z ← elementSize (m.bits 8 2)
  let mode := simd2 (m.bits 12 1)
  let (addr, k) ← scaledA64 m mode z.bytes
  m.need k
  elementRead s z mode (2 ^ m.bits 10 2) (plainActive m mode) (a64Locator false addr)

/-- Scaled A64 scattered write. -/
def scaledA64ScatteredWrite : Handler := fun m s => do
  let z ← elementSize (m.bits 8 2)
  let mode := simd2 (m.bits 12 1)
  let (addr, k) ← scaledA64 m mode z.bytes
  elementWrite s m z mode (2 ^ m.bits 10 2) k (plainActive m mode) addr (a64Locator false addr)

/-- `MT2R_US` (R187). -/
def execMt2rUs (f : SendForm) (s : State) : Host.Outcome State Fault Refusal :=
  (issueMessage f scaledUntypedRead s).outcome

/-- `MT2R_A64_SB` (R187). -/
def execMt2rA64Sb (f : SendForm) (s : State) : Host.Outcome State Fault Refusal :=
  (issueMessage f scaledA64ScatteredRead s).outcome

/-- `MT2R_A64_US` (R187). -/
def execMt2rA64Us (f : SendForm) (s : State) : Host.Outcome State Fault Refusal :=
  (issueMessage f scaledA64UntypedRead s).outcome

/-- `MT2R_BS` (R187). -/
def execMt2rBs (f : SendForm) (s : State) : Host.Outcome State Fault Refusal :=
  (issueMessage f scaledByteRead s).outcome

/-- `MT2W_US` (R187). -/
def execMt2wUs (f : SendForm) (s : State) : Host.Outcome State Fault Refusal :=
  (issueMessage f scaledUntypedWrite s).outcome

/-- `MT2W_A64_US` (R187). -/
def execMt2wA64Us (f : SendForm) (s : State) : Host.Outcome State Fault Refusal :=
  (issueMessage f scaledA64UntypedWrite s).outcome

/-- `MT2W_A64_SB` (R187). -/
def execMt2wA64Sb (f : SendForm) (s : State) : Host.Outcome State Fault Refusal :=
  (issueMessage f scaledA64ScatteredWrite s).outcome

/-- `MT2W_BS` (R187). -/
def execMt2wBs (f : SendForm) (s : State) : Host.Outcome State Fault Refusal :=
  (issueMessage f scaledByteWrite s).outcome

/-- A data port 2 message by its type in the descriptor (R187). -/
def dataPort2 : Handler := fun m s =>
  match m.bits 15 4 with
  | 0x1 => scaledUntypedRead m s
  | 0x2 => scaledA64ScatteredRead m s
  | 0x3 => scaledA64UntypedRead m s
  | 0x4 => scaledByteRead m s
  | 0x9 => scaledUntypedWrite m s
  | 0xA => scaledA64UntypedWrite m s
  | 0xB => scaledA64ScatteredWrite m s
  | 0xC => scaledByteWrite m s
  | _ => refuse (.messageDescriptor "MessageType")

/-- `sfid.DataCacheDataPort2` (R93): the type is in a register descriptor. -/
def execSfidDp2 (f : SendForm) (s : State) : Host.Outcome State Fault Refusal := (issueMessage f dataPort2 s).outcome

end Sys2Proof.Machine
end

