-- ==== Sys2Proof/Machine/MathUnit.lean ====
section
/-! DEFINITION. `math` (R89, R90, R139): `MATH_FUNCS` is uninterpreted, so only which registers are written is fixed. -/

namespace Sys2Proof.Machine

/-- The types of a `math`. -/
def mathTypes (o : MathOp) : List RType := [o.dst.ty, o.src0.ty, o.src1.ty]

/-- One channel of a `math` from the function of the operands' bits; the result is of source 0's type. -/
def mathLane (s : State) (o : MathOp) (two : Bool) (fn : QWord → QWord → QWord) (c : Nat) : Exec Lane := do
  let x ← sourceValue s (.reg o.src0) drawSrc0 c
  let y ← if two then sourceValue s (.reg o.src1) drawSrc1 c else pure (Val.int 0)
  let r := fn (accBits x).bits (accBits y).bits
  return finishLane s o.ctl .none o.dst.ty c (valueOf o.src0.ty r)

/-- A source names the null register (R5). -/
def isNull (o : SrcOp) : Bool :=
  match o.file, o.loc with
  | .arf, .direct reg _ => reg.extractLsb' 4 4 == 0#4
  | _, _ => false

/-- What every `math` checks: the mode; source 1 is no architecture register (R5), but for the null register where it is
ignored (R139); `Saturate` is for float functions (R139). `MATH_FUNCS` is open, so no operand type is shut out. R139 does not
list the one-operand functions: `INVM` and `RSQRTM` are taken to be two of them, as `INV` and `RSQ` are, and ignore source 1
(DESIGN CHOICE, log 19). -/
def mathChecks (s : State) (o : MathOp) (ints two : Bool) : Exec Unit := do
  checkFloatMode s.eu (mathTypes o)
  require (o.src1.file == .grf || (!two && isNull o.src1)) .archRegister
  require (!ints || !o.ctl.sat) .control

/-- A `math` with one result (R139). -/
def mathWith (s : State) (o : MathOp) (fc : BitVec 4) (ints two : Bool)
    (fn : BitVec 4 → BitVec 4 → QWord → QWord → QWord) : Exec State := do
  mathChecks s o ints two
  channelwise s o.ctl (.op o.dst) (plainUsage .none (mathTypes o)) (mathLane s o two (fn fc o.src0.ty.code))

/-- The place of an element of `size` bytes moved on by some registers (R4: it ends inside r127). -/
def Place.shift (p : Place) (n size : Nat) : Exec Place :=
  match p with
  | .grf a => do
    require (decide (a + 32 * n + size ≤ grfBytes)) .outsideGrf
    return .grf (a + 32 * n)
  | .null => .ok .null
  | .arch _ _ | .acc _ => refuse .archRegister

/-- Registers a destination region spans: the remainder goes to the registers after it (R139; log 19). -/
def regsSpanned (o : MathOp) : Nat := (o.ctl.exec.channels * DstOp.stride o.dst * o.dst.ty.size + 31) / 32

/-- An architecture register `n` registers after another of its type (R5). -/
def nextArch (reg : BitVec 8) (n : Nat) : Exec (BitVec 8) := do
  require (decide ((reg.extractLsb' 0 4).toNat + n < 16)) .archRegister
  return reg + BitVec.ofNat 8 n

/-- The place of channel `c` of the remainder of INT DIV (R139): in the registers after the quotient's, of the general or of the
architecture file (after `acc0` comes `acc1`; a register that does not exist is refused); the null register has no next one
(DESIGN CHOICE, log 19). -/
def remainderPlace (t : Thread) (o : MathOp) (c : Nat) : Exec Place := do
  match ← dstPlace t (.op o.dst) c, o.dst.loc with
  | .arch _ _, .direct reg sub | .acc _, .direct reg sub =>
    dstPlace t (.op { o.dst with loc := .direct (← nextArch reg (regsSpanned o)) sub }) c
  | p, _ => p.shift (regsSpanned o) o.dst.ty.size

/-- `math` INT DIV Quotient and remainder (R139): the quotient as `mathWith`, the remainder in the next register. -/
def mathPair (s : State) (o : MathOp) (fc : BitVec 4) : Exec State := do
  let s1 ← mathWith s o fc true true Config.mathFn
  let n := o.ctl.exec.channels
  let u := plainUsage .none (mathTypes o)
  let off ← channelOffset o.ctl u.usesDf
  let lanes ← sequence ((List.range n).map (mathLane s o true (Config.mathRem fc o.src0.ty.code)))
  let places ← sequence ((List.range n).map (remainderPlace s.eu o))
  let outs := ((List.range n).map (laneEnabled s.eu o.ctl u (.op o.dst) off)).zip (places.zip lanes)
  let t ← storeLanes (.op o.dst) s1.eu outs
  return { s1 with eu := t }

/-- `math.INV` (R90, R139). -/
def execMathInv (o : MathOp) (s : State) : Host.Outcome State Fault Refusal :=
  (mathWith s o 0x1#4 false false Config.mathFn).outcome

/-- `math.LOG` (R90, R139). -/
def execMathLog (o : MathOp) (s : State) : Host.Outcome State Fault Refusal :=
  (mathWith s o 0x2#4 false false Config.mathFn).outcome

/-- `math.EXP` (R90, R139). -/
def execMathExp (o : MathOp) (s : State) : Host.Outcome State Fault Refusal :=
  (mathWith s o 0x3#4 false false Config.mathFn).outcome

/-- `math.SQRT` (R90, R139). -/
def execMathSqrt (o : MathOp) (s : State) : Host.Outcome State Fault Refusal :=
  (mathWith s o 0x4#4 false false Config.mathFn).outcome

/-- `math.RSQ` (R90, R139). -/
def execMathRsq (o : MathOp) (s : State) : Host.Outcome State Fault Refusal :=
  (mathWith s o 0x5#4 false false Config.mathFn).outcome

/-- `math.SIN` (R90, R139). -/
def execMathSin (o : MathOp) (s : State) : Host.Outcome State Fault Refusal :=
  (mathWith s o 0x6#4 false false Config.mathFn).outcome

/-- `math.COS` (R90, R139). -/
def execMathCos (o : MathOp) (s : State) : Host.Outcome State Fault Refusal :=
  (mathWith s o 0x7#4 false false Config.mathFn).outcome

/-- `math.FDIV` (R90, R139). -/
def execMathFdiv (o : MathOp) (s : State) : Host.Outcome State Fault Refusal :=
  (mathWith s o 0x9#4 false true Config.mathFn).outcome

/-- `math.POW` (R90, R139). -/
def execMathPow (o : MathOp) (s : State) : Host.Outcome State Fault Refusal :=
  (mathWith s o 0xA#4 false true Config.mathFn).outcome

/-- `math.INT_DIV_Quotient_and_remainder` (R90, R139). -/
def execMathIntDivQr (o : MathOp) (s : State) : Host.Outcome State Fault Refusal :=
  (mathPair s o 0xB#4).outcome

/-- `math.INT_DIV_Quotient_only` (R90, R139). -/
def execMathIntDivQ (o : MathOp) (s : State) : Host.Outcome State Fault Refusal :=
  (mathWith s o 0xC#4 true true Config.mathFn).outcome

/-- `math.INT_DIV_Remainder_only` (R90, R139). -/
def execMathIntDivR (o : MathOp) (s : State) : Host.Outcome State Fault Refusal :=
  (mathWith s o 0xD#4 true true Config.mathFn).outcome

/-- `math.INVM` (R90, R139). -/
def execMathInvm (o : MathOp) (s : State) : Host.Outcome State Fault Refusal :=
  (mathWith s o 0xE#4 false false Config.mathFn).outcome

/-- `math.RSQRTM` (R90, R139). -/
def execMathRsqrtm (o : MathOp) (s : State) : Host.Outcome State Fault Refusal :=
  (mathWith s o 0xF#4 false false Config.mathFn).outcome

/-- `math` with a function control R90 prints Reserved (0000b, 1000b): refused (R1). -/
def execMath (_ : MathReserved) (_ : State) : Host.Outcome State Fault Refusal := .refused .reservedMathFunction

end Sys2Proof.Machine
end

