-- ==== Sys2Proof/Machine/Layout.lean ====
section
/-! DEFINITION. Bit layouts of structures as data, and the rule that reads them (R1-R3): a structure with a non-zero
must-be-zero field, an enumerated field holding a value the spec lists as reserved or does not list, or a number outside its
printed range, is refused (93 section 1.2). The graphics address formats (R29-R40). -/

namespace Sys2Proof.Machine

/-- The format of a field (R1, R3): must be zero; reserved without a format; ignored; a code, a raw value; an unsigned number
with fraction bits; a count stored minus one; a two's complement or sign-magnitude number with fraction bits; a sign alone, 1 for +1 and 0 for -1;
an IEEE float;
an unsigned normalized byte; bits from `lo` up of a quantity whose lower bits are zero; the same of a graphics address, whose
bits 63:48 must be zero (R30-R37); an enumeration with its listed values. -/
inductive FieldFormat
  | mbz
  | reserved
  | ignored
  | raw
  | u (fraction : Nat)
  | count
  | s (fraction : Nat)
  | signMagnitude (fraction : Nat)
  | sign
  | float
  | unorm
  | scaled (lo : Nat)
  | address (lo : Nat)
  | codes (listed : List Nat)
deriving DecidableEq, Repr

/-- When a row applies: always; when another field of the structure holds one of the values; when something that is not in
the structure is so, which a name says; when two conditions hold; when one does not. -/
inductive FieldCond
  | always
  | codes (hi lo : Nat) (values : List Nat)
  | given (what : String)
  | both (a b : FieldCond)
  | unless (a : FieldCond)
deriving DecidableEq, Repr

/-- One row of a structure's table: its name (empty: reserved), bits, format, condition, and the printed range of its number,
where it has one. Bits are numbered from bit 0 of DWord 0 (R2). -/
structure LayoutField where
  name : String
  hi : Nat
  lo : Nat
  format : FieldFormat
  cond : FieldCond
  range : Option (Int × Int) := none
deriving DecidableEq, Repr

/-- A structure: its size in DWords and in bits, its rows, and its default DWords (0 where none is listed). -/
structure Layout where
  name : String
  words : Nat
  fields : List LayoutField
  default : List Nat := []
  bits : Nat := 32 * words
deriving DecidableEq, Repr

/-- One row. -/
def Layout.f (name : String) (hi lo : Nat) (format : FieldFormat) (cond : FieldCond := .always) : LayoutField :=
  { name, hi, lo, format, cond }

/-- A row with a printed range of its number. -/
def LayoutField.within (x : LayoutField) (least greatest : Int) : LayoutField := { x with range := some (least, greatest) }

/-- A structure's contents as one number, DWord 0 lowest (R2). -/
def structureValue : List DWord → Nat
  | [] => 0
  | w :: ws => w.toNat + 2 ^ 32 * structureValue ws

/-- Bits hi:lo of a structure (R2). -/
def structureBits (hi lo v : Nat) : Nat := v / 2 ^ lo % 2 ^ (hi + 1 - lo)

/-- Whether a row applies to a structure, when the named things outside it are so. -/
def FieldCond.holds (given : List String) (v : Nat) : FieldCond → Bool
  | .always => true
  | .codes hi lo values => values.contains (structureBits hi lo v)
  | .given what => given.contains what
  | .both a b => a.holds given v && b.holds given v
  | .unless a => !a.holds given v

/-- The number of a field over its denominator (R3). -/
structure FieldValue where
  num : Int
  den : Nat
deriving DecidableEq, Repr

/-- The value of a field (R3). Codes, flags and IEEE floats are their bits. -/
def LayoutField.value (f : LayoutField) (v : Nat) : FieldValue :=
  let r := structureBits f.hi f.lo v
  let w := f.hi + 1 - f.lo
  match f.format with
  | .u n => ⟨r, 2 ^ n⟩
  | .count => ⟨r + 1, 1⟩
  | .s n => ⟨(BitVec.ofNat w r).toInt, 2 ^ n⟩
  | .signMagnitude n => ⟨if r / 2 ^ (w - 1) % 2 = 1 then -(r % 2 ^ (w - 1) : Nat) else (r % 2 ^ (w - 1) : Nat), 2 ^ n⟩
  | .sign => ⟨if r = 1 then 1 else -1, 1⟩
  | .unorm => ⟨r, 255⟩
  | .scaled lo | .address lo => ⟨r * 2 ^ lo, 1⟩
  | .mbz | .reserved | .ignored | .raw | .float | .codes _ => ⟨r, 1⟩

/-- Whether the bits of a row that applies are legal (R1, R20, 93 section 1.2). -/
def LayoutField.legal (f : LayoutField) (v : Nat) : Bool :=
  let r := structureBits f.hi f.lo v
  (match f.format with
    | .mbz => r == 0
    | .codes listed => listed.contains r
    | .address lo => decide (r * 2 ^ lo < addressLimit)
    | .reserved | .ignored | .raw | .u _ | .count | .s _ | .signMagnitude _ | .sign | .float | .unorm | .scaled _ => true) &&
  match f.range with
  | some (least, greatest) => decide (least ≤ (f.value v).num) && decide ((f.value v).num ≤ greatest)
  | none => true

/-- Whether a row is well-formed in a structure (R1). -/
def LayoutField.wf (given : List String) (f : LayoutField) (v : Nat) : Bool := !f.cond.holds given v || f.legal v

/-- Whether a structure is well-formed (R1), when the named things outside it are so. -/
def Layout.wf (l : Layout) (v : Nat) (given : List String := []) : Bool :=
  decide (v < 2 ^ l.bits) && l.fields.all (LayoutField.wf given · v)

/-- The row of a name that applies. -/
def Layout.find (l : Layout) (name : String) (v : Nat) (given : List String := []) : Option LayoutField :=
  l.fields.find? fun x => x.name == name && x.cond.holds given v

/-- The value of the field of a name (R3). -/
def Layout.get (l : Layout) (name : String) (v : Nat) (given : List String := []) : Option FieldValue :=
  (l.find name v given).map fun x => x.value v

/-- A condition of a structure that starts at a bit of a larger one. -/
def FieldCond.shift (n : Nat) : FieldCond → FieldCond
  | .codes hi lo values => .codes (hi + n) (lo + n) values
  | .both a b => .both (a.shift n) (b.shift n)
  | .unless a => .unless (a.shift n)
  | .always => .always
  | .given what => .given what

/-- The rows of a structure that starts at a bit of a larger one. -/
def Layout.atBit (l : Layout) (n : Nat) : List LayoutField :=
  l.fields.map fun x => { x with hi := x.hi + n, lo := x.lo + n, cond := x.cond.shift n }

/-- The rows of a structure that starts at a DWord of a larger one. -/
def Layout.at (l : Layout) (dword : Nat) : List LayoutField := l.atBit (32 * dword)

/-- The default contents of a structure. -/
def Layout.defaultWords (l : Layout) : List DWord := (List.range l.words).map fun k => BitVec.ofNat 32 (l.default.getD k 0)

/-- The structure in memory at an address of the context (R19): refused when it passes 2^48 (R21), is modified in use (R28) or
ill-formed (R1). -/
def Layout.read (l : Layout) (s : State) (addr : Nat) (given : List String := []) : Exec Nat := do
  let n := (l.bits + 7) / 8
  s.checkStructure addr n
  let v := Memory.readLE s.mem addr n % 2 ^ l.bits
  require (l.wf v given) (.stateStructure l.name)
  return v

/-! ### Graphics addresses (R29-R40) -/

/-- `GraphicsAddress63-N` (R30-R37, N in 0, 1, 2, 3, 4, 5, 6, 12): bits 63:N of an address, of which 63:48 must be zero. Of
N = 3 the field is 47:3 (C33). -/
def layoutGraphicsAddress63 (n : Nat) : Layout where
  name := "GraphicsAddress63-" ++ toString n
  words := (95 - n) / 32
  bits := 64 - n
  fields := [Layout.f "" (63 - n) (48 - n) .mbz, Layout.f "GraphicsAddress47" (47 - n) 0 (.scaled n)]

/-- The byte address of a field of format `GraphicsAddress63-N` (R30-R37): refused when its bits 63:48 are not zero. -/
def graphicsAddress63 (n field : Nat) : Exec Nat := do
  require ((layoutGraphicsAddress63 n).wf field) (.stateStructure "GraphicsAddress")
  return field * 2 ^ n

/-- The alignments the address formats have (R38). -/
def addressAlignments : List Nat := [0, 1, 2, 3, 4, 5, 6, 12]

/-- BaseAddress4KByteAligned (R29). -/
def layoutBaseAddress4KByteAligned : Layout where
  name := "BaseAddress4KByteAligned"
  words := 2
  fields := [Layout.f "" 11 0 .mbz, Layout.f "Base Address" 63 12 (.address 12)]

/-- SplitBaseAddress4KByteAligned (R39). -/
def layoutSplitBaseAddress4KByteAligned : Layout where
  name := "SplitBaseAddress4KByteAligned"
  words := 2
  fields :=
    [Layout.f "" 11 0 .mbz, Layout.f "Base Address Low" 31 12 (.scaled 12), Layout.f "Base Address High" 47 32 (.scaled 32),
     Layout.f "" 63 48 .mbz]

/-- SplitBaseAddress64ByteAligned (R40). -/
def layoutSplitBaseAddress64ByteAligned : Layout where
  name := "SplitBaseAddress64ByteAligned"
  words := 2
  fields := [Layout.f "Base Address High" 5 0 .mbz, Layout.f "Base Address" 63 6 (.address 6)]

/-- The byte address of BaseAddress4KByteAligned (R29). -/
def baseAddress4K (v : Nat) : Exec Nat := do
  require (layoutBaseAddress4KByteAligned.wf v) (.stateStructure "BaseAddress4KByteAligned")
  graphicsAddress63 12 (structureBits 63 12 v)

/-- The byte address of SplitBaseAddress4KByteAligned (R39). -/
def splitBaseAddress4K (v : Nat) : Exec Nat := do
  require (layoutSplitBaseAddress4KByteAligned.wf v) (.stateStructure "SplitBaseAddress4KByteAligned")
  return structureBits 47 32 v * 2 ^ 32 + structureBits 31 12 v * 2 ^ 12

/-- The byte address of SplitBaseAddress64ByteAligned (R40). -/
def splitBaseAddress64 (v : Nat) : Exec Nat := do
  require (layoutSplitBaseAddress64ByteAligned.wf v) (.stateStructure "SplitBaseAddress64ByteAligned")
  graphicsAddress63 6 (structureBits 63 6 v)

end Sys2Proof.Machine
end

