-- ==== Sys2Proof/Machine/LayoutPipeline.lean ====
section
/-! DEFINITION. Bit layouts, as data: the 3D pipeline structures of 45_3d_pipeline_state.md, row by row as the spec prints them. -/

namespace Sys2Proof.Machine

open Layout (f)

/-- 3DSTATE_AMFS_POINTERS_REMOVED (R398). -/
def layout3dstateAmfsPointersRemoved : Layout where
  name := "3DSTATE_AMFS_POINTERS_REMOVED"
  words := 1
  fields :=
    [f "" 31 0 .mbz]

/-- AMFS_STATE_REMOVED (R399). -/
def layoutAmfsStateRemoved : Layout where
  name := "AMFS_STATE_REMOVED"
  words := 1
  fields :=
    [f "" 31 0 .mbz]

/-- 3DSTATE_CONSTANT_ALL_DATA (R400). -/
def layout3dstateConstantAllData : Layout where
  name := "3DSTATE_CONSTANT_ALL_DATA"
  words := 2
  fields :=
    [f "Constant Buffer Read Length" 4 0 (.u 0), f "Pointer To Constant Buffer" 63 5 (.address 5)]

/-- 3DSTATE_CONSTANT(Body) (R401). -/
def layout3dstateConstantBody : Layout where
  name := "3DSTATE_CONSTANT(Body)"
  words := 10
  fields :=
    [f "Constant Buffer 0 Read Length" 15 0 (.u 0), f "Constant Buffer 1 Read Length" 31 16 (.u 0),
     f "Constant Buffer 2 Read Length" 47 32 (.u 0), f "Constant Buffer 3 Read Length" 63 48 (.u 0), f "" 68 64 .mbz,
     f "Pointer To Constant Buffer 0" 127 69 (.address 5), f "" 132 128 .mbz, f "Pointer To Constant Buffer 1" 191 133 (.address 5),
     f "" 196 192 .mbz, f "Pointer To Constant Buffer 2" 255 197 (.address 5), f "" 260 256 .mbz,
     f "Pointer To Constant Buffer 3" 319 261 (.address 5)]

/-- BLEND_STATE_ENTRY (R407). -/
def layoutBlendStateEntry : Layout where
  name := "BLEND_STATE_ENTRY"
  words := 2
  fields :=
    [f "Write Disable Blue" 0 0 .raw, f "Write Disable Green" 1 1 .raw, f "Write Disable Red" 2 2 .raw,
     f "Write Disable Alpha" 3 3 .raw, f "" 4 4 .mbz, f "Alpha Blend Function" 7 5 .raw,
     f "Destination Alpha Blend Factor" 12 8 .raw, f "Source Alpha Blend Factor" 17 13 .raw,
     f "Color Blend Function" 20 18 .raw, f "Destination Blend Factor" 25 21 .raw,
     f "Source Blend Factor" 30 26 .raw, f "Color Buffer Blend Enable" 31 31 .raw,
     f "Post-Blend Color Clamp Enable" 32 32 .raw, f "Pre-Blend Color Clamp Enable" 33 33 .raw,
     f "Color Clamp Range" 35 34 (.codes [0, 1, 2]), f "Pre-Blend Source Only Clamp Enable" 36 36 .raw,
     f "" 58 37 .mbz, f "Logic Op Function" 62 59 .raw, f "Logic Op Enable" 63 63 .raw]

/-- CC_VIEWPORT (R409). -/
def layoutCcViewport : Layout where
  name := "CC_VIEWPORT"
  words := 2
  fields :=
    [f "Minimum Depth" 31 0 .float, f "Maximum Depth" 63 32 .float]

/-- COLOR_CALC_STATE (R410). -/
def layoutColorCalcState : Layout where
  name := "COLOR_CALC_STATE"
  words := 6
  fields :=
    [f "Alpha Test Format" 0 0 .raw, f "" 14 1 .mbz, f "Round Disable Function Disable" 15 15 .raw, f "" 31 16 .mbz,
     f "Alpha Reference Value As FLOAT32" 63 32 .float (.codes 0 0 [1]),
     f "Alpha Reference Value As UNORM8" 39 32 .unorm (.codes 0 0 [0]), f "" 63 40 .mbz (.codes 0 0 [0]),
     f "Blend Constant Color Red" 95 64 .float, f "Blend Constant Color Green" 127 96 .float,
     f "Blend Constant Color Blue" 159 128 .float, f "Blend Constant Color Alpha" 191 160 .float]

/-- Depth Clear Value Format (R411): the format follows the depth buffer's. R3 gives UNORM8 a value, and UNORM24 and UNORM16
none: that their value here is the plain integer is the model's choice (DESIGN CHOICE, log 57). -/
def layoutDepthClearValueFormat : Layout where
  name := "Depth Clear Value Format"
  words := 1
  fields :=
    [f "Address1" 31 0 .float (.given "IEEE_FP"), f "Address1" 23 0 (.u 0) (.given "UNORM24"),
     f "" 31 24 .mbz (.given "UNORM24"), f "Address1" 15 0 (.u 0) (.given "UNORM16"), f "" 31 16 .mbz (.given "UNORM16")]

/-- DX9_CONSTANTB_ENTRY (R412). -/
def layoutDx9ConstantbEntry : Layout where
  name := "DX9_CONSTANTB_ENTRY"
  words := 1
  fields :=
    [f "Component" 31 0 (.u 0)]

/-- DX9_CONSTANTF_ENTRY (R413). -/
def layoutDx9ConstantfEntry : Layout where
  name := "DX9_CONSTANTF_ENTRY"
  words := 4
  fields :=
    [f "Component 0" 31 0 .float, f "Component 1" 63 32 .float, f "Component 2" 95 64 .float,
     f "Component 3" 127 96 .float]

/-- DX9_CONSTANTI_ENTRY (R414). -/
def layoutDx9ConstantiEntry : Layout where
  name := "DX9_CONSTANTI_ENTRY"
  words := 4
  fields :=
    [f "Component 0" 31 0 (.u 0), f "Component 1" 63 32 (.u 0), f "Component 2" 95 64 (.u 0),
     f "Component 3" 127 96 (.u 0)]

/-- GATHER_CONSTANT_ENTRY (R415): with DX9 constants, the offset is at most 1. -/
def layoutGatherConstantEntry : Layout where
  name := "GATHER_CONSTANT_ENTRY"
  words := 1
  bits := 16
  fields :=
    [f "Binding Table Index Offset" 3 0 (.u 0) (.unless (.given "VS Constant Buffer Dx9 Enable")),
     (f "Binding Table Index Offset" 3 0 (.u 0) (.given "VS Constant Buffer Dx9 Enable")).within 0 1,
     f "Channel Mask" 7 4 .raw, f "Constant Buffer Offset" 15 8 (.scaled 4)]

/-- PIXEL_HASH_TABLE_1BIT_32ENTRY (R416). -/
def layoutPixelHashTable1bit32entry : Layout where
  name := "PIXEL_HASH_TABLE_1BIT_32ENTRY"
  words := 1
  fields :=
    [f "Pixel Hashing Table Entries y[0]x[7:0]" 7 0 (.u 0), f "Pixel Hashing Table Entries y[1]x[7:0]" 15 8 (.u 0),
     f "Pixel Hashing Table Entries y[2]x[7:0]" 23 16 (.u 0), f "Pixel Hashing Table Entries y[3]x[7:0]" 31 24 (.u 0)]

/-- PIXEL_HASH_TABLE_1BIT_64ENTRY (R417). -/
def layoutPixelHashTable1bit64entry : Layout where
  name := "PIXEL_HASH_TABLE_1BIT_64ENTRY"
  words := 2
  fields :=
    [f "Pixel Hashing Table Entries y[0]x[7:0]" 7 0 (.u 0), f "Pixel Hashing Table Entries y[1]x[7:0]" 15 8 (.u 0),
     f "Pixel Hashing Table Entries y[2]x[7:0]" 23 16 (.u 0),
     f "Pixel Hashing Table Entries y[3]x[7:0]" 31 24 (.u 0),
     f "Pixel Hashing Table Entries y[4]x[7:0]" 39 32 (.u 0),
     f "Pixel Hashing Table Entries y[5]x[7:0]" 47 40 (.u 0),
     f "Pixel Hashing Table Entries y[6]x[7:0]" 55 48 (.u 0), f "Pixel Hashing Table Entries y[7]x[7:0]" 63 56 (.u 0)]

/-- PIXEL_HASH_TABLE_1BIT_128ENTRY (R418). -/
def layoutPixelHashTable1bit128entry : Layout where
  name := "PIXEL_HASH_TABLE_1BIT_128ENTRY"
  words := 4
  fields :=
    [f "Pixel Hashing Table Entries y[0]x[15:0]" 15 0 (.u 0),
     f "Pixel Hashing Table Entries y[1]x[15:0]" 31 16 (.u 0),
     f "Pixel Hashing Table Entries y[2]x[15:0]" 47 32 (.u 0),
     f "Pixel Hashing Table Entries y[3]x[15:0]" 63 48 (.u 0),
     f "Pixel Hashing Table Entries y[4]x[15:0]" 79 64 (.u 0),
     f "Pixel Hashing Table Entries y[5]x[15:0]" 95 80 (.u 0),
     f "Pixel Hashing Table Entries y[6]x[15:0]" 111 96 (.u 0),
     f "Pixel Hashing Table Entries y[7]x[15:0]" 127 112 (.u 0)]

/-- Row `k` of a pixel hashing table of two bits an entry, `nx` entries a row. -/
def hashRow (nx y : Nat) : List LayoutField :=
  (List.range nx).map fun x =>
    f ("Pixel Hashing Table Entry y[" ++ toString y ++ "]x[" ++ toString x ++ "]") (2 * (nx * y + x) + 1) (2 * (nx * y + x)) (.u 0)

/-- PIXEL_HASH_TABLE_2BIT_64ENTRY (R419). -/
def layoutPixelHashTable2bit64entry : Layout where
  name := "PIXEL_HASH_TABLE_2BIT_64ENTRY"
  words := 4
  fields := (List.range 8).flatMap (hashRow 8)

/-- PIXEL_HASH_TABLE_2BIT_128ENTRY (R420): 16 by 8, as its rows name them. -/
def layoutPixelHashTable2bit128entry : Layout where
  name := "PIXEL_HASH_TABLE_2BIT_128ENTRY"
  words := 8
  fields := (List.range 8).flatMap (hashRow 16)

/-- SCISSOR_RECT (R421). -/
def layoutScissorRect : Layout where
  name := "SCISSOR_RECT"
  words := 2
  fields :=
    [(f "Scissor Rectangle X Min" 15 0 (.u 0)).within 0 16383, (f "Scissor Rectangle Y Min" 31 16 (.u 0)).within 0 16383,
     (f "Scissor Rectangle X Max" 47 32 (.u 0)).within 0 16383, (f "Scissor Rectangle Y Max" 63 48 (.u 0)).within 0 16383]

/-- SF_CLIP_VIEWPORT (R422). -/
def layoutSfClipViewport : Layout where
  name := "SF_CLIP_VIEWPORT"
  words := 16
  fields :=
    [f "Viewport Matrix Element m00" 31 0 .float, f "Viewport Matrix Element m11" 63 32 .float,
     f "Viewport Matrix Element m22" 95 64 .float, f "Viewport Matrix Element m30" 127 96 .float,
     f "Viewport Matrix Element m31" 159 128 .float, f "Viewport Matrix Element m32" 191 160 .float,
     f "" 223 192 .mbz, f "" 255 224 .mbz, f "X Min Clip Guardband" 287 256 .float,
     f "X Max Clip Guardband" 319 288 .float, f "Y Min Clip Guardband" 351 320 .float,
     f "Y Max Clip Guardband" 383 352 .float, f "X Min ViewPort" 415 384 .float, f "X Max ViewPort" 447 416 .float,
     f "Y Min ViewPort" 479 448 .float, f "Y Max ViewPort" 511 480 .float]

/-- SF_OUTPUT_ATTRIBUTE_DETAIL (R423): Swizzle Control Mode stands in the first attribute's only. -/
def layoutSfOutputAttributeDetail : Layout where
  name := "SF_OUTPUT_ATTRIBUTE_DETAIL"
  words := 1
  bits := 16
  fields :=
    [f "Source Attribute" 4 0 (.u 0), f "" 5 5 .mbz, f "Swizzle Select" 7 6 .raw, f "" 8 8 .mbz,
     f "Constant Source" 10 9 .raw, f "Swizzle Control Mode" 11 11 .raw (.given "Attribute[0]"),
     f "" 11 11 .mbz (.unless (.given "Attribute[0]")), f "Component Override X" 12 12 .raw,
     f "Component Override Y" 13 13 .raw, f "Component Override Z" 14 14 .raw, f "Component Override W" 15 15 .raw]

/-- SO_DECL (R424): the component masks of a hole; the contiguous ones of a write. -/
def layoutSoDecl : Layout where
  name := "SO_DECL"
  words := 1
  bits := 16
  fields :=
    [f "Component Mask" 3 0 (.codes [0, 1, 3, 7, 15]) (.codes 11 11 [1]),
     f "Component Mask" 3 0 (.codes [0, 1, 2, 3, 4, 6, 7, 8, 12, 14, 15]) (.codes 11 11 [0]),
     (f "Register Index" 9 4 (.u 0) (.codes 11 11 [0])).within 0 32, f "Register Index" 9 4 .ignored (.codes 11 11 [1]), f "" 10 10 .mbz, f "Hole Flag" 11 11 .raw,
     f "Output Buffer Slot" 13 12 (.u 0), f "" 15 14 .mbz]

/-- VERTEX_BUFFER_STATE (R426). -/
def layoutVertexBufferState : Layout where
  name := "VERTEX_BUFFER_STATE"
  words := 4
  fields :=
    [f "Buffer Pitch" 11 0 (.u 0), f "" 12 12 .mbz, f "Null Vertex Buffer" 13 13 .raw,
     f "Address Modify Enable" 14 14 .raw, f "" 15 15 .mbz, f "Memory Object Control State" 22 16 .raw,
     f "" 25 23 .mbz, (f "Vertex Buffer Index" 31 26 (.u 0)).within 0 32,
     f "Buffer Starting Address" 95 32 (.address 0) (.codes 14 14 [1]),
     f "Buffer Starting Address" 95 32 .ignored (.codes 14 14 [0]), f "Buffer Size" 127 96 (.u 0)]

/-- VERTEX_ELEMENT_STATE (R427). -/
def layoutVertexElementState : Layout where
  name := "VERTEX_ELEMENT_STATE"
  words := 2
  fields :=
    [(f "Source Element Offset" 11 0 (.u 0)).within 0 2047, f "" 14 12 .mbz, f "Edge Flag Enable" 15 15 .raw,
     f "Source Element Format" 24 16 .raw, f "Valid" 25 25 .raw,
     (f "Vertex Buffer Index" 31 26 (.u 0)).within 0 32,
     f "" 39 32 .mbz, f "" 47 40 .mbz, f "Component 3 Control" 50 48 (.codes [0, 1, 2, 3, 4, 5]), f "" 51 51 .mbz,
     f "Component 2 Control" 54 52 (.codes [0, 1, 2, 3, 4, 5]), f "" 55 55 .mbz,
     f "Component 1 Control" 58 56 (.codes [0, 1, 2, 3, 4, 5]), f "" 59 59 .mbz,
     f "Component 0 Control" 62 60 (.codes [0, 1, 2, 3, 4, 5]), f "" 63 63 .mbz]

end Sys2Proof.Machine
end

