-- ==== Sys2Proof/Machine/RenderTarget.lean ====
section
/-! DEFINITION. The messages of the render cache data port (R200, R206, R246-R249, R258, R322-R397): render target writes
and reads. -/

namespace Sys2Proof.Machine

/-- The subtypes of a render target write (R200): `hi` is the low bit of a dual-source type. -/
inductive RtKind
  | simd16
  | replicated (tiledOnly : Bool)
  | dual (hi : Bool)
  | simd8
deriving DecidableEq, Repr

/-- Message Type, descriptor bits 10:8 (R200). -/
def rtKind (c : Nat) : Exec RtKind :=
  match c with
  | 0 => .ok .simd16
  | 1 => .ok (.replicated false)
  | 2 => .ok (.dual false)
  | 3 => .ok (.dual true)
  | 4 => .ok .simd8
  | 7 => .ok (.replicated true)
  | _ => refuse (.messageDescriptor "RenderTargetMessageType")

/-- Slots of a subtype. -/
def RtKind.slots : RtKind → Nat
  | .simd16 | .replicated _ => 16
  | .dual _ | .simd8 => 8

/-- A render target message: subtype, half precision (descriptor bit 30), the optional parts the header announces (R249),
per-sample output (bit 13), slot group (bit 11, R212). -/
structure RtMessage where
  kind : RtKind
  half : Bool
  stencil : Bool
  depth : Bool
  oMask : Bool
  alpha : Bool
  perSample : Bool
  group : Nat
deriving DecidableEq, Repr

/-- Header DWord 0.0 (R249); 0 without a header. -/
def Msg.rtControl (m : Msg) : DWord := dword m.header 0

/-- Second header register (R248). -/
def Msg.rtHeader1 (m : Msg) : HWord := if m.hasHeader then m.payload.getD 1 0#256 else 0#256

/-- Register `k` of the data payload, after a header of two registers (R248, R322). -/
def Msg.rtReg (m : Msg) (k : Nat) : HWord := m.payload.getD (if m.hasHeader then k + 2 else k) 0#256

/-- A render target write from its descriptor and header. Combinations for which no payload is listed are refused (R249,
R322, R387). -/
def rtMessage (m : Msg) : Exec RtMessage := do
  let kind ← rtKind (m.bits 8 3)
  let c := m.rtControl
  let r : RtMessage :=
    { kind, half := m.desc.getLsbD 30, stencil := c.getLsbD 14, depth := c.getLsbD 13, oMask := c.getLsbD 12
      alpha := c.getLsbD 11, perSample := m.desc.getLsbD 13, group := m.bits 11 1 }
  match kind with
  | .simd16 => require (!r.stencil) (.messagePayload "StencilPresent")
  | .replicated _ => require (!r.stencil && !r.depth && !r.alpha) (.messagePayload "ReplicatedParts")
  | .dual _ => require (!r.alpha) (.messagePayload "Source0AlphaPresent")
  | .simd8 => pure ()
  return r

/-- Registers of one colour channel of one source, or of source 0 alpha (R325, R326, R266, R268, R323, R324, R380). -/
def RtMessage.channelRegs (r : RtMessage) : Nat :=
  match r.kind with
  | .simd16 => if r.half then 1 else 2
  | _ => 1

/-- Registers of source 0 alpha. -/
def RtMessage.alphaRegs (r : RtMessage) : Nat := if r.alpha then r.channelRegs else 0

/-- The register the oMask is in, if present (R322: after source 0 alpha). -/
def RtMessage.oMaskReg (r : RtMessage) : Nat := r.alphaRegs

/-- The first colour register (R322). -/
def RtMessage.colourReg (r : RtMessage) : Nat := r.alphaRegs + (if r.oMask then 1 else 0)

/-- Registers of the colours (R323-R397). -/
def RtMessage.colourRegs (r : RtMessage) : Nat :=
  match r.kind with
  | .replicated _ => 1
  | .dual _ => if r.half then 4 else 8
  | _ => 4 * r.channelRegs

/-- The source depth register, if present. -/
def RtMessage.depthReg (r : RtMessage) : Nat := r.colourReg + r.colourRegs

/-- Registers of the source depth. -/
def RtMessage.depthRegs (r : RtMessage) : Nat := if r.depth then r.kind.slots / 8 else 0

/-- The stencil register, if present. -/
def RtMessage.stencilReg (r : RtMessage) : Nat := r.depthReg + r.depthRegs

/-- Registers of the whole data payload. -/
def RtMessage.regs (r : RtMessage) : Nat := r.stencilReg + (if r.stencil then 1 else 0)

/-- Word `k` of a register. -/
def wordOf (r : HWord) (k : Nat) : DWord := (r.extractLsb' (16 * k) 16).setWidth 32

/-- The value of slot `i` in the part at register `k`: a 32-bit value, or the 16 bits of a half-precision one. -/
def RtMessage.value (r : RtMessage) (m : Msg) (k i : Nat) : DWord :=
  if r.half then wordOf (m.rtReg k) i else dword (m.rtReg (k + i / 8)) (i % 8)

/-- Colour channel `c` of source `src` for slot `i` (R323-R326, R380, R266, R268). -/
def RtMessage.colour (r : RtMessage) (m : Msg) (src c i : Nat) : DWord :=
  let k := r.colourReg
  match r.kind with
  | .replicated _ => if r.half then wordOf (m.rtReg k) c else dword (m.rtReg k) c
  | .dual _ => if r.half then wordOf (m.rtReg (k + c)) (8 * src + i) else dword (m.rtReg (k + 4 * src + c)) i
  | _ => r.value m (k + c * r.channelRegs) i

/-- The pixel slot, of the 16 in the slot group, that message slot `i` is (R200). -/
def RtKind.pixel (k : RtKind) (i : Nat) : Nat :=
  match k with
  | .dual true => 8 + i
  | _ => i

/-- The oMask of message slot `i` (R361): the upper half of the register for the upper slots. -/
def RtMessage.oMaskOf (r : RtMessage) (m : Msg) (i : Nat) : BitVec 16 :=
  let j :=
    match r.kind with
    | .simd16 | .replicated _ => i
    | .dual hi => if hi || r.group == 1 then 8 + i else i
    | .simd8 => if r.group == 1 then 8 + i else i
  if r.oMask then (m.rtReg r.oMaskReg).extractLsb' (16 * j) 16 else 0xFFFF#16

/-- Position (X, Y) of a pixel slot (R248, R258): its subspan's corner, then `2 * (y & 1) + (x & 1)`; without a header the
subspan is bypassed (R200). -/
def rtPosition (s : State) (m : Msg) (group p : Nat) : Nat × Nat :=
  let span := if m.hasHeader then dword m.rtHeader1 (2 + p / 4) else Config.bypassSubspan s.eu.tid (4 * group + p / 4)
  ((span.extractLsb' 0 16).toNat + p % 2, (span.extractLsb' 16 16).toNat + p / 2 % 2)

/-- The thread's dispatched enables of a slot group (R11, R246). -/
def dispatchedEnables (s : State) (group : Nat) : BitVec 16 := s.eu.dmask.extractLsb' (16 * group) 16

/-- Which pixel slots of a group may be accessed (R246): the header's two masks together, or the bypassed enables; a header
with modified dispatched enables is refused. -/
def rtEnables (s : State) (m : Msg) (group : Nat) : Exec (BitVec 16) := do
  if m.hasHeader then
    let d := dword m.rtHeader1 7
    require (d.extractLsb' 16 16 == dispatchedEnables s group) (.messagePayload "DispatchedPixelEnables")
    return d.extractLsb' 0 16 &&& d.extractLsb' 16 16
  else return dispatchedEnables s group

/-- The array index the hardware uses (R249, D25), counted from the Minimum Array Element. -/
def rtArrayIndex (u : Surface) (c : DWord) : Nat :=
  let a := (c.extractLsb' 16 11).toNat
  let depth := if u.ty = surfCube then 5 else u.depth
  (if a < u.minArray ∨ a > depth then u.minArray else a) - u.minArray

/-- Coordinates of an element of a render target: a one-dimensional surface is indexed by x and array index. -/
def rtCoords (u : Surface) (x y r : Nat) : Nat × Nat × Nat := if u.ty = surf1D then (x, r, 0) else (x, y, r)

/-- The sample a per-sample message accesses in a pixel slot (R246, R249): in PER_SAMPLE dispatch, or without the Per-Sample
PS Enable, header bits 9:6 are the first sample pair, and each subspan slot stands for a sample; else they are the sample. -/
def rtSample (u : Surface) (m : Msg) (p : Nat) : Nat :=
  let k := (m.rtControl.extractLsb' 6 4).toNat
  if Config.psPerSample || !Config.psPerSampleEnable then Config.subspanSample u.samples k (p / 4) else k

/-- The first sample pair of a dispatch is one of 8 (R249), whether the message writes one sample or all. -/
def checkSamplePair (m : Msg) : Exec Unit :=
  require (decide ((m.rtControl.extractLsb' 6 4).toNat ≤ 7) || !(Config.psPerSample || !Config.psPerSampleEnable))
    (.messagePayload "StartingSamplePairIndex")

/-- The samples of a pixel a message writes (R200, R246, R249, R322, R361): the one it names, or all that are covered; the
oMask applies to either. -/
def rtSamples (s : State) (u : Surface) (m : Msg) (r : RtMessage) (i : Nat) : List Nat :=
  let mask := r.oMaskOf m i
  if r.perSample then
    let k := rtSample u m (r.kind.pixel i)
    if mask.getLsbD k then [k] else []
  else
    let cover := if u.samples = 1 then 0xFFFF#16 else Config.bypassCoverage s.eu.tid (16 * r.group + r.kind.pixel i)
    (List.range u.samples).filter fun k => mask.getLsbD k && cover.getLsbD k

/-- The surface a render target message names (R22): a binding table index of a surface state, whose Surface Min LOD is
ignored (R448). The extended function control of such a message must be zero (R193, D23). -/
def rtSurface (s : State) (m : Msg) : Exec Surface := do
  require (m.ex == 0#20) (.messageDescriptor "ExtendedFunctionControl")
  match ← resolveTarget s m .render .surface with
  | .surface u => return u
  | _ => refuse (.messageDescriptor "BindingTableIndex")

/-- The Render Target Array Index of a surface (R249): 0 of a buffer, at most 511 of a one- or two-dimensional one; and 0 where
the surface has a Y Offset (R448). -/
def rtIndexOk (u : Surface) (k : Nat) : Bool :=
  (u.ty != surfBuffer || k == 0) && (!(u.ty == surf1D || u.ty == surf2D) || decide (k ≤ 511)) &&
    (u.yOffset == 0 || k == 0)

/-- What a render target message requires of its surface (R200, R249); a null surface is supported by every message
(R438). -/
def rtCheck (u : Surface) (m : Msg) (perSample : Bool) : Exec Unit := do
  require (!perSample || u.ty == surfNull || decide (1 < u.samples)) (.messageDescriptor "PerSamplePsOutputs")
  require (rtIndexOk u (m.rtControl.extractLsb' 16 11).toNat) (.messagePayload "RenderTargetArrayIndex")
  checkSamplePair m

/-- The colours by surface channel (R451, R452): each takes the shader channel that its select names. -/
def Surface.colours (u : Surface) (shader : Nat → DWord) : List DWord :=
  (List.range 4).map fun k => shader ((u.writer k).getD k)

/-- The COLOR_CALC_STATE of a message (R233, R248, R410): at the header's pointer, relative to the General State Base Address
(its bits 5:0 are ignored); without a header, none. -/
def rtColorCalc (s : State) (m : Msg) : Exec Nat :=
  if m.hasHeader then
    layoutColorCalcState.read s (s.ctx.generalBase.toNat + (dword m.header 1 &&& 0xFFFFFFC0#32).toNat)
  else .ok 0

/-- One sample of a slot written: the old texel, the colours and the parts that the colour calculator combines
(`Config.renderTexel`), each optional one (R322) after whether it is present: `color` is the COLOR_CALC_STATE. -/
def rtStore (color : Nat) (s : State) (u : Surface) (m : Msg) (r : RtMessage) (i k : Nat) : Exec State := do
  let p := r.kind.pixel i
  let (px, py) := rtPosition s m r.group p
  let (x, y, a) := rtCoords u px py (rtArrayIndex u m.rtControl)
  let old ← u.readTexel s x y a u.mip k
  let colours (src : Nat) : List DWord := u.colours fun c => r.colour m src c i
  let second := match r.kind with
    | .dual _ => colours 1
    | _ => []
  let parts : List Nat :=
    [(m.rtControl.extractLsb' 27 4).toNat, (m.rtControl.extractLsb' 15 1).toNat, color, (dword m.header 2).toNat % 8,
     u.format.toNat, r.half.toNat, r.alpha.toNat, if r.alpha then (r.value m 0 i).toNat else 0,
     (Config.bypassAlpha s.eu.tid (16 * r.group + p)).toNat,
     r.depth.toNat, if r.depth then (dword (m.rtReg (r.depthReg + i / 8)) (i % 8)).toNat else 0,
     r.stencil.toNat, if r.stencil then ((m.rtReg r.stencilReg).extractLsb' (8 * i) 8).toNat else 0,
     k]
  u.writeTexel s x y a u.mip k (Config.renderTexel old (colours 0) second parts)

/-- In PER_SAMPLE dispatch a write is a per-sample one (R200), but to a surface of one sample, of which R200 forbids that (DESIGN
CHOICE, log 24). -/
def rtRateOk (u : Surface) (perSample : Bool) : Bool := perSample || u.samples == 1 || !Config.psPerSample

/-- A render target write (R200, R206, R246, R248, R249). -/
def renderTargetWrite : Handler := fun m s => do
  let r ← rtMessage m
  let u ← rtSurface s m
  rtCheck u m r.perSample
  require (rtRateOk u r.perSample) (.messageDescriptor "PerSamplePsOutputs")
  require (r.kind != .replicated true || u.tile != 0 || u.ty == surfNull) (.stateStructure "TileMode")
  require (decide ((if m.hasHeader then 2 else 0) + r.regs ≤ m.payload.length)) (.messageDescriptor "MessageLength")
  let en ← rtEnables s m r.group
  let color ← rtColorCalc s m
  let active := activeSlots r.kind.slots fun i => m.slot i && en.getLsbD (r.kind.pixel i)
  let s1 ← runAll s (active.flatMap fun i => (rtSamples s u m r i).map fun k => (i, k)) fun t e =>
    rtStore color t u m r e.1 e.2
  return (s1, [])

/-- A render target read (R206, R246, R249): colours of the enabled slots, by the channel selects (R452), as a 32-bit payload; the lanes of the others are
not written. SIMD8 or SIMD16 by descriptor bit 8 (PRESUMED, log 24). -/
def renderTargetRead : Handler := fun m s => do
  let simd8 := m.desc.getLsbD 8
  let perSample := m.desc.getLsbD 13
  let group := m.bits 11 1
  let c := m.rtControl
  require (c.extractLsb' 11 4 == 0#4) (.messagePayload "RenderTargetControls")
  let u ← rtSurface s m
  rtCheck u m perSample
  require (decide ((if m.hasHeader then 2 else 0) ≤ m.payload.length)) (.messageDescriptor "MessageLength")
  let en ← rtEnables s m group
  let n := if simd8 then 8 else 16
  let active := activeSlots n fun i => m.slot i && en.getLsbD i
  let reads ← sequence (active.map fun i => do
    let (px, py) := rtPosition s m group i
    let (x, y, a) := rtCoords u px py (rtArrayIndex u c)
    let k := if perSample then rtSample u m i else 0
    let t ← u.readTexel s x y a u.mip k
    let inside := u.ty != surfNull && u.contains x y a u.mip k
    return (List.range 4).map fun ch =>
      let v := if inside then u.shaderValue ((s.draw (4 * i + ch) 31).setWidth 32) t ch else 0#32
      (ch * (n / 8) + i / 8, (32 * (i % 8), 32, v.toNat)))
  return (s, responseOver (4 * (n / 8)) reads.flatten)

/-- A message of the render cache data port by its type, descriptor bits 17:14 (R206). -/
def renderCache : Handler := fun m s =>
  match m.bits 14 4 with
  | 0xC => renderTargetWrite m s
  | 0xD => renderTargetRead m s
  | _ => refuse (.messageDescriptor "MessageType")

/-- `MT_RTW` (R206): a render target write of any subtype. -/
def execMtRtw (f : SendForm) (s : State) : Host.Outcome State Fault Refusal := (issueMessage f renderTargetWrite s).outcome

/-- `MT_RTR` (R206). -/
def execMtRtr (f : SendForm) (s : State) : Host.Outcome State Fault Refusal := (issueMessage f renderTargetRead s).outcome

/-- `MT_RTW.SIMD16` (R200). -/
def execMtRtwSimd16 (f : SendForm) (s : State) : Host.Outcome State Fault Refusal :=
  (issueMessage f renderTargetWrite s).outcome

/-- `MT_RTW.SIMD16_REPDATA` (R200). -/
def execMtRtwSimd16Repdata (f : SendForm) (s : State) : Host.Outcome State Fault Refusal :=
  (issueMessage f renderTargetWrite s).outcome

/-- `MT_RTW.SIMD8_DUALSRC_LO` (R200). -/
def execMtRtwSimd8DualsrcLo (f : SendForm) (s : State) : Host.Outcome State Fault Refusal :=
  (issueMessage f renderTargetWrite s).outcome

/-- `MT_RTW.SIMD8_DUALSRC_HI` (R200). -/
def execMtRtwSimd8DualsrcHi (f : SendForm) (s : State) : Host.Outcome State Fault Refusal :=
  (issueMessage f renderTargetWrite s).outcome

/-- `MT_RTW.SIMD8_LO` (R200). -/
def execMtRtwSimd8Lo (f : SendForm) (s : State) : Host.Outcome State Fault Refusal :=
  (issueMessage f renderTargetWrite s).outcome

/-- `MT_RTW.SIMD16_REPDATA_TM` (R200). -/
def execMtRtwSimd16RepdataTm (f : SendForm) (s : State) : Host.Outcome State Fault Refusal :=
  (issueMessage f renderTargetWrite s).outcome

/-- `sfid.DataPortRenderCache` (R93): the type is in a register descriptor. -/
def execSfidRenderCache (f : SendForm) (s : State) : Host.Outcome State Fault Refusal :=
  (issueMessage f renderCache s).outcome

end Sys2Proof.Machine
end

