-- ==== Sys2Proof/Machine/LayoutSurface.lean ====
section
/-! DEFINITION. Bit layouts, as data: the surface and sampler structures of 46_surface_state.md and 47_sampler_state.md, row by row as the spec prints them. -/

namespace Sys2Proof.Machine

open Layout (f)

/-- BINDING_TABLE_EDIT_ENTRY (R428). -/
def layoutBindingTableEditEntry : Layout where
  name := "BINDING_TABLE_EDIT_ENTRY"
  words := 1
  fields :=
    [f "Surface State Pointer" 15 0 (.scaled 6), f "Binding Table Index" 23 16 (.u 0), f "" 31 24 .mbz]

/-- BINDING_TABLE_STATE (R429). -/
def layoutBindingTableState : Layout where
  name := "BINDING_TABLE_STATE"
  words := 1
  fields :=
    [f "" 5 0 .mbz, f "Surface State Pointer" 31 6 (.scaled 6)]

/-- HW Generated BINDING_TABLE_STATE (R430). -/
def layoutHwGeneratedBindingTableState : Layout where
  name := "HW Generated BINDING_TABLE_STATE"
  words := 1
  bits := 16
  fields :=
    [f "Surface State Pointer" 15 0 (.scaled 6)]

/-- Of a MEDIA_SURFACE_STATE: the format is a planar one (R431, R432). -/
def mediaPlanar : FieldCond := .codes 95 91 [4, 18]

/-- Of a MEDIA_SURFACE_STATE: the format is PLANAR_420_8, whose chroma planes have half the rows. -/
def media420 : FieldCond := .codes 95 91 [4]

/-- Of a MEDIA_SURFACE_STATE: Tile Mode is linear (R431). -/
def mediaLinear : FieldCond := .codes 65 64 [0]

/-- MEDIA_SURFACE_STATE (R431, its formats R432). Where a field must be zero for some formats, a row says so. -/
def layoutMediaSurfaceState : Layout where
  name := "MEDIA_SURFACE_STATE"
  words := 8
  fields :=
    [f "" 11 0 .mbz, f "" 15 12 .mbz, f "" 26 16 .mbz (.unless mediaPlanar),
     f "" 26 16 .mbz mediaLinear, (f "Y Offset" 19 16 (.scaled 2) mediaPlanar).within 0 28,
     (f "X Offset" 26 20 (.scaled 2) mediaPlanar).within 0 508, f "" 21 20 .mbz mediaPlanar, f "" 29 27 .mbz,
     f "Rotation" 31 30 .raw, f "Cr(V)/Cb(U) Pixel Offset V Direction" 33 32 (.u 2) media420,
     f "Cr(V)/Cb(U) Pixel Offset V Direction" 33 32 .mbz (.both media420 (.codes 88 88 [1])),
     f "Cr(V)/Cb(U) Pixel Offset V Direction" 33 32 .ignored (.unless media420),
     f "Picture Structure" 35 34 (.codes [0, 1, 2]), f "Width" 49 36 .count, f "Height" 63 50 .count,
     f "Tile Mode" 65 64 (.codes [0, 2, 3]), f "Half Pitch for Chroma" 66 66 .mbz,
     (f "Surface Pitch" 84 67 .count mediaLinear).within 1 262144,
     (f "Surface Pitch" 84 67 .count (.codes 65 64 [2])).within 512 262144, f "" 75 67 (.codes [511]) (.codes 65 64 [2]),
     (f "Surface Pitch" 84 67 .count (.codes 65 64 [3])).within 128 262144,
     f "" 73 67 (.codes [127]) (.both (.codes 65 64 [3]) (.codes 179 178 [0])), f "Address Control" 85 85 .raw,
     f "Memory Compression Enable" 86 86 .raw (.codes 65 64 [3]), f "" 86 86 .mbz (.unless (.codes 65 64 [3])),
     f "Memory Compression Mode" 87 87 .raw, f "Cr(V)/Cb(U) Pixel Offset V Direction MSB" 88 88 (.u 0) media420,
     f "" 88 88 .mbz (.unless media420),
     f "Cr(V)/Cb(U) Pixel Offset U Direction" 89 89 (.u 1) (.codes 95 91 [0, 1, 2, 3, 4, 18]),
     f "" 89 89 .mbz (.unless (.codes 95 91 [0, 1, 2, 3, 4, 18])), f "Interleave Chroma" 90 90 .raw,
     f "Surface Format" 95 91 (.codes [0, 1, 2, 3, 4, 5, 6, 7, 8, 9, 10, 11, 12, 13, 14, 15, 16, 17, 18])] ++
    [f "Y Offset for U(Cb)" 109 96 (.u 0), f "" 97 96 .mbz (.unless media420), f "" 111 110 .mbz,
     f "X Offset for U(Cb)" 125 112 (.u 0), f "" 112 112 .mbz mediaPlanar, f "" 127 126 .mbz,
     f "Y Offset for V(Cr)" 142 128 (.u 0) (.both mediaPlanar (.codes 90 90 [0])),
     f "" 129 128 .mbz (.both mediaPlanar (.codes 90 90 [0])),
     f "" 142 128 .reserved (.unless (.both mediaPlanar (.codes 90 90 [0]))), f "" 143 143 .mbz,
     f "X Offset for V(Cr)" 157 144 (.u 0) (.both mediaPlanar (.codes 90 90 [0])),
     f "" 144 144 .mbz (.both mediaPlanar (.codes 90 90 [0])),
     f "" 157 144 .reserved (.unless (.both mediaPlanar (.codes 90 90 [0]))), f "" 159 158 .mbz,
     f "Surface Memory Object Control State" 166 160 .raw, f "" 177 167 .mbz,
     f "Tiled Resource Mode" 179 178 (.codes [0, 1, 2]), f "" 179 178 .mbz (.unless (.codes 65 64 [3])),
     f "" 183 180 .mbz, f "" 189 184 .mbz, f "Vertical Line Stride Offset" 190 190 .raw (.given "sample_8x8"),
     f "" 190 190 .mbz (.codes 191 191 [0]), f "Vertical Line Stride" 191 191 .raw (.given "sample_8x8"),
     f "" 191 190 .mbz (.unless (.given "sample_8x8"))] ++
    [f "Surface Base Address" 239 192 (.address 0), f "" 203 192 .mbz (.unless mediaLinear),
     f "" 207 192 .mbz (.codes 179 178 [2]), f "" 255 240 .mbz]

/-- MEMORY_OBJECT_CONTROL_STATE (R435). -/
def layoutMemoryObjectControlState : Layout where
  name := "MEMORY_OBJECT_CONTROL_STATE"
  words := 1
  bits := 7
  fields :=
    [f "" 0 0 .reserved, f "Index to MOCS Tables" 6 1 .raw]

/-- Of a RENDER_SURFACE_STATE: it is not the null surface, whose other fields are ignored (R438). -/
def surfaceShown : FieldCond := .codes 31 29 [0, 1, 2, 3, 4, 5]

/-- Of a RENDER_SURFACE_STATE: the surface format is a PLANAR one (R436). -/
def surfacePlanar : FieldCond := .both surfaceShown (.given "PLANAR")

/-- Of a RENDER_SURFACE_STATE: the surface format is no PLANAR one (R436). -/
def surfacePacked : FieldCond := .both surfaceShown (.unless (.given "PLANAR"))

/-- Of a RENDER_SURFACE_STATE: the auxiliary surface is a colour control surface (R450, R455). -/
def surfaceCcs : FieldCond := .both surfacePacked (.codes 194 192 [1, 5])

/-- A colour clear value of a UINT surface format (R455). -/
def clearUint : FieldCond := .both surfaceCcs (.given "UINT")

/-- A colour clear value of a SINT surface format (R455). -/
def clearSint : FieldCond := .both surfaceCcs (.given "SINT")

/-- A colour clear value of another surface format (R455). -/
def clearFloat : FieldCond := .both surfaceCcs (.both (.unless (.given "UINT")) (.unless (.given "SINT")))

/-- RENDER_SURFACE_STATE (R436). -/
def layoutRenderSurfaceState : Layout where
  name := "RENDER_SURFACE_STATE"
  words := 16
  fields :=
    [f "Cube Face Enable (six bits)" 5 0 .raw (.codes 31 29 [3]), f "" 5 0 .mbz (.codes 31 29 [0, 1, 2, 4, 5]),
     f "Media Boundary Pixel Mode" 7 6 (.codes [0, 2, 3]) surfaceShown,
     f "Render Cache Read Write Mode" 8 8 .raw, f "Sampler L2 out of order mode Disable" 9 9 .raw,
     f "Vertical Line Stride Offset" 10 10 .raw, f "Vertical Line Stride" 11 11 .raw, f "Tile Mode" 13 12 .raw,
     f "Surface Horizontal Alignment" 15 14 (.codes [1, 2, 3]) (.codes 31 29 [1, 2, 3]),
     f "Surface Vertical Alignment" 17 16 (.codes [1, 2, 3]) (.codes 31 29 [1, 2, 3]), f "Surface Format" 26 18 .raw,
     f "ASTC_Enable" 27 27 .raw, f "Surface Array" 28 28 .raw, f "Surface Type" 31 29 (.codes [0, 1, 2, 3, 4, 5, 7]),
     f "Surface QPitch" 46 32 (.scaled 2), f "" 47 47 .mbz surfaceShown,
     f "" 48 48 .mbz surfaceShown, f "" 49 49 .mbz surfaceShown,
     f "" 50 50 .mbz surfaceShown, (f "Base Mip Level" 55 51 (.u 1)).within 0 28,
     f "Memory Object Control State" 62 56 .raw, f "" 63 63 .mbz surfaceShown,
     f "Width" 77 64 .count, f "" 79 78 .mbz surfaceShown, f "Height" 93 80 .count,
     f "" 95 94 .mbz surfaceShown, f "Surface Pitch" 113 96 .count,
     f "" 114 114 .mbz surfaceShown, f "" 115 115 .mbz surfaceShown,
     f "" 116 116 .mbz surfaceShown, f "Depth" 127 117 .count,
     f "" 159 128 .mbz (.codes 31 29 [5]),
     f "Multisample Position Palette Index" 130 128 .raw (.codes 31 29 [0, 1, 2, 3, 4]),
     f "Number of Multisamples" 133 131 (.codes [0, 1, 2, 3, 4]) (.codes 31 29 [0, 1, 2, 3, 4]),
     f "Multisampled Surface Storage Format" 134 134 .raw (.codes 31 29 [0, 1, 2, 3, 4]),
     f "Render Target View Extent" 145 135 .count (.codes 31 29 [0, 1, 2, 3, 4])] ++
    [f "Minimum Array Element" 156 146 (.u 0) (.codes 31 29 [0, 1, 2, 3, 4]),
     f "Render Target And Sample Unorm Rotation" 158 157 .raw (.codes 31 29 [0, 1, 2, 3, 4]),
     f "" 159 159 .mbz (.codes 31 29 [0, 1, 2, 3, 4]), (f "MIP Count / LOD" 163 160 (.u 0)).within 0 14,
     f "Surface Min LOD" 167 164 (.u 0), f "Mip Tail Start LOD" 171 168 (.u 0),
     f "" 173 172 .mbz surfaceShown, f "Coherency Type" 174 174 .raw,
     f "" 175 175 .mbz surfaceShown, f "" 177 176 .mbz surfaceShown,
     f "Tiled Resource Mode" 179 178 (.codes [0, 1, 2]) surfaceShown,
     f "EWA Disable For Cube" 180 180 .raw, f "Y Offset" 183 181 (.scaled 2),
     f "" 184 184 .mbz surfaceShown, f "X Offset" 191 185 (.scaled 2),
     f "Y Offset for U or UV Plane" 205 192 (.u 0) surfacePlanar, f "" 206 206 .mbz surfacePlanar,
     f "" 207 207 .mbz surfacePlanar, f "X Offset for U or UV Plane" 221 208 (.u 0) surfacePlanar,
     f "" 209 208 .mbz surfacePlanar, f "" 222 222 .mbz surfacePlanar, f "Separate UV Plane Enable" 223 223 .mbz surfacePlanar,
     f "Auxiliary Surface Mode" 194 192 (.codes [0, 1, 2, 3, 5]) surfacePacked,
     f "Auxiliary Surface Pitch" 203 195 .count surfacePacked, f "" 206 204 .mbz surfacePacked,
     f "" 207 207 .mbz surfacePacked, f "Auxiliary Surface QPitch" 222 208 (.scaled 2) surfacePacked,
     f "" 223 223 .mbz surfacePacked] ++
    [(f "Resource Min LOD" 235 224 (.u 8)).within 0 3584,
     f "" 239 236 .mbz surfaceShown,
     f "Shader Channel Select Alpha" 242 240 (.codes [0, 1, 4, 5, 6, 7]) surfaceShown,
     f "Shader Channel Select Blue" 245 243 (.codes [0, 1, 4, 5, 6, 7]) surfaceShown,
     f "Shader Channel Select Green" 248 246 (.codes [0, 1, 4, 5, 6, 7]) surfaceShown,
     f "Shader Channel Select Red" 251 249 (.codes [0, 1, 4, 5, 6, 7]) surfaceShown,
     f "" 252 252 .reserved surfaceShown, f "" 253 253 .mbz surfaceShown,
     f "Memory Compression Enable" 254 254 .raw] ++
    [f "Memory Compression Mode" 255 255 .raw, f "Surface Base Address" 319 256 (.address 0) surfaceShown,
     f "Quilt Width" 324 320 (.codes [0, 1, 3, 7, 15, 31]) surfaceShown,
     f "Quilt Height" 329 325 (.codes [0, 1, 3, 7, 15, 31]) surfaceShown, f "" 330 330 .mbz surfaceShown,
     f "" 331 331 .mbz surfaceShown,
     f "Auxiliary Surface Base Address" 383 332 (.address 12) (.both surfacePacked (.codes 254 254 [0])),
     f "Auxiliary Table Index for Media Compressed Surface" 351 341 (.u 0) (.codes 254 254 [1]),
     f "" 351 332 .reserved (.both surfacePlanar (.codes 254 254 [0])), f "" 383 382 .mbz surfacePlanar,
     f "X Offset for V Plane" 381 368 (.u 0) surfacePlanar, f "" 367 366 .mbz surfacePlanar,
     f "Y Offset for V Plane" 365 352 (.u 0) surfacePlanar,
     f "Red Clear Color" 415 384 (.u 0) clearUint, f "Red Clear Color" 415 384 (.s 0) clearSint,
     f "Red Clear Color" 415 384 .float clearFloat, f "Green Clear Color" 447 416 (.u 0) clearUint,
     f "Green Clear Color" 447 416 (.s 0) clearSint, f "Green Clear Color" 447 416 .float clearFloat,
     f "Blue Clear Color" 479 448 (.u 0) clearUint, f "Blue Clear Color" 479 448 (.s 0) clearSint,
     f "Blue Clear Color" 479 448 .float clearFloat, f "Alpha Clear Color" 511 480 (.u 0) clearUint,
     f "Alpha Clear Color" 511 480 (.s 0) clearSint, f "Alpha Clear Color" 511 480 .float clearFloat] ++
    [f "Hierarchical Depth Clear Value" 415 384 .float (.both surfacePacked (.codes 194 192 [3])),
     f "" 415 384 .mbz (.both surfaceShown (.unless (.both surfacePacked (.codes 194 192 [1, 3, 5])))),
     f "" 511 416 .mbz (.both surfaceShown (.unless surfaceCcs))]

/-- SW Generated BINDING_TABLE_STATE (R456). -/
def layoutSwGeneratedBindingTableState : Layout where
  name := "SW Generated BINDING_TABLE_STATE"
  words := 1
  fields :=
    [f "" 5 0 .mbz, f "Surface State Pointer" 31 6 (.scaled 6)]

/-- Filter_Coefficient (R457). -/
def layoutFilterCoefficient : Layout where
  name := "Filter_Coefficient"
  words := 1
  bits := 8
  fields :=
    [(f "Filter Coefficient" 7 0 (.s 6)).within (-127) 127]

/-- Filter_Coefficients (R458): eight of the format of R457. -/
def layoutFilterCoefficients : Layout where
  name := "Filter_Coefficients"
  words := 2
  fields := (List.range 8).map fun k =>
    (f ("Filter Coefficient Offset " ++ toString k) (8 * k + 7) (8 * k) (.s 6)).within (-127) 127

/-- PALETTE_ENTRY (R459). -/
def layoutPaletteEntry : Layout where
  name := "PALETTE_ENTRY"
  words := 1
  fields :=
    [f "Blue" 7 0 (.u 0), f "Green" 15 8 (.u 0), f "Red" 23 16 (.u 0), f "Alpha" 31 24 (.u 0)]

/-- Texture Border Color Mode of the sampler is DX9 (R466). -/
def borderDx9 : FieldCond := .given "DX9"

/-- The mode is DX10/OGL and the surface format is UINT (R461: IsUnsigned). -/
def borderUint : FieldCond := .both (.unless borderDx9) (.given "UINT")

/-- The mode is DX10/OGL and the surface format is SINT (R461: IsSigned). -/
def borderSint : FieldCond := .both (.unless borderDx9) (.given "SINT")

/-- The mode is DX10/OGL and the surface format is neither (R460, R461: IsFloat). -/
def borderFloat : FieldCond := .both (.unless borderDx9) (.both (.unless (.given "UINT")) (.unless (.given "SINT")))

/-- The rows of one border colour channel in DX10/OGL mode, by the class of the surface format (C57). -/
def borderChannel (name : String) (k : Nat) : List LayoutField :=
  [f name (32 * k + 31) (32 * k) .float borderFloat, f name (32 * k + 31) (32 * k) (.u 0) borderUint,
   f name (32 * k + 31) (32 * k) (.s 0) borderSint]

/-- The four channels in DX10/OGL mode. -/
def borderChannels : List LayoutField :=
  borderChannel "Border Color Red" 0 ++ borderChannel "Border Color Green" 1 ++ borderChannel "Border Color Blue" 2 ++
    borderChannel "Border Color Alpha" 3

/-- The four channels in DX9 mode, in one format. -/
def borderBytes (format : FieldFormat) : List LayoutField :=
  [f "Border Color Red" 7 0 format borderDx9, f "Border Color Green" 15 8 format borderDx9,
   f "Border Color Blue" 23 16 format borderDx9, f "Border Color Alpha" 31 24 format borderDx9]

/-- SAMPLER_BORDER_COLOR_STATE (R460). -/
def layoutSamplerBorderColorState : Layout where
  name := "SAMPLER_BORDER_COLOR_STATE"
  words := 4
  fields := borderBytes .unorm ++ borderChannels

/-- SAMPLER_INDIRECT_STATE_BORDER_COLOR (R461). -/
def layoutSamplerIndirectStateBorderColor : Layout where
  name := "SAMPLER_INDIRECT_STATE_BORDER_COLOR"
  words := 4
  fields := borderBytes (.u 0) ++ [f "" 127 32 .mbz borderDx9] ++ borderChannels

/-- SAMPLER_INDIRECT_STATE (R462). -/
def layoutSamplerIndirectState : Layout where
  name := "SAMPLER_INDIRECT_STATE"
  words := 16
  fields := borderBytes .unorm ++ [f "" 127 32 .mbz borderDx9] ++ borderChannels ++ [f "" 511 128 .reserved]

/-- The surface format is R10G10B10A2_UNORM or R8G8B8A8_UNORM (R463). -/
def avsRgb : FieldCond := .given "R10G10B10A2_UNORM or R8G8B8A8_UNORM"

/-- SAMPLER_STATE_8x8_AVS_COEFFICIENTS (R463). -/
def layoutSamplerState8x8AvsCoefficients : Layout where
  name := "SAMPLER_STATE_8x8_AVS_COEFFICIENTS"
  words := 8
  fields :=
    [f "Table 0X Filter Coefficient 0" 7 0 (.s 6), f "Table 0Y Filter Coefficient 0" 15 8 (.s 6),
     f "Table 0X Filter Coefficient 1" 23 16 (.s 6), f "Table 0Y Filter Coefficient 1" 31 24 (.s 6),
     f "Table 0X Filter Coefficient 2" 39 32 (.s 6), f "Table 0Y Filter Coefficient 2" 47 40 (.s 6),
     f "Table 0X Filter Coefficient 3" 55 48 (.s 6), f "Table 0Y Filter Coefficient 3" 63 56 (.s 6),
     f "Table 0X Filter Coefficient 4" 71 64 (.s 6), f "Table 0Y Filter Coefficient 4" 79 72 (.s 6),
     f "Table 0X Filter Coefficient 5" 87 80 (.s 6), f "Table 0Y Filter Coefficient 5" 95 88 (.s 6),
     f "Table 0X Filter Coefficient 6" 103 96 (.s 6), f "Table 0Y Filter Coefficient 6" 111 104 (.s 6),
     f "Table 0X Filter Coefficient 7" 119 112 (.s 6), f "Table 0Y Filter Coefficient 7" 127 120 (.s 6),
     f "" 15 0 .mbz avsRgb, f "" 79 64 .mbz avsRgb, f "" 143 128 .mbz,
     f "Table 1X Filter Coefficient 2" 151 144 (.s 6),
     f "Table 1X Filter Coefficient 3" 159 152 (.s 6), f "Table 1X Filter Coefficient 4" 167 160 (.s 6),
     f "Table 1X Filter Coefficient 5" 175 168 (.s 6), f "" 191 176 .mbz, f "" 207 192 .mbz,
     f "Table 1Y Filter Coefficient 2" 215 208 (.s 6), f "Table 1Y Filter Coefficient 3" 223 216 (.s 6),
     f "Table 1Y Filter Coefficient 4" 231 224 (.s 6), f "Table 1Y Filter Coefficient 5" 239 232 (.s 6),
     f "" 255 240 .mbz]

/-- SAMPLER_STATE_8x8_AVS (R464). -/
def layoutSamplerState8x8Avs : Layout where
  name := "SAMPLER_STATE_8x8_AVS"
  words := 280
  fields :=
    [f "Gain Factor" 5 0 (.u 0), f "Weak Edge Threshold" 11 6 (.u 0), f "Strong Edge Threshold" 17 12 (.u 0),
     f "R3x Coefficient" 22 18 (.u 5), f "R3c Coefficient" 27 23 (.u 5), f "" 31 28 .mbz, f "" 63 32 .mbz,
     f "Global Noise Estimation" 71 64 (.u 0), f "Non Edge Weight" 74 72 (.u 0), f "Regular Weight" 77 75 (.u 0),
     f "Strong Edge Weight" 80 78 (.u 0), f "R5x Coefficient" 85 81 (.u 5), f "R5cx Coefficient" 90 86 (.u 5),
     f "R5c Coefficient" 95 91 (.u 5), f "Sin(alpha)" 103 96 (.s 7), f "Cos(alpha)" 111 104 (.s 7),
     f "Sat_Max" 117 112 (.u 0), f "Hue_Max" 123 118 (.u 0), f "Enable 8-tap filter" 125 124 .raw,
     f "IEF4Smooth_Enable" 126 126 (.u 0), f "Skin Tone Tuned IEF _ Enable" 127 127 (.u 0), f "S3U" 138 128 (.s 8),
     f "Shuffle_OutputWriteback for sample_8x8" 139 139 (.u 0), f "Diamond Margin" 142 140 (.u 0),
     f "VY_STD_Enable" 143 143 .raw, f "U_Mid" 151 144 (.u 0), f "V_Mid" 159 152 (.u 0),
     f "Diamond_dv" 166 160 (.s 0), f "Diamond_Th" 172 167 (.u 0), f "Diamond_alpha" 180 173 (.u 6),
     f "HS_margin" 183 181 (.u 0), f "Diamond_du" 190 184 (.s 0), f "SkinDetailFactor" 191 191 .sign,
     f "Y_point_1" 199 192 (.u 0), f "Y_point_2" 207 200 (.u 0), f "Y_point_3" 215 208 (.u 0)] ++
    [f "Y_point_4" 223 216 (.u 0), f "INV_Margin_VYL" 239 224 (.u 16), f "" 255 240 .mbz,
     f "INV_Margin_VYU" 271 256 (.u 16), f "P0L" 279 272 (.u 0), f "P1L" 287 280 (.u 0), f "P2L" 295 288 (.u 0),
     f "P3L" 303 296 (.u 0), f "B0L" 311 304 (.u 0), f "B1L" 319 312 (.u 0), f "B2L" 327 320 (.u 0),
     f "B3L" 335 328 (.u 0), f "S0L" 346 336 (.s 8), f "Y_Slope_2" 351 347 (.u 3), f "S1L" 362 352 (.s 8),
     f "S2L" 373 363 (.s 8), f "" 383 374 .mbz, f "S3L" 394 384 (.s 8), f "P0U" 402 395 (.u 0),
     f "P1U" 410 403 (.u 0), f "Y_Slope1" 415 411 (.u 3), f "P2U" 423 416 (.u 0), f "P3U" 431 424 (.u 0),
     f "B0U" 439 432 (.u 0), f "B1U" 447 440 (.u 0), f "B2U" 455 448 (.u 0), f "B3U" 463 456 (.u 0),
     f "S0U" 474 464 (.s 8), f "" 479 475 .mbz, f "S1U" 490 480 (.s 8), f "S2U" 501 491 (.s 8), f "" 511 502 .mbz,
     f "Transition Area with 8 Pixels" 4866 4864 (.u 0), f "" 4867 4867 .mbz,
     f "Transition Area with 4 Pixels" 4870 4868 (.u 0), f "" 4871 4871 .mbz] ++
    [f "Max Derivative 8 Pixels" 4879 4872 (.u 0), f "Max Derivative 4 Pixels" 4887 4880 (.u 0),
     f "Default Sharpness Level" 4895 4888 (.u 0), f "RGB Adaptive" 4896 4896 .raw,
     f "Adaptive Filter for all channels" 4897 4897 .raw, f "" 4916 4898 .mbz,
     f "Bypass Y Adaptive Filtering" 4917 4917 .raw, f "Bypass X Adaptive Filtering" 4918 4918 .raw,
     f "" 4927 4919 .mbz, f "" 5119 4928 .mbz] ++
    (List.range 17).flatMap (fun n => layoutSamplerState8x8AvsCoefficients.at (16 + 8 * n)) ++
    (List.range 15).flatMap (fun n => layoutSamplerState8x8AvsCoefficients.at (160 + 8 * n))
  default := [0x0294806C, 0, 0x39CFD1FF, 0x839F0000, 0x9A6E4000, 0x02601180, 0xFFFE2F2E, 0, 0xD82E0000, 0x8285ECEC,
    0x00008282, 0, 0x02117000, 0xA38FEC96, 0x00008CC8]

/-- What MAPFILTER_MONO and ANISOTROPIC require of a sampler (R466, R467, R469): both filters MONO, no mip filter, Min LOD 0 and
the border addressing mode; no chroma key. -/
def samplerMono : List LayoutField :=
  [f "" 39 39 .mbz (.codes 16 14 [2, 6]), f "" 39 39 .mbz (.codes 19 17 [2, 6]), f "" 19 17 (.codes [6]) (.codes 16 14 [6]),
   f "" 16 14 (.codes [6]) (.codes 19 17 [6]), f "" 21 20 .mbz (.codes 16 14 [6]), f "" 63 52 .mbz (.codes 16 14 [6]),
   f "" 98 96 (.codes [4]) (.codes 16 14 [6]), f "" 101 99 (.codes [4]) (.codes 16 14 [6]),
   f "" 104 102 (.codes [4]) (.codes 16 14 [6])]

/-- What Non-normalized Coordinate Enable requires of a sampler (R469). -/
def samplerUnnormalized : List LayoutField :=
  [f "" 98 96 (.codes [2, 4, 6]) (.codes 106 106 [1]), f "" 101 99 (.codes [2, 4, 6]) (.codes 106 106 [1]),
   f "" 104 102 (.codes [2, 4, 6]) (.codes 106 106 [1]), f "" 19 17 (.codes [0, 1]) (.codes 106 106 [1]),
   f "" 16 14 (.codes [0, 1]) (.codes 106 106 [1]), f "" 21 20 .mbz (.codes 106 106 [1]), f "" 13 1 .mbz (.codes 106 106 [1]),
   f "" 51 40 .mbz (.codes 106 106 [1]), f "" 63 52 .mbz (.codes 106 106 [1])]

/-- SAMPLER_STATE (R465-R469). -/
def layoutSamplerState : Layout where
  name := "SAMPLER_STATE"
  words := 4
  fields :=
    [f "LOD algorithm" 0 0 .raw, f "Texture LOD Bias" 13 1 (.s 8), f "Min Mode Filter" 16 14 (.codes [0, 1, 2, 6]),
     f "Mag Mode Filter" 19 17 (.codes [0, 1, 2, 6]), f "Mip Mode Filter" 21 20 (.codes [0, 1, 3]),
     f "Coarse LOD Quality Mode" 26 22 (.u 0), f "LOD PreClamp Mode" 28 27 (.codes [0, 2]),
     f "Texture Border Color Mode" 29 29 .raw, f "" 30 30 .reserved, f "Sampler Disable" 31 31 .raw,
     f "Cube Surface Control Mode" 32 32 (.codes [0]), f "Shadow Function" 35 33 .raw, f "ChromaKey Mode" 36 36 .raw,
     f "ChromaKey Index" 38 37 (.u 0), f "ChromaKey Enable" 39 39 .raw, (f "Max LOD" 51 40 (.u 8)).within 0 3584,
     (f "Min LOD" 63 52 (.u 8)).within 0 3584, f "LOD Clamp Magnification Mode" 64 64 (.u 0), f "" 65 65 .reserved,
     f "" 66 66 .reserved, f "" 67 67 .reserved, f "" 68 68 .reserved, f "" 69 69 .mbz,
     f "Indirect State Pointer" 87 70 (.scaled 6), f "" 95 88 .reserved, f "TCZ Address Control Mode" 98 96 .raw,
     f "TCY Address Control Mode" 101 99 .raw, f "TCX Address Control Mode" 104 102 .raw,
     f "Reduction Type Enable" 105 105 .raw, f "Non-normalized Coordinate Enable" 106 106 .raw,
     f "Trilinear Filter Quality" 108 107 .raw, f "R Address Min Filter Rounding Enable" 109 109 .raw,
     f "R Address Mag Filter Rounding Enable" 110 110 .raw, f "V Address Min Filter Rounding Enable" 111 111 .raw,
     f "V Address Mag Filter Rounding Enable" 112 112 .raw, f "U Address Min Filter Rounding Enable" 113 113 .raw] ++
    [f "U Address Mag Filter Rounding Enable" 114 114 .raw, f "Maximum Anisotropy" 117 115 .raw,
     f "Reduction Type" 119 118 .raw, f "" 121 120 .mbz, f "" 127 122 .reserved] ++
    samplerMono ++ samplerUnnormalized

/-- SFC_8x8_AVS_COEFFICIENTS (R470). -/
def layoutSfc8x8AvsCoefficients : Layout where
  name := "SFC_8x8_AVS_COEFFICIENTS"
  words := 8
  fields :=
    [f "ZeroXFilterCoefficient0" 7 0 (.s 6), f "ZeroYFilterCoefficient0" 15 8 (.s 6),
     f "ZeroXFilterCoefficient1" 23 16 (.s 6), f "ZeroYFilterCoefficient1" 31 24 (.s 6),
     f "ZeroXFilterCoefficient2" 39 32 (.s 6), f "ZeroYFilterCoefficient2" 47 40 (.s 6),
     f "ZeroXFilterCoefficient3" 55 48 (.s 6), f "ZeroYFilterCoefficient3" 63 56 (.s 6),
     f "ZeroXFilterCoefficient4" 71 64 (.s 6), f "ZeroYFilterCoefficient4" 79 72 (.s 6),
     f "ZeroXFilterCoefficient5" 87 80 (.s 6), f "ZeroYFilterCoefficient5" 95 88 (.s 6),
     f "ZeroXFilterCoefficient6" 103 96 (.s 6), f "ZeroYFilterCoefficient6" 111 104 (.s 6),
     f "ZeroXFilterCoefficient7" 119 112 (.s 6), f "ZeroYFilterCoefficient7" 127 120 (.s 6), f "" 143 128 .mbz,
     (f "OneXFilterCoefficient2" 151 144 (.s 6)).within (-64) 63, f "OneXFilterCoefficient3" 159 152 (.s 6),
     f "OneXFilterCoefficient4" 167 160 (.s 6), (f "OneXFilterCoefficient5" 175 168 (.s 6)).within (-64) 63, f "" 191 176 .mbz,
     f "" 207 192 .mbz, (f "OneYFilterCoefficient2" 215 208 (.s 6)).within (-64) 63, f "OneYFilterCoefficient3" 223 216 (.s 6),
     f "OneYFilterCoefficient4" 231 224 (.s 6), (f "OneYFilterCoefficient5" 239 232 (.s 6)).within (-64) 63, f "" 255 240 .mbz]

end Sys2Proof.Machine
end

