-- ==== Sys2Proof/Machine/PipelineFunctions.lean ====
section
/-! DEFINITION. What 45_3d_pipeline_state.md says its structures mean, as functions (R400-R427). The commands that carry the
structures are in volumes the spec does not have; a step applies those whose structures reach the machine. -/

namespace Sys2Proof.Machine

/-- The read-length rule of 3DSTATE_CONSTANT(Body) (R402): at most 64 in all, a disabled buffer's pointer zero; with gather
constants on, buffer 1 is read exactly when a gather command came before. -/
def constantBodyOk (v : Nat) (gather preceding : Bool) : Bool :=
  let len (k : Nat) := structureBits (16 * k + 15) (16 * k) v
  let ptr (k : Nat) := structureBits (64 * k + 127) (64 * k + 69) v
  decide (len 0 + len 1 + len 2 + len 3 ≤ 64) && (List.range 4).all (fun k => len k != 0 || ptr k == 0) &&
    (!gather || (len 1 != 0) == preceding)

/-- The low 43 bits of a pointer field 63:5, as an address (R35). -/
def pointerLow (field : BitVec 59) : BitVec 48 := field.extractLsb' 0 43 ++ 0#5

/-- A pointer of bits 63:5 as an address: bits 47:5, sign extended from bit 47 (R401, R403). -/
def canonicalPointer (field : BitVec 59) : QWord := (pointerLow field).signExtend 64

/-- The byte address a canonical pointer names: its low 48 bits (R20, R38). -/
def pointedAt (p : QWord) : Nat := p.toNat % addressLimit

/-- The address of constant buffer 0: the pointer, or an offset from the Dynamic State Base Address when the debug register
says so (R403). A sum is not wrapped (R21). -/
def constantBuffer0 (c : Context) (offsetDisable : Bool) (field : BitVec 59) : Nat :=
  if offsetDisable then pointedAt (canonicalPointer field) else c.dynamicBase.toNat + (pointerLow field).toNat

/-- The address of constant buffer 1: an offset from the gather pool with gather constants on (R404). A sum is not wrapped
(R21). -/
def constantBuffer1 (gatherPool : QWord) (gather : Bool) (field : BitVec 59) : Nat :=
  if gather then gatherPool.toNat + (field ++ 0#5).toNat else pointedAt (canonicalPointer field)

/-- The constant data of a buffer (R400, R401): `len` units of 32 bytes at its address; when the length is 0 none is fetched. An
address at or above 2^48 is refused (R21, 93 section 1.2). -/
def constantData (s : State) (a len : Nat) : Exec (List Byte) := do
  if len = 0 then return []
  s.checkAccess a (32 * len)
  return (List.range (32 * len)).map fun k => Memory.read s.mem (a + k)

/-- The read lengths of all pointers sum to at most 64 (R400). -/
def constantAllOk (vs : List Nat) : Bool := decide ((vs.map (structureBits 4 0)).sum ≤ 64)

/-- The constant data that the 3DSTATE_CONSTANT_ALL_DATA structures of a command load, by pointer (R400). -/
def constantAllData (s : State) (vs : List Nat) : Exec (List (List Byte)) := do
  require (vs.all (layout3dstateConstantAllData.wf ·) && constantAllOk vs) (.stateStructure "3DSTATE_CONSTANT_ALL_DATA")
  sequence (vs.map fun v => do
    constantData s (← graphicsAddress63 5 (structureBits 63 5 v)) (structureBits 4 0 v))

/-- The commands' settings that 3DSTATE_CONSTANT(Body) is read under (R403, R404). -/
structure ConstantMode where
  offsetDisable : Bool
  gather : Bool
  preceding : Bool
  gatherPool : QWord
deriving DecidableEq, Repr

/-- The address of buffer `k` of 3DSTATE_CONSTANT(Body) (R401, R403, R404). -/
def constantAddress (c : Context) (mode : ConstantMode) (v : Nat) (k : Fin 4) : Nat :=
  let field := BitVec.ofNat 59 (structureBits (64 * k.val + 127) (64 * k.val + 69) v)
  match k with
  | 0 => constantBuffer0 c mode.offsetDisable field
  | 1 => constantBuffer1 mode.gatherPool mode.gather field
  | _ => pointedAt (canonicalPointer field)

/-- The constant data of buffer `k` of 3DSTATE_CONSTANT(Body) (R401-R404). -/
def constantBodyData (s : State) (mode : ConstantMode) (v : Nat) (k : Fin 4) : Exec (List Byte) := do
  require (layout3dstateConstantBody.wf v && constantBodyOk v mode.gather mode.preceding)
    (.stateStructure "3DSTATE_CONSTANT(Body)")
  constantData s (constantAddress s.ctx mode v k) (structureBits (16 * k.val + 15) (16 * k.val) v)

/-- Element `i` of an array of structures, `stride` bytes apart, whose first is aligned. -/
def arrayElement (align stride limit base i : Nat) : Exec Nat := do
  require (decide (base % align = 0) && decide (i < limit)) (.stateStructure "ArrayElement")
  require (decide (base + stride * (i + 1) ≤ addressLimit)) .addressSum
  return base + stride * i

/-- BLEND_STATE: the common DWord and eight entries (R405). -/
def layoutBlendState : Layout where
  name := "BLEND_STATE"
  words := 17
  fields :=
    [Layout.f "" 18 0 .mbz, Layout.f "Y Dither Offset" 20 19 (.u 0), Layout.f "X Dither Offset" 22 21 (.u 0),
     Layout.f "Color Dither Enable" 23 23 .raw, Layout.f "Alpha Test Function" 26 24 .raw,
     Layout.f "Alpha Test Enable" 27 27 .raw, Layout.f "Alpha To Coverage Dither Enable" 28 28 .raw,
     Layout.f "Alpha To One Enable" 29 29 .raw, Layout.f "Independent Alpha Blend Enable" 30 30 .raw,
     Layout.f "Alpha To Coverage Enable" 31 31 .raw] ++
    (List.range 8).flatMap (fun k => layoutBlendStateEntry.at (1 + 2 * k))

/-- What BLEND_STATE requires (R405-R407): no Alpha To One beside dual source blending, no alpha test without a float alpha,
no dither and no write disable on a YUV target. -/
def blendStateOk (v : Nat) (dualSource floatAlpha yuv : Bool) : Bool :=
  !(structureBits 29 29 v == 1 && dualSource) && !(structureBits 27 27 v == 1 && !floatAlpha) &&
    !(yuv && (structureBits 23 23 v == 1 || (List.range 8).any fun k => structureBits (64 * k + 35) (64 * k + 32) v != 0))

/-- The entry of BLEND_STATE that a message's Render Target Index selects (R405, R249). -/
def blendEntry (v : Nat) (target : BitVec 3) : Nat := structureBits (64 * target.toNat + 95) (64 * target.toNat + 32) v

/-- The legal clamp enables of a blend entry, and no logic operation beside blending (R407). -/
def blendEntryOk (v : Nat) : Bool :=
  let sourceOnly := structureBits 36 36 v
  let pre := structureBits 33 33 v
  let post := structureBits 32 32 v
  layoutBlendStateEntry.wf v && [(0, 0, 0), (0, 1, 1), (1, 0, 0)].contains (sourceOnly, pre, post) &&
    !(structureBits 63 63 v == 1 && structureBits 31 31 v == 1)

/-- The BLEND_STATE at an address (R405): aligned to 64 bytes, with eight legal entries (R407, 93 section 1.1), and what its use
requires: whether there is dual source blending, a float alpha, a YUV target. -/
def readBlendState (s : State) (addr : Nat) (dualSource floatAlpha yuv : Bool) : Exec Nat := do
  require (decide (addr % 64 = 0)) (.stateStructure "BLEND_STATE")
  let v ← layoutBlendState.read s addr
  require (blendStateOk v dualSource floatAlpha yuv) (.stateStructure "BLEND_STATE")
  require ((List.range 8).all fun k => blendEntryOk (blendEntry v (BitVec.ofNat 3 k))) (.stateStructure "BLEND_STATE_ENTRY")
  return v

/-- Whether a float is at most another, false for a NaN. -/
def floatLe (a b : DWord) : Bool :=
  match compareNum (decodeFloat .f a.toNat) (decodeFloat .f b.toNat) with
  | some .gt => false
  | some _ => true
  | none => false

/-- 1.0. -/
def floatOne : DWord := 0x3F800000#32

/-- Alpha To Coverage (R405): the samples of a pixel that an alpha covers, all of them without it; alpha 0 covers none, 1 all,
and more alpha never covers fewer. -/
def alphaCoverage (v : Nat) (alpha : DWord) (samples : Nat) (xy : Nat × Nat) : BitVec 16 :=
  let at' := if structureBits 28 28 v = 1 then xy else (0, 0)
  if structureBits 31 31 v = 0 then 0xFFFF#16
  else (List.range samples).foldl (fun w k =>
    let covered := floatLe floatOne alpha ||
      (!floatLe alpha 0#32 && floatLe (Config.coverageThreshold samples k at') alpha)
    if covered then w ||| 1#16 <<< k else w) 0#16

/-- The sample mask after Alpha To Coverage (R405): the coverage is ANDed with the sample mask. -/
def coveredSamples (v : Nat) (alpha : DWord) (samples : Nat) (xy : Nat × Nat) (mask : BitVec 16) : BitVec 16 :=
  mask &&& alphaCoverage v alpha samples xy

/-- A colour before it is written (R405): dithered, where Color Dither Enable says so, by the dither table at the pixel's
coordinate bits with the offsets added; but where the round disable function cancels that (R410: unless COLOR_CALC_STATE disables
it) because of the data that the blend of `entry` uses. That two bits of each coordinate are used is DEDUCED from the offsets'
width (log 57). -/
def ditheredColour (v color entry : Nat) (inputs : List DWord) (format : BitVec 10) (xy : Nat × Nat) (channel : Nat) (x : DWord) :
    DWord :=
  let cancelled := structureBits 15 15 color == 0 && Config.ditherCancelled entry inputs channel
  if structureBits 23 23 v = 1 && !cancelled then
    Config.dither format ((xy.1 + structureBits 22 21 v) % 4, (xy.2 + structureBits 20 19 v) % 4) channel x
  else x

/-- Alpha To One (R405): source 0 alpha after its use for coverage. -/
def alphaToOne (v : Nat) (alpha : DWord) : DWord := if structureBits 29 29 v = 1 then floatOne else alpha

/-- Source factor, destination factor and function that combine the alpha components (R405, R407): the alpha ones with
Independent Alpha Blend, else the colour ones. -/
def alphaBlend (v entry : Nat) : Nat × Nat × Nat :=
  if structureBits 30 30 v = 1 then (structureBits 17 13 entry, structureBits 12 8 entry, structureBits 7 5 entry)
  else (structureBits 30 26 entry, structureBits 25 21 entry, structureBits 20 18 entry)

/-- The order of an alpha and the reference value, in the Alpha Test Format (R410). An alpha is taken as a float whatever the
shader wrote. -/
def alphaOrder (color : Nat) (alpha : DWord) : Option Ordering :=
  if structureBits 0 0 color = 1 then
    compareNum (decodeFloat .f alpha.toNat) (decodeFloat .f (structureBits 63 32 color))
  else some (Ord.compare (Config.unorm8 alpha).toNat (structureBits 39 32 color))

/-- Whether one render target's alpha passes the alpha test (R405, R406, R410). -/
def alphaPasses (v color : Nat) (alpha : DWord) : Bool :=
  structureBits 27 27 v == 0 ||
    Config.compareFunction (BitVec.ofNat 3 (structureBits 26 24 v)) (alphaOrder color alpha)

/-- The alpha test over the render targets (R406): which colour writes happen, and whether depth and stencil are updated. -/
def alphaTest (v color : Nat) (alphas : List DWord) : List Bool × Bool :=
  let passes := alphas.map (alphaPasses v color)
  (passes, passes.any id)

/-- The clamps of a blend entry (R407), before blending sources only, before blending, after blending: none for UINT and SINT
formats. -/
def blendClamps (entry : Nat) (format : BitVec 10) : Bool × Bool × Bool :=
  if Config.isInteger format then (false, false, false)
  else (structureBits 36 36 entry == 1, structureBits 33 33 entry == 1, structureBits 32 32 entry == 1)

/-- The range a channel is clamped to (R407). -/
def clampRange (entry : Nat) (format : BitVec 10) (channel : Nat) : DWord × DWord :=
  match structureBits 35 34 entry with
  | 0 => (0#32, floatOne)
  | 1 => (0xBF800000#32, floatOne)
  | _ => Config.formatRange format channel

/-- A float clamped to a range. -/
def clampFloat (r : DWord × DWord) (x : DWord) : DWord := if floatLe x r.1 then r.1 else if floatLe r.2 x then r.2 else x

/-- An integer clamped to the range of a channel of a UINT or SINT format (R407). -/
def clampInteger (format : BitVec 10) (channel : Nat) (x : DWord) : DWord :=
  let n := Config.channelBits format channel
  if Config.isSigned format then BitVec.ofInt 32 (max (-(2 ^ (n - 1) : Nat)) (min x.toInt ((2 ^ (n - 1) : Nat) - 1)))
  else BitVec.ofNat 32 (min x.toNat (2 ^ n - 1))

/-- A channel clamped to the range of the render target's format (R407). -/
def clampToFormat (format : BitVec 10) (channel : Nat) (x : DWord) : DWord :=
  if Config.isInteger format then clampInteger format channel x else clampFloat (Config.formatRange format channel) x

/-- A source channel as the blend takes it (R407): clamped by either pre-blend clamp, and not without them; of a UINT or SINT
format, which ignores them, clamped by the device to the format's range. -/
def blendSource (entry : Nat) (format : BitVec 10) (channel : Nat) (x : DWord) : DWord :=
  let (sourceOnly, pre, _) := blendClamps entry format
  if Config.isInteger format then clampInteger format channel x
  else if sourceOnly || pre then clampFloat (clampRange entry format channel) x
  else x

/-- A destination or constant channel as the blend takes it (R407): clamped with the sources, or by the table of the disabled
clamp when only they are. -/
def blendInput (entry : Nat) (format : BitVec 10) (channel : Nat) (x : DWord) : DWord :=
  let (sourceOnly, pre, _) := blendClamps entry format
  if pre then clampFloat (clampRange entry format channel) x
  else if sourceOnly then Config.unclampedInput format channel x
  else x

/-- A channel after the blend (R407): clamped if the post-blend clamp is enabled, and always to the range of the render target's
format just before it is written. -/
def blendOutput (entry : Nat) (format : BitVec 10) (channel : Nat) (x : DWord) : DWord :=
  clampToFormat format channel (if (blendClamps entry format).2.2 then clampFloat (clampRange entry format channel) x else x)

/-- The constant colour of the blend (R410), red 0 to alpha 3. -/
def blendConstant (color channel : Nat) : DWord :=
  BitVec.ofNat 32 (structureBits (32 * channel + 95) (32 * channel + 64) color)

/-- The inputs of the blend (R407): source 0, source 1, destination and the constant of COLOR_CALC_STATE (R410), clamped, four
channels each. -/
def blendInputs (color entry : Nat) (format : BitVec 10) (src0 src1 dst : Nat → DWord) : List DWord :=
  ((List.range 4).map fun c => blendSource entry format c (src0 c)) ++
    ((List.range 4).map fun c => blendSource entry format c (src1 c)) ++
    ((List.range 4).map fun c => blendInput entry format c (dst c)) ++
    ((List.range 4).map fun c => blendInput entry format c (blendConstant color c))

/-- A channel of a render target after the blend stage of an entry (R405, R407): source 0 where blending is off, else the blend
of the clamped inputs, the alpha channel by its own factors where they are independent. -/
def blendedColour (v color entry : Nat) (format : BitVec 10) (src0 src1 dst : Nat → DWord) (channel : Nat) : DWord :=
  let codes := if channel = 3 then alphaBlend v entry
    else (structureBits 30 26 entry, structureBits 25 21 entry, structureBits 20 18 entry)
  blendOutput entry format channel
    (if structureBits 31 31 entry = 1 then Config.blend codes (blendInputs color entry format src0 src1 dst) channel
     else blendSource entry format channel (src0 channel))

/-- A channel written through the write disables of a blend entry (R407): red, green, blue, alpha are 0 to 3. -/
def writtenColour (entry channel : Nat) (old new : DWord) : DWord :=
  let bit := match channel with
    | 0 => 2
    | 1 => 1
    | 2 => 0
    | _ => 3
  if structureBits bit bit entry = 1 then old else new

/-- One bit of a logic operation (R408): bit 2S+D of the code. PRESUMED with the spec (general knowledge). -/
def logicOp (code : BitVec 4) (s d : Bool) : Bool := code.getLsbD (2 * s.toNat + d.toNat)

/-- A logic operation on the bits of a source and a destination (R408). -/
def logicOpBits {w : Nat} (code : BitVec 4) (s d : BitVec w) : BitVec w :=
  (if code.getLsbD 3 then s &&& d else 0#w) ||| (if code.getLsbD 2 then s &&& ~~~d else 0#w) |||
    (if code.getLsbD 1 then ~~~s &&& d else 0#w) ||| (if code.getLsbD 0 then ~~~s &&& ~~~d else 0#w)

/-- A texel after the logic operation stage of a blend entry (R407): where it is enabled, its function of the bits of the source
texel and of the destination's. -/
def logicTexel (entry : Nat) (source destination : BitVec 128) : BitVec 128 :=
  if structureBits 63 63 entry = 1 then logicOpBits (BitVec.ofNat 4 (structureBits 62 59 entry)) source destination
  else source

/-- The texel that a pixel's colours leave in a render target (R405, R407, R410): source 0, its alpha 1 with Alpha To One, blended,
dithered, through the logic operation and the write disables. -/
def pixelTexel (v color entry : Nat) (format : BitVec 10) (xy : Nat × Nat) (src0 src1 : Nat → DWord) (old : BitVec 128) :
    BitVec 128 :=
  let s0 (c : Nat) : DWord := if c = 3 then alphaToOne v (src0 3) else src0 c
  let dst (c : Nat) : DWord := Config.texelDecode format old c
  let inputs := blendInputs color entry format s0 src1 dst
  let x (c : Nat) : DWord := ditheredColour v color entry inputs format xy c (blendedColour v color entry format s0 src1 dst c)
  let new := logicTexel entry (Config.texelEncode format old 0xF#4 (x 0) (x 1) (x 2) (x 3)) old
  let y (c : Nat) : DWord := writtenColour entry c (dst c) (Config.texelDecode format new c)
  let enabled (c bit : Nat) : BitVec 4 := if structureBits bit bit entry = 1 then 0#4 else 1#4 <<< c
  Config.texelEncode format old (enabled 0 2 ||| enabled 1 1 ||| enabled 2 0 ||| enabled 3 3) (y 0) (y 1) (y 2) (y 3)

/-- The raster operation of a logic operation code (R408): the code twice. -/
def logicOpRop (code : BitVec 4) : Byte := code ++ code

/-- The depth range of a viewport is legal (R409): ordered, no NaN, at least +0.0 and not -0.0, at most 1.0. -/
def viewportDepthOk (lo hi : DWord) : Bool :=
  floatLe lo hi && floatLe 0#32 lo && lo != 0x80000000#32 && floatLe 0#32 hi && hi != 0x80000000#32 &&
    floatLe hi 0x3F800000#32

/-- Depth clamped to the viewport (R409). -/
def clampDepth (lo hi depth : DWord) : DWord :=
  let a := if floatLe depth lo then lo else depth
  if floatLe hi a then hi else a

/-- CC_VIEWPORT `i` (R409): of up to 16, two DWords apart, the first aligned to 32 bytes; refused when its range is illegal. -/
def ccViewport (s : State) (pointer i : Nat) : Exec (DWord × DWord) := do
  let v ← layoutCcViewport.read s (← arrayElement 32 8 16 pointer i)
  let lo := BitVec.ofNat 32 (structureBits 31 0 v)
  let hi := BitVec.ofNat 32 (structureBits 63 32 v)
  require (viewportDepthOk lo hi) (.stateStructure "CC_VIEWPORT")
  return (lo, hi)

/-- The COLOR_CALC_STATE at an address (R410): aligned to 64 bytes. -/
def readColorCalcState (s : State) (addr : Nat) : Exec Nat := do
  require (decide (addr % 64 = 0)) (.stateStructure "COLOR_CALC_STATE")
  layoutColorCalcState.read s addr

/-- The depth formats of the clear value (R411). -/
inductive DepthFormat | float | unorm24 | unorm16
deriving DecidableEq, Repr

/-- The name the layout of the depth clear value gives a format (R411). -/
def DepthFormat.name : DepthFormat → String
  | .float => "IEEE_FP"
  | .unorm24 => "UNORM24"
  | .unorm16 => "UNORM16"

/-- The reserved bits of a depth clear value (R411). -/
def depthClearOk (k : DepthFormat) (v : DWord) : Bool := layoutDepthClearValueFormat.wf v.toNat [k.name]

/-- The binding table index a gather entry fetches from, and the byte offset into that buffer (R415): with DX9 constants the
field chooses the upper 4 KB instead, and a value above 1 is refused. -/
def gatherSource (block : Nat) (dx9 : Bool) (entry : BitVec 16) : Exec (Nat × Nat) := do
  require (layoutGatherConstantEntry.wf entry.toNat (if dx9 then ["VS Constant Buffer Dx9 Enable"] else []))
    (.stateStructure "GATHER_CONSTANT_ENTRY")
  let k := (entry.extractLsb' 0 4).toNat
  let off := 16 * (entry.extractLsb' 8 8).toNat
  return if dx9 then (block, 4096 * k + off) else (block + k, off)

/-- One gather entry (R415, D27): the DWords of 16 bytes of the constant buffer that the channel mask selects, in the context's
addresses (R19); `base` is the base of the surface bound at an index. -/
def gatherConstants (s : State) (base : Nat → Nat) (block : Nat) (dx9 : Bool) (entry : BitVec 16) : Exec (List DWord) := do
  let (index, off) ← gatherSource block dx9 entry
  let a := base index + off
  s.checkAccess a 16
  return ((List.range 4).filter fun k => entry.getLsbD (4 + k)).map fun k => memDword s.mem a k

/-- A pixel hashing table of `w`-bit entries, `nx` by `ny` (R416-R420): entry (x, y) of the table's contents. -/
def pixelHash (w nx ny table x y : Nat) : Nat := table / 2 ^ (w * (nx * (y % ny) + x % nx)) % 2 ^ w

/-- R416. -/
def pixelHash1bit32 (table x y : Nat) : Nat := pixelHash 1 8 4 table x y
/-- R417. -/
def pixelHash1bit64 (table x y : Nat) : Nat := pixelHash 1 8 8 table x y
/-- R418. -/
def pixelHash1bit128 (table x y : Nat) : Nat := pixelHash 1 16 8 table x y
/-- R419. -/
def pixelHash2bit64 (table x y : Nat) : Nat := pixelHash 2 8 8 table x y
/-- R420: 16 by 8, as its rows name them. -/
def pixelHash2bit128 (table x y : Nat) : Nat := pixelHash 2 16 8 table x y

/-- The subslice a pixel hashing identifier names (R416, R419): the first, second, third or fourth of the enabled ones. -/
def hashedSubslice (enabled : List Nat) (id : Nat) : Option Nat := enabled[id]?

/-- The scissor test (R421). -/
def scissorPasses (v : Nat) (x y : Nat) : Bool :=
  decide (structureBits 15 0 v ≤ x) && decide (x ≤ structureBits 47 32 v) && decide (structureBits 31 16 v ≤ y) &&
    decide (y ≤ structureBits 63 48 v)

/-- SCISSOR_RECT of viewport `i` (R421): of up to 16, two DWords apart, the first aligned to 32 bytes. -/
def scissorRect (s : State) (pointer i : Nat) : Exec Nat := do layoutScissorRect.read s (← arrayElement 32 8 16 pointer i)

/-- SF_CLIP_VIEWPORT of viewport `i` (R422): 64 bytes apart. -/
def sfClipViewport (s : State) (pointer i : Nat) : Exec Nat := do
  layoutSfClipViewport.read s (← arrayElement 1 64 (i + 1) pointer i)

/-- The viewport transform (R422): `x' = m00 x + m30`, and so for y and z. PRESUMED with the spec (general knowledge). -/
def viewportTransform (v : FloatEnv) (free : QWord) (state : Nat) (p : DWord × DWord × DWord) : DWord × DWord × DWord :=
  let axis (k : Nat) (x : DWord) : DWord :=
    let num (n : Nat) := operandNum v .f n
    BitVec.ofNat 32 (fmaNum v .f free (num (structureBits (32 * k + 31) (32 * k) state)) (num x.toNat)
      (num (structureBits (32 * k + 127) (32 * k + 96) state)))
  (axis 0 p.1, axis 1 p.2.1, axis 2 p.2.2)

/-- The constant vector of an output attribute (R423). -/
def attributeConstant (source : Nat) (primId : DWord) : List DWord :=
  match source with
  | 0 => [0#32, 0#32, 0#32, 0#32]
  | 1 => [0#32, 0#32, 0#32, 0x3F800000#32]
  | 2 => [0x3F800000#32, 0x3F800000#32, 0x3F800000#32, 0x3F800000#32]
  | _ => [primId, primId, primId, primId]

/-- An output attribute of the setup unit (R423): select, swizzle, override. -/
def outputAttribute (detail : BitVec 16) (input : Nat → List DWord) (back : Bool) (primId : DWord) : List DWord :=
  let facing := detail.getLsbD 6 && back
  let src := input ((detail.extractLsb' 0 5).toNat + (if facing then 1 else 0))
  let src := if detail.getLsbD 7 then src.set 0 (src.getD 3 0#32) else src
  let constant := attributeConstant (detail.extractLsb' 9 2).toNat primId
  (List.range 4).map fun c => if detail.getLsbD (12 + c) then constant.getD c 0#32 else src.getD c 0#32

/-- Whether attribute `i` is subject to the swizzle controls (R423): attributes 0 to 15 or 16 to 31, as Swizzle Control Mode of
the first attribute says. -/
def attributeSwizzled (enable : Bool) (first : BitVec 16) (i : Nat) : Bool :=
  enable && (if Config.swizzleUpper (first.getLsbD 11) then 16 ≤ i && i < 32 else i < 16)

/-- Output attribute `i` (R423): by its detail when it is subject to the swizzle controls, else the input attribute of its
number. -/
def setupAttribute (enable : Bool) (details : List (BitVec 16)) (input : Nat → List DWord) (back : Bool) (primId : DWord)
    (i : Nat) : Exec (List DWord) := do
  require (details.zipIdx.all fun d =>
    layoutSfOutputAttributeDetail.wf d.1.toNat (if d.2 = 0 then ["Attribute[0]"] else [])) (.stateStructure "SF_OUTPUT_ATTRIBUTE_DETAIL")
  return if attributeSwizzled enable (details.getD 0 0#16) i then outputAttribute (details.getD (i % 16) 0#16) input back primId
    else input i

/-- A stream output declaration is legal (R424): contiguous components, hole masks 0, 1, 3, 7 and 15, registers to 32. -/
def soDeclOk (d : BitVec 16) : Bool := layoutSoDecl.wf d.toNat

/-- Stream output of one declaration (R424): memory, in the context's addresses (R19), and the write pointers (byte addresses by
slot) after it; an illegal one is refused. -/
def soDecl (d : BitVec 16) (src : Nat → List DWord) (buffer : Nat → Nat) (s : State) (wp : List Nat) :
    Exec (State × List Nat) := do
  require (soDeclOk d) (.stateStructure "SO_DECL")
  let slot := (d.extractLsb' 12 2).toNat
  let chosen := (List.range 4).filter fun c => d.getLsbD c
  let start := wp.getD slot 0
  let stop := wp.set slot (start + 4 * chosen.length)
  if d.getLsbD 11 then return (s, stop)
  else
    let row := src (d.extractLsb' 4 6).toNat
    s.checkAccess (buffer slot + start) (4 * chosen.length)
    let store (t : State) (ck : Nat × Nat) : State :=
      t.storeAs .agent (buffer slot + start + 4 * ck.2) 4 (row.getD ck.1 0#32).toNat
    return (chosen.zipIdx.foldl store s, stop)

/-- The declarations of the four streams in an SO_DECL_ENTRY (R425). -/
def soDeclOfStream (entry : QWord) (stream : Fin 4) : BitVec 16 := entry.extractLsb' (16 * stream.val) 16

/-- SO_DECL_ENTRY: one declaration of each stream (R424, R425). -/
def layoutSoDeclEntry : Layout where
  name := "SO_DECL_ENTRY"
  words := 2
  fields := (List.range 4).flatMap fun k => layoutSoDecl.atBit (16 * k)

/-- A vertex buffer after a VERTEX_BUFFER_STATE (R426): the address only when Address Modify Enable is set. -/
def VertexBuffer.update (b : VertexBuffer) (v : Nat) : VertexBuffer :=
  { addr := if structureBits 14 14 v = 1 then BitVec.ofNat 48 (structureBits 95 32 v) else b.addr
    pitch := BitVec.ofNat 12 (structureBits 11 0 v)
    size := BitVec.ofNat 32 (structureBits 127 96 v)
    isNull := structureBits 13 13 v == 1
    mocs := BitVec.ofNat 7 (structureBits 22 16 v) }

/-- The vertex buffers after a VERTEX_BUFFER_STATE (R426): the one its index names. -/
def State.setVertexBuffer (s : State) (v : Nat) : Exec State := do
  require (layoutVertexBufferState.wf v) (.stateStructure "VERTEX_BUFFER_STATE")
  let i := structureBits 31 26 v
  return { s with vertexBuffers := s.vertexBuffers.setIfInBounds i ((s.vertexBuffers.getD i VertexBuffer.reset).update v) }

/-- The bytes of a vertex element (R426): zeros from a null buffer and past the end of one; of a misaligned element with
64-bit floats, free bytes. -/
def VertexBuffer.fetch (b : VertexBuffer) (s : State) (index offset n : Nat) (float64 : Bool) : Exec (List Byte) := do
  let off := index * b.pitch.toNat + offset
  let a := b.addr.toNat + off
  if b.isNull || decide (b.size.toNat < off + n) then return List.replicate n 0#8
  else
    s.checkAccess a n
    return (List.range n).map fun k =>
      if float64 && decide (a % 8 ≠ 0) then (s.draw k 0x426).extractLsb' 0 8 else Memory.read s.mem (a + k)

/-- Component `c`'s control of a VERTEX_ELEMENT_STATE (R427). -/
def componentControl (v c : Nat) : Nat := structureBits (62 - 4 * c) (60 - 4 * c) v

/-- `VFCOMP_TABLE` (R427, PRESUMED with the spec): the DWords a component control stores, given the converted source component
and the primitive identifier; none for VFCOMP_NOSTORE. -/
def storedComponent (control : Nat) (src : List DWord) (primId : DWord) : List DWord :=
  match control with
  | 0 => []
  | 1 => src
  | 2 => src.map fun _ => 0#32
  | 3 => [floatOne]
  | 4 => [1#32]
  | _ => [primId]

/-- The source components of an element from its bytes (R427): converted by its format, or the 64 bits of each as two DWords in
a PASSTHRU format. -/
def sourceComponent (format : BitVec 9) (data : List Byte) (c : Nat) : List DWord :=
  let at' (k n : Nat) := ((List.range n).map fun i => (data.getD (k + i) 0#8).toNat * 2 ^ (8 * i)).sum
  if Config.passthruComponents format = 0 then [Config.texelDecode (format.setWidth 10) (BitVec.ofNat 128 (at' 0 16)) c]
  else [BitVec.ofNat 32 (at' (8 * c) 4), BitVec.ofNat 32 (at' (8 * c + 4) 4)]

/-- The edge flag of a vertex (R427): whether the source element of the valid edge flag element is not zero; true where no
valid element has one. -/
def edgeFlag (elements : List (Nat × List Byte)) : Bool :=
  match elements.find? fun e => structureBits 25 25 e.1 == 1 && structureBits 15 15 e.1 == 1 with
  | some e => e.2.any fun b => b != 0#8
  | none => true

/-- The component controls of one element are legal (R427): nothing stored after a component that is not; a PASSTHRU element
stores its source components, is padded with zeros to 128 or 256 bits and is no edge flag; an edge flag has one component. -/
def vertexElementOk (v : Nat) : Bool :=
  let format := BitVec.ofNat 9 (structureBits 24 16 v)
  let c (k : Nat) := componentControl v k
  let n := Config.passthruComponents format
  let edge := structureBits 15 15 v == 1
  layoutVertexElementState.wf v && (List.range 3).all (fun k => c k != 0 || c (k + 1) == 0) &&
    (!edge || (c 0 == 1 && c 1 == 0 && c 2 == 0 && c 3 == 0 && n == 0 && [1#4, 2#4, 4#4, 8#4].contains (Config.formatChannels (format.setWidth 10)))) &&
    (n == 0 ||
      ((List.range n).all (fun k => c k == 1) && (List.range 4).all (fun k => decide (k < n) || c k == 0 || c k == 2) &&
        (c 1 != 0) && ((c 2 == 0) == (c 3 == 0))))

/-- The bytes of the source element that a VERTEX_ELEMENT_STATE names (R427): of its vertex buffer, at its offset in the
structure of the index. An element that stores no source component needs none, and its vertex buffer is ignored. -/
def sourceElement (s : State) (v index : Nat) : Exec (List Byte) :=
  let format := BitVec.ofNat 9 (structureBits 24 16 v)
  let b := s.vertexBuffers.getD (structureBits 31 26 v) VertexBuffer.reset
  if (List.range 4).any fun c => componentControl v c == 1 then
    b.fetch s index (structureBits 11 0 v) (Config.texelSize (format.setWidth 10))
      (Config.hasFloat64 format || Config.passthruComponents format != 0)
  else .ok []

/-- The destination element that a VERTEX_ELEMENT_STATE stores into the vertex entry, for an index (R427): nothing when it is
not valid or is the edge flag; an illegal one is refused. -/
def vertexElement (s : State) (v index : Nat) (primId : DWord) : Exec (List DWord) := do
  require (vertexElementOk v) (.stateStructure "VERTEX_ELEMENT_STATE")
  if structureBits 25 25 v = 0 || structureBits 15 15 v = 1 then return []
  let data ← sourceElement s v index
  return (List.range 4).flatMap fun c =>
    storedComponent (componentControl v c) (sourceComponent (BitVec.ofNat 9 (structureBits 24 16 v)) data c) primId

/-- A list of vertex elements is legal (R427): at most 34, an edge flag only on the last valid one and only where the topology
has edge flags. -/
def vertexElementsOk (edgeTopology : Bool) (l : List Nat) : Bool :=
  let valid := l.filter fun v => structureBits 25 25 v == 1
  decide (l.length ≤ 34) && l.all vertexElementOk &&
    valid.zipIdx.all fun e => structureBits 15 15 e.1 == 0 || (edgeTopology && e.2 + 1 == valid.length)

/-- The vertex entry and the edge flag that a list of vertex elements makes of an index (R427). -/
def fetchVertex (s : State) (edgeTopology : Bool) (l : List Nat) (index : Nat) (primId : DWord) :
    Exec (List DWord × Bool) := do
  require (vertexElementsOk edgeTopology l) (.stateStructure "VERTEX_ELEMENT_STATE")
  let stored ← sequence (l.map fun v => vertexElement s v index primId)
  let sources ← sequence ((l.filter fun v => structureBits 25 25 v == 1).map fun v => do return (v, ← sourceElement s v index))
  return (stored.flatten, edgeFlag sources)

end Sys2Proof.Machine
end

