-- ==== Sys2Proof/Machine/SamplerFunctions.lean ====
section
/-! DEFINITION. The sampling engine (R194, R201) as far as the spec has it: sampler states, border colours, media surfaces
(R431, R457-R469), and what a message answers. -/

namespace Sys2Proof.Machine

/-- The address of a sampler's indirect state (R468); a sum at or above 2^48 is refused (R21). -/
def indirectStateAddress (c : Context) (dword2 : DWord) : Exec Nat := do
  let a := c.dynamicBase.toNat + (dword2 &&& 0x00FFFFC0#32).toNat
  require (decide (a + 64 ≤ addressLimit)) .addressSum
  return a

/-- The class of a surface format that a border colour's format follows (R460, R461; C57). -/
inductive BorderClass | float | uint | sint
deriving DecidableEq, Repr

/-- The channels of a surface format as its border colour sees them (R460): luminance and intensity formats replicate
red. -/
inductive BorderChannels
  | listed (present : BitVec 4)
  | luminance (alpha : Bool)
  | intensity
deriving DecidableEq, Repr

/-- One channel of a border colour: an UNORM8 value, the bits of the format class, or the default of a missing channel. -/
inductive BorderValue
  | unorm (v : Byte)
  | bits (v : DWord)
  | default (one : Bool)
deriving DecidableEq, Repr

/-- The channel of the structure that channel `k` of a sampled colour comes from, red 0 and alpha 3; none if the format has
no such channel. -/
def BorderChannels.source (f : BorderChannels) (k : Nat) : Option Nat :=
  match f with
  | .listed present => if present.getLsbD k then some k else none
  | .luminance alpha => if k < 3 then some 0 else if alpha then some 3 else none
  | .intensity => some 0

/-- Channel `k` of the border colour (R460-R462): of MAPFILTER_MONO 0; in DX9 mode an UNORM8 byte, of a missing channel too;
else a DWord, of a missing channel the default, 0 for colours and 1 for alpha. -/
def borderColour (mono dx9 : Bool) (f : BorderChannels) (v k : Nat) : BorderValue :=
  let byte (c : Nat) : BorderValue := .unorm (BitVec.ofNat 8 (structureBits (8 * c + 7) (8 * c) v))
  if mono then .bits 0#32
  else if dx9 then byte ((f.source k).getD k)
  else
    match f.source k with
    | some c => .bits (BitVec.ofNat 32 (structureBits (32 * c + 31) (32 * c) v))
    | none => .default (k == 3)

/-- The format classes as the layouts' conditions name them. -/
def BorderClass.given : BorderClass → List String
  | .float => []
  | .uint => ["UINT"]
  | .sint => ["SINT"]

/-- The border colour of a sampler (R460, R461): its indirect state, four channels; of MAPFILTER_MONO, whose border colour is
ignored, four zeros. DX9 mode is refused with UINT and SINT formats, and with `wide` ones, which have a channel of more than 16
bits that is no 32-bit float. -/
def readBorderColour (s : State) (dword0 dword2 : DWord) (c : BorderClass) (wide : Bool) (f : BorderChannels) :
    Exec (List BorderValue) := do
  let dx9 := dword0.getLsbD 29
  if dword0.extractLsb' 14 3 = 6#3 then return (List.range 4).map fun _ => .bits 0#32
  require (!dx9 || (c == .float && !wide)) (.stateStructure "TextureBorderColorMode")
  let given := if dx9 then "DX9" :: c.given else c.given
  let v ← layoutSamplerIndirectStateBorderColor.read s (← indirectStateAddress s.ctx dword2) given
  return (List.range 4).map (borderColour false dx9 f v)

/-- Whether a MEDIA_SURFACE_STATE's format is a planar one (R431, R432). -/
def isMediaPlanar (v : Nat) : Bool := mediaPlanar.holds [] v

/-- The byte address of a media surface (R431). -/
def mediaBase (v : Nat) : Nat := structureBits 239 192 v

/-- The origin of a media surface, in pixels and rows from its base (R431): of a planar format its X and Y Offset, in
multiples of 4; of another the fields that for planar formats give the U plane's. -/
def mediaOrigin (v : Nat) : Nat × Nat :=
  if isMediaPlanar v then (structureBits 26 20 v * 4, structureBits 19 16 v * 4)
  else (structureBits 125 112 v, structureBits 109 96 v)

/-- The origin of the U plane, or of the interleaved chroma plane, of a planar format (R431; its Y offset is the resultant Y
offset, 90). -/
def mediaOriginU (v : Nat) : Option (Nat × Nat) :=
  let o := mediaOrigin v
  if isMediaPlanar v then some (o.1 + structureBits 125 112 v, o.2 + structureBits 109 96 v) else none

/-- The origin of the V plane (R431): that of a planar format with separate planes only. -/
def mediaOriginV (v : Nat) : Option (Nat × Nat) :=
  let o := mediaOrigin v
  if isMediaPlanar v && structureBits 90 90 v == 0 then some (o.1 + structureBits 157 144 v, o.2 + structureBits 142 128 v)
  else none

/-- The distance of U and V from the even luma rows, in quarters (R431); ignored but for PLANAR_420_8. -/
def mediaChromaRow (v : Nat) : Nat :=
  if media420.holds [] v then 4 * structureBits 88 88 v + structureBits 33 32 v else 0

/-- The distance of U and V from the even luma columns, in halves (R431). -/
def mediaChromaColumn (v : Nat) : Nat := structureBits 89 89 v

/-- Bits of a pixel of the luma plane, by the media format (R432). -/
def mediaPixelBits (format : Nat) : Nat :=
  [16, 16, 16, 16, 8, 8, 16, 16, 32, 32, 16, 8, 8, 32, 32, 64, 1, 32, 8].getD format 8

/-- What a width must be a multiple of, by the media format (R431). -/
def mediaWidthUnit (format : Nat) : Nat :=
  [2, 2, 2, 2, 2, 4, 1, 2, 1, 1, 1, 1, 1, 1, 1, 1, 32, 1, 2].getD format 1

/-- The tiling mode of a media surface's compression limits (R433). -/
def mediaTiling (v : Nat) : CompressedTiling :=
  match structureBits 179 178 v with
  | 1 => .tileYF
  | 2 => .tileYS
  | _ => .legacy4K

/-- A compressed media surface is within the width and pitch of its tiling mode (R433). -/
def mediaCompressionOk (v : Nat) : Bool :=
  let z := mediaPixelBits (structureBits 95 91 v) / 8
  let width := structureBits 49 36 v + 1
  let l := compressionLimits (mediaTiling v) (logBytes z)
  structureBits 86 86 v == 0 ||
    (decide (width * z ≤ l.1) && decide (width ≤ l.2.1) && decide (structureBits 84 67 v + 1 ≤ l.2.2))

/-- What reads a media surface (R431). -/
inductive MediaUse | deinterlace | sample8x8 (f : Config.Avs) | motion
deriving DecidableEq, Repr

/-- A media surface is read by `sample_8x8`. -/
def MediaUse.isSample8x8 : MediaUse → Bool
  | .sample8x8 _ => true
  | .deinterlace | .motion => false

/-- The AVS function of `sample_8x8`. -/
def MediaUse.isAvs : MediaUse → Bool
  | .sample8x8 f => f != .other
  | .deinterlace | .motion => false

/-- The messages that a media format is for (R432). -/
def mediaFormatOk (format : Nat) (k : MediaUse) : Bool :=
  match format with
  | 5 | 6 | 7 => k.isSample8x8 && !k.isAvs
  | 8 | 16 => k.isSample8x8
  | 9 | 10 | 11 | 12 | 13 | 14 | 15 | 18 => k.isAvs
  | _ => true

/-- The tiled resources among media surfaces (R431): no pixels of 1 bit; the pitch, the X and Y Offset for U and, with separate
planes, the X Offset for V whole tiles of the luma plane (of the Y Offset too the rule prints the tile's width). -/
def mediaTilesOk (v : Nat) : Bool :=
  let mode := structureBits 179 178 v
  let z := mediaPixelBits (structureBits 95 91 v)
  let tile := Config.mediaTileWidth mode z
  let whole (pixels : Nat) : Bool := pixels * z % (8 * tile) == 0
  mode == 0 ||
    (z != 1 && (structureBits 84 67 v + 1) % tile == 0 && whole (structureBits 125 112 v) && whole (structureBits 109 96 v) &&
      (!isMediaPlanar v || structureBits 90 90 v == 1 || whole (structureBits 157 144 v)))

/-- The sizes of a media surface (R431): a row of pixels fits the pitch, the width and the height have the multiples of the
format, of a deinterlace message 8, of a mirrored surface 4 bytes; the X Offset of a planar format is a whole number of 16
bytes; a compressed one keeps the limits of R433. The format is one for the message (R432), and a rotation is for AVS
messages. -/
def mediaSizeOk (v : Nat) (k : MediaUse) : Bool :=
  let deinterlace := k == .deinterlace
  let format := structureBits 95 91 v
  let width := structureBits 49 36 v + 1
  let height := structureBits 63 50 v + 1
  let z := mediaPixelBits format
  decide (width * z ≤ 8 * (structureBits 84 67 v + 1)) && width % mediaWidthUnit format == 0 &&
    (format != 4 || height % 2 == 0) && (!deinterlace || width % 8 == 0) &&
    (structureBits 85 85 v == 0 || width * z % 32 == 0) && (!isMediaPlanar v || (mediaOrigin v).1 % 16 == 0) &&
    mediaTilesOk v && mediaCompressionOk v && mediaFormatOk format k &&
    (structureBits 31 30 v == 0 || k == .sample8x8 .avs)

/-- The media surface at an address, with its sizes checked. -/
def readMediaSurface (s : State) (addr : Nat) (k : MediaUse) : Exec Nat := do
  let v ← layoutMediaSurfaceState.read s addr (if k.isSample8x8 then ["sample_8x8"] else [])
  require (mediaSizeOk v k) (.stateStructure "MEDIA_SURFACE_STATE")
  return v

/-- The sampler state a message selects (R465, R201): of its index, in the thread's sampler table, whose pointer is relative to
the Dynamic State Base Address (R484). -/
def readSampler (s : State) (m : Msg) : Exec Nat := do
  layoutSamplerState.read s (← arrayElement 32 16 16 (s.ctx.dynamicBase.toNat + s.eu.samplerTable.toNat) (m.bits 8 4))

/-- A Texture Coordinate Mode of a SAMPLER_STATE: of TCZ, TCY or TCX (R469). -/
def samplerMode (v k : Nat) : Nat := structureBits (3 * k + 98) (3 * k + 96) v

/-- The reduction of a message (R469) that by itself does `own`: the Reduction Type's, unless it is disabled, the filter is MONO
or the message type ignores the field. -/
def reductionOf (v : Nat) (ignores : Bool) (own : Config.Reduction) : Config.Reduction :=
  if structureBits 105 105 v = 0 || ignores || structureBits 16 14 v == 6 then own
  else
    match structureBits 119 118 v with
    | 0 => .filter
    | 1 => .comparison
    | 2 => .minimum
    | _ => .maximum

/-- The reduction of a message type through a sampler (R469). -/
def samplerReductionOf (type : BitVec 5) (v : Nat) : Config.Reduction :=
  reductionOf v (Config.samplerIgnoresReduction type) (Config.samplerReduction type)

/-- Whether a sampler and a message do a minimum or maximum operation (R466, R469). -/
def samplerExtremum (type : BitVec 5) (v : Nat) : Bool :=
  samplerReductionOf type v == .minimum || samplerReductionOf type v == .maximum

/-- The Texture Border Color Mode a sampler may have (R466): DX10/OGL with a minimum or maximum, the mode that a format must have.
That DX9 is not used where null tiles are in use, or in turn with DX10/OGL without a flush, is not seen in these structures. -/
def borderModeOk (u : Surface) (type : BitVec 5) (v : Nat) : Bool :=
  let dx9 := structureBits 29 29 v == 1
  !(dx9 && samplerExtremum type v) && (Config.formatBorderMode u.format).all (· == dx9)

/-- The filters a sampler may have on a surface's format (R466): without Sampling Engine Filtering NEAREST, and no LINEAR mip
filter, but of a comparison, a minimum or maximum, or the MONO filter, which has a format of its own. -/
def filtersOk (u : Surface) (type : BitVec 5) (v : Nat) : Bool :=
  let min := structureBits 16 14 v
  (min == 0 && structureBits 19 17 v == 0 && structureBits 21 20 v != 3) || min == 6 ||
    samplerReductionOf type v != .filter || Config.formatFilters u.format

/-- What a surface requires of the sampler it is read through: a line stride no mip filter (R437; MAPFILTER_FLEXIBLE has no
code in R466); a cube map all its faces but in the CUBE mode, and one mode (R437, R469); a volume no other filter than NEAREST
and LINEAR and no chroma key (R466, R467); UINT and SINT formats the DX10/OGL mode and no filtering but of a minimum or maximum
(R466); a planar one no mip filter and CLAMP (R466, R469); MONO filters the format MONO8 of two dimensions (R466); chroma keys
no Resource Min LOD (R451); coordinates that are not normalized a two- or three-dimensional surface of one level that is not
quilted (R454, R469); and what its format requires (`borderModeOk`, `filtersOk`). SAMPLER_STATE has no Base Mip Level here, so
that the surface's never meets another (R443). -/
def samplerFits (u : Surface) (type : BitVec 5) (v : Nat) : Bool :=
  let min := structureBits 16 14 v
  let mag := structureBits 19 17 v
  let mip := structureBits 21 20 v
  let modes := (List.range 3).map (samplerMode v)
  (u.vls == 0 || mip == 0) &&
    (u.ty != surfCube ||
      (modes.all (· == samplerMode v 0) && (modes.all (· == 3) || u.raw.extractLsb' 0 6 == 0x3F#6))) &&
    (u.ty != surf3D || (decide (min ≤ 1) && decide (mag ≤ 1) && structureBits 39 39 v == 0)) &&
    ((structureBits 29 29 v == 0 && ((min == 0 && mag == 0 && decide (mip ≤ 1)) || (min != 6 && samplerExtremum type v))) ||
      !Config.isInteger u.format) &&
    ((mip == 0 && samplerMode v 2 == 2) || !u.planar) && (min != 6 || (u.kind == .mono8 && u.ty == surf2D)) &&
    (structureBits 39 39 v == 0 || u.resourceMinLod == 0) &&
    (structureBits 106 106 v == 0 ||
      ((u.ty == surf2D || u.ty == surf3D) && u.mip == 0 && u.minLod == 0 && u.quilt == (0, 0))) &&
    borderModeOk u type v && filtersOk u type v

/-- What a surface requires of the message it is read by: multisamples stored as depth or stencil only `ld2dms`, `resinfo` and
`sampleinfo` (R447), a quilted texture no `ld*` (R454), memory compression `sample_unorm*` or a SIMD16 `sample` (R451); and
`sample_unorm*` of it that each channel select is its own channel (R452). -/
def samplerMessageFits (u : Surface) (m : Msg) (load : Bool) : Bool :=
  let type : BitVec 5 := m.desc.extractLsb' 12 5
  (u.samplesLog == 0 || !u.depthStencil || Config.samplerDepthStencil type) && (!load || u.quilt == (0, 0)) &&
    (!u.compressed || Config.samplerUnorm type || Config.samplerSimd16 type (m.desc.extractLsb' 17 2) m.header) &&
    (u.selects == [4#3, 5#3, 6#3, 7#3] || !Config.samplerUnorm type)

/-- The surface of a target that is no null surface fits the message. -/
def checkSampled (t : Target) (fits : Surface → Bool) : Exec Unit :=
  match t with
  | .surface u => require (u.ty == surfNull || fits u) (.stateStructure "SamplerSurface")
  | .stateless _ | .slm => .ok ()

/-- What a sampling engine message does not define by its open algorithms: nothing, or zeros in the slots of a kind. -/
abbrev ZeroSlots := Nat → Bool

/-- Whether a target is the null surface (R438). -/
def Target.isNull : Target → Bool
  | .surface u => u.ty == surfNull
  | .stateless _ | .slm => false

/-- The messages whose Return Format must be 32-bit (R201). -/
def returns32 (m : Msg) : Bool :=
  let type := m.desc.extractLsb' 12 5
  Config.samplerKind type == .info || Config.samplerKind type == .lod || Config.samplerLdMcs type ||
    Config.samplerWide (m.desc.extractLsb' 17 2) m.header

/-- The slots whose results are zero (R23): all of a disabled sampler (R466) or a null surface (R438); of an `ld*` message
those with a LOD past the surface's levels (R448). Ill-formed state and indexes are refused (R201, R431, R465). -/
def samplerZeros (m : Msg) (s : State) : Exec ZeroSlots := do
  let type := m.desc.extractLsb' 12 5
  require (!m.desc.getLsbD 30 || !(returns32 m)) (.messageDescriptor "ReturnFormat")
  match Config.samplerKind type with
  | .flush => return fun _ => false
  | .sample | .lod => do
    let t ← resolveTarget s m .sampler .shared
    let v ← readSampler s m
    checkSampled t fun u => samplerMessageFits u m false && samplerFits u type v
    return fun _ => structureBits 31 31 v == 1 || t.isNull
  | .load => do
    let t ← resolveTarget s m .sampler .shared
    checkSampled t fun u => samplerMessageFits u m true
    return fun i =>
      match t with
      | .surface u => u.ty == surfNull || decide (u.mip < Config.samplerLod (m.desc.setWidth 32) m.payload i)
      | .stateless _ | .slm => false
  | .info => do
    let t ← resolveTarget s m .sampler .shared
    checkSampled t fun u => samplerMessageFits u m false
    return fun _ => t.isNull
  | .deinterlace => do
    require (m.bits 8 4 % 2 == 0) (.messageDescriptor "SamplerIndex")
    let _ ← readMediaSurface s (← surfaceStateAddress s m) .deinterlace
    return fun _ => false
  | .sample8x8 => do
    require (m.bits 8 4 % 4 == 0) (.messageDescriptor "SamplerIndex")
    let _ ← readMediaSurface s (← surfaceStateAddress s m)
      (.sample8x8 (Config.avsFunction (m.desc.setWidth 32) m.payload))
    return fun _ => false

/-- Register `r` of a sampler response: zero bytes in the enabled slots that read zero, else what `Config.sharedFn` gives. -/
def samplerRegister (m : Msg) (s : State) (zero : ZeroSlots) (r : Nat) : HWord :=
  let open_ := Config.sharedFn m.sfid.code (m.desc.setWidth 32) m.ex m.payload s.draws r
  packWords ((List.range 32).map fun b =>
    let i := Config.samplerSlot (m.desc.setWidth 32) r b
    if m.slot i && zero i then (0#8 : Byte) else packedWord 8 open_ b)

/-- The sampling engine (R93, R201): its surface and sampler state are looked up as the spec says, its filters and its message
tables are not in the sources (93: a parameter), and it writes no memory. -/
def samplingEngine : Handler := fun m s => do
  let zero ← samplerZeros m s
  return (s, wholeRegs ((List.range m.responseLength).map (samplerRegister m s zero)))

/-! ### What the fields of a SAMPLER_STATE do to a LOD, a texel and a message (R466-R469) -/

/-- The LOD after clamping, in 256ths (R467): Min LOD wins over Max LOD. -/
def clampLod (minLod maxLod lod : Int) : Int := if maxLod < minLod then minLod else max minLod (min lod maxLod)

/-- Min LOD and Max LOD, in 256ths (R467). -/
def lodRange (v : Nat) : Int × Int := ((structureBits 63 52 v : Nat), (structureBits 51 40 v : Nat))

/-- The LOD with the sampler's bias and the message's (R466, R467), in 256ths. -/
def biasedLod (v : Nat) (lod messageBias : Int) : Int := lod + (BitVec.ofNat 13 (structureBits 13 1 v)).toInt + messageBias

/-- Whether a biased LOD magnifies (R443, R466, R467): decided after the pre-clamp of the OGL mode, against the Base Mip Level,
in halves. That a LOD equal to it magnifies is the model's choice (DESIGN CHOICE, log 57). -/
def magnifies (v baseMip : Nat) (lod1 : Int) : Bool :=
  let l := if structureBits 28 27 v = 2 then clampLod (lodRange v).1 (lodRange v).2 lod1 else lod1
  decide (l ≤ (128 * baseMip : Nat))

/-- The Mip Mode Filter that clamps a LOD (R468, R469): in magnification NONE, unless LOD Clamp Magnification Mode or the
trilinear quality says that the programmed one does. -/
def clampingMipFilter (v : Nat) (magnified : Bool) : Nat :=
  if magnified && structureBits 64 64 v == 0 && structureBits 108 107 v != 1 then 0 else structureBits 21 20 v

/-- The LOD that selects the mip levels, in 256ths (R466-R468): with Mip Mode Filter NONE the level of Min LOD, else the biased
LOD clamped. -/
def finalLod (v baseMip : Nat) (lod messageBias : Int) : Int :=
  let lod1 := biasedLod v lod messageBias
  if clampingMipFilter v (magnifies v baseMip lod1) = 0 then (lodRange v).1 / 256 * 256
  else clampLod (lodRange v).1 (lodRange v).2 lod1

/-- The filter of a footprint (R466): the Mag or Min Mode Filter, ANISOTROPIC overridden to LINEAR for `sample_l`, `sample_l_c`
and Force LOD to Zero. -/
def footprintFilter (v : Nat) (magnified explicitLod : Bool) : Nat :=
  let f := if magnified then structureBits 19 17 v else structureBits 16 14 v
  if f = 2 && explicitLod then 1 else f

/-- The weight of the less detailed of two mip levels, in 256ths, after the trilinear quality (R469): a LOD within 12.5% of an
integer is rounded, or a level that contributes less than 25% or 37.5% drops out. -/
def trilinearWeight (v : Nat) (fraction : Nat) : Nat :=
  let cut := [0, 32, 64, 96].getD (structureBits 108 107 v) 0
  if fraction < cut then 0 else if 256 - cut < fraction then 256 else fraction

/-- The largest anisotropy ratio to 1 (R469). -/
def anisotropyRatio (v : Nat) : Nat := 2 * (structureBits 117 115 v + 1)

/-- The Shadow Function (R467): the comparison passes for an order of its operands. -/
def shadowPasses (code : BitVec 3) (o : Option Ordering) : Bool :=
  match code.toNat with
  | 0 => true
  | 1 => false
  | 2 => o == some .lt
  | 3 => o == some .eq
  | 4 => o == some .lt || o == some .eq
  | 5 => o == some .gt
  | 6 => o != some .eq
  | _ => o == some .gt || o == some .eq

/-- The channel of a surface that the shadow comparison looks at (R467, R452: whatever the channel selects): red, of a format
with alpha only that. -/
def shadowChannel (format : BitVec 10) : Nat := if Config.formatChannels format = 8#4 then 3 else 0

/-- The shadow comparison of a texel with the reference value (R467); which is the first operand is open
(`Config.shadowRefFirst`). -/
def shadowTest (v : Nat) (format : BitVec 10) (texel : BitVec 128) (ref : DWord) : Bool :=
  let num (x : DWord) := decodeFloat .f x.toNat
  let sample := Config.texelDecode format texel (shadowChannel format)
  shadowPasses (BitVec.ofNat 3 (structureBits 35 33 v))
    (if Config.shadowRefFirst then compareNum (num ref) (num sample) else compareNum (num sample) (num ref))

/-- Whether chroma keying clears a pixel's mask bit (R467): any contributing texel matches, in the KILL mode. -/
def chromaKills (v : Nat) (texels : List Bool) : Bool :=
  structureBits 39 39 v == 1 && structureBits 36 36 v == 0 && texels.any id

/-- A texel (red, green, blue, alpha) after chroma keying (R467): in the REPLACE_BLACK mode one that matches is black with alpha
0, of a YCrCb format in its own code. -/
def chromaTexel (v : Nat) (ycrcb matches_ : Bool) (texel : List DWord) : List DWord :=
  if structureBits 39 39 v = 1 && structureBits 36 36 v = 1 && matches_ then
    if ycrcb then [0x80#32, 0x10#32, 0x80#32, 0#32] else [0#32, 0#32, 0#32, 0#32]
  else texel

/-- A texture coordinate in texels of LOD 0 (R469), in the unit of the coordinate given: with Non-normalized Coordinate Enable
the coordinate itself, else the range 0 to 1 spans the surface's `extent` texels. -/
def texelCoordinate (v extent : Nat) (c : Int) : Int := if structureBits 106 106 v = 1 then c else c * extent

/-- The texel that a texture address selects, the address in `unit` parts of a texel (R469): rounded or truncated, as the Address
Rounding Enable of its dimension (U 0, V 1, R 2) and of the filter says. -/
def texelIndex (v dim : Nat) (magnified : Bool) (unit : Nat) (address : Int) : Int :=
  let b := 114 - 2 * dim - (if magnified then 0 else 1)
  if structureBits b b v = 1 then (address + unit / 2) / unit else address / unit

/-- Whether a texel of a footprint is the border colour (R460): of a cube one of a disabled face (faces numbered as in R249; of
the MONO filter see `borderColour`); of another surface one whose indices, mapped as the Address Control Modes say, lie beyond
the extent of its level. -/
def takesBorder (u : Surface) (level face : Nat) (at_ : Int × Int × Int) : Bool :=
  let beyond (extent : Nat) (c : Int) : Bool := decide (c < 0) || decide ((extent : Int) ≤ c)
  if u.ty = surfCube then !(u.raw.getLsbD ([4, 5, 2, 3, 0, 1].getD face 0))
  else
    beyond (mipExtent u.width level) at_.1 || (u.ty != surf1D && beyond (mipExtent u.height level) at_.2.1) ||
      (u.ty == surf3D && beyond (mipExtent u.depth level) at_.2.2)

/-- The reference value of a comparison (R469): the message's, or 0 when the message has none. -/
def comparisonRef (ref : Option DWord) : DWord := ref.getD 0#32

/-! ### The 8-tap filter modes of sample_8x8 (R464) -/

/-- Media formats with a luma channel (R432, R464). -/
def mediaHasLuma (format : Nat) : Bool := [0, 1, 2, 3, 4, 5, 6, 7, 12, 13, 16, 17, 18].contains format

/-- The mode of Enable 8-tap filter that applies (R464): on a surface with a Y channel 00 and 10 become 01 and 11; Y8_UNORM has
a note of its own for 10, which stays. -/
def avsMode (v format : Nat) : Nat :=
  let mode := structureBits 125 124 v
  if mode % 2 = 0 && mediaHasLuma format && !(mode == 2 && format == 12) then mode + 1 else mode

/-- What the 8-tap modes require (R464): modes 10 and 11 their formats, Y8_UNORM in mode 10 both adaptive filters bypassed and a
sharpness of 255; the adaptive filter on all channels only in an adaptive mode; RGB Adaptive only with RGB input there. -/
def avsModeOk (v format : Nat) : Bool :=
  let mode := structureBits 125 124 v
  (mode != 3 || [8, 9, 13, 14, 15].contains format) &&
    (mode != 2 || [8, 9, 10, 11, 12, 13, 14, 15].contains format) &&
    (!(mode == 2 && format == 12) ||
      (structureBits 4917 4917 v == 1 && structureBits 4918 4918 v == 1 && structureBits 4895 4888 v == 255)) &&
    (structureBits 4897 4897 v == 0 || avsMode v format % 2 == 1) &&
    (structureBits 4896 4896 v == 0 || (!mediaHasLuma format && avsMode v format % 2 == 1))

/-- The value the adaptive filter works on (R464): of RGB Adaptive `(R + 2G + B) >> 2`, else green. -/
def avsAdaptiveInput (v r g b : Nat) : Nat := if structureBits 4896 4896 v = 1 then (r + 2 * g + b) / 4 else g

end Sys2Proof.Machine
end

