-- ==== Sys2Proof/Machine/SharedFunctions.lean ====
section
/-! DEFINITION. The other shared functions (R15, R16, R93, R201, R220, R221) and the four send opcodes (R135-R138). -/

namespace Sys2Proof.Machine

/-- The Null shared function (R93): no effect; response registers hold free values. -/
def nullFunction : Handler := fun _ s => .ok (s, [])

/-- A shared function whose processing is not in the sources (93: a parameter): its response is what `Config.sharedFn`
gives, and it writes no memory. -/
def openFunction : Handler := fun m s =>
  .ok (s, wholeRegs ((List.range m.responseLength).map fun i =>
    Config.sharedFn m.sfid.code (m.desc.setWidth 32) m.ex m.payload s.draws i))

/-- Video motion estimation (R93, R431): the media surface that the message names is looked up, if it names one by a binding
table index below F0h or as bindless; what it finds is not in the sources. That the index is in descriptor bits 7:0, as in other
messages, is PRESUMED (log 23). -/
def motionEstimation : Handler := fun m s => do
  if m.bits 0 8 < 0xF0 ∨ m.bits 0 8 = 0xFC then
    let _ ← readMediaSurface s (← surfaceStateAddress s m) .motion
  openFunction m s

/-- A thread of a group notified on `n0.0` (R15, R134; PRESUMED which of the four counts, log 25). -/
def Thread.notifyGroup (t : Thread) (group : Option Nat) : Thread :=
  if t.group == group then { t with n0 := t.n0.setIfInBounds 0 (t.n0.getD 0 0#32 + 1#32) } else t

/-- A thread's arrival at its group's barrier (R15): the count goes up; at the expected number every thread of the group is
notified and the count is 0 again. A thread without a barrier is not counted. -/
def State.arrive (s : State) : State :=
  match s.ownGroup with
  | none => s
  | some g =>
    if !g.barrier then s
    else
      let full := decide (g.expected ≤ g.count + 1)
      let groups := s.groups.map fun h => if h.id == g.id then { h with count := if full then 0 else h.count + 1 } else h
      if full then
        { s with
          groups
          eu := s.eu.notifyGroup s.eu.group
          parked := s.parked.map (Thread.notifyGroup · s.eu.group) }
      else { s with groups }

/-- The message gateway (R15): a barrier message arrives at the barrier; what its other messages do is not in the sources,
and their response is free. -/
def gateway : Handler := fun m s =>
  .ok (if Config.gatewayIsBarrier (m.desc.setWidth 32) then s.arrive else s, [])

/-- Address of half `h` of register `n` of a URB message (R16: units of 128 bits, of which a 256- or 512-bit unit is two or
four), when the half lies inside the unified return buffer. -/
def urbRow (m : Msg) (n h : Nat) : Option Nat :=
  let a := Config.urbAddress (m.desc.setWidth 32) (m.payload.headD 0#256) n h
  if a + 16 ≤ Config.urbSize then some a else none

/-- Half `h` of register `n` of a URB message, written. -/
def urbWriteHalf (m : Msg) (u : Store) (n h : Nat) (r : HWord) : Store :=
  match urbRow m n h with
  | some a => Store.writeLE u a (r.extractLsb' (128 * h) 128).toNat 16
  | none => u

/-- Registers written to the unified return buffer from register `n` on. -/
def urbWrite (m : Msg) (u : Store) (n : Nat) : List HWord → Store
  | [] => u
  | r :: rest => urbWrite m (urbWriteHalf m (urbWriteHalf m u n 0 r) n 1 r) (n + 1) rest

/-- Half `h` of register `n` of a URB message, read: a free value outside the unified return buffer. -/
def urbReadHalf (m : Msg) (s : State) (n h : Nat) : BitVec 128 :=
  match urbRow m n h with
  | some a => BitVec.ofNat 128 (Store.readLE Config.urbFill s.urb a 16)
  | none => (Config.freeReg s.draws n).extractLsb' (128 * h) 128

/-- A URB message (R16): the payload after its first register is written, or registers are read, at addresses that the
descriptor and the first register select (`Config.urbAddress`); what lies outside the buffer writes nothing and reads as a
free value. -/
def urbFunction : Handler := fun m s =>
  if Config.urbIsWrite (m.desc.setWidth 32) then .ok ({ s with urb := urbWrite m s.urb 0 (m.payload.drop 1) }, [])
  else
    .ok (s, wholeRegs ((List.range m.responseLength).map fun i => urbReadHalf m s i 1 ++ urbReadHalf m s i 0))

/-- R220, R221: the reserved fields of a thread spawner message, and no header. -/
def spawnerCheck (m : Msg) : Exec Unit := do
  m.headerForbidden
  require (m.bits 29 2 == 0) (.messageDescriptor "Reserved31:29")
  require (m.bits 5 14 == 0) (.messageDescriptor "Reserved18:5")
  require (m.bits 2 2 == 0) (.messageDescriptor "Reserved3:2")

/-- Dereference Resource, and End Thread (R220, R221): one register, no response. A root thread's URB handle is dereferenced
unless the message keeps it; of a child thread nothing is. The thread's end is the message's EOT. -/
def dereferenceResource : Handler := fun m s => do
  spawnerCheck m
  require (m.bits 25 4 == 1) (.messageDescriptor "MessageLength")
  require (m.responseLength == 0) (.messageDescriptor "ResponseLength")
  let keeps := m.desc.getLsbD 1 || m.desc.getLsbD 4
  return ({ s with eu := { s.eu with urbHandle := s.eu.urbHandle && keeps } }, [])

/-- Spawn Thread (R221): it cannot end its thread. The thread spawner takes the request, a root or a child thread; the
thread it makes arrives as a dispatch, since the payload's layout is not in the sources (log 26). -/
def spawnThread : Handler := fun m s => do
  spawnerCheck m
  require (!m.eot) (.messageDescriptor "Opcode")
  let spawn : Spawn := { root := m.desc.getLsbD 4, payload := m.payload }
  return ({ s with media := { s.media with spawns := s.media.spawns ++ [spawn] } }, [])

/-- A thread spawner message by its opcode (R221). -/
def threadSpawner : Handler := fun m s => if m.desc.getLsbD 0 then spawnThread m s else dereferenceResource m s

/-- The shared function a message goes to (R93). -/
def sharedFunction : Handler := fun m s =>
  match m.sfid with
  | .null => nullFunction m s
  | .sampler => samplingEngine m s
  | .vme => motionEstimation m s
  | .pixelInterp | .cre => openFunction m s
  | .gateway => gateway m s
  | .dp2 => dataPort2 m s
  | .renderCache => renderCache m s
  | .urb => urbFunction m s
  | .spawner => threadSpawner m s
  | .readOnly => readOnlyPort m s
  | .dp0 => dataPort0 m s
  | .dp1 => dataPort1 m s

/-- `send` (R135). -/
def execSend (o : SendOp) (s : State) : Host.Outcome State Fault Refusal :=
  (issueMessage (.plain false o) sharedFunction s).outcome

/-- `sendc` (R136). -/
def execSendc (o : SendOp) (s : State) : Host.Outcome State Fault Refusal :=
  (issueMessage (.plain true o) sharedFunction s).outcome

/-- `sends` (R137). -/
def execSends (o : SendsOp) (s : State) : Host.Outcome State Fault Refusal :=
  (issueMessage (.split false o) sharedFunction s).outcome

/-- `sendsc` (R138). -/
def execSendsc (o : SendsOp) (s : State) : Host.Outcome State Fault Refusal :=
  (issueMessage (.split true o) sharedFunction s).outcome

/-- `sfid.Null` (R93). -/
def execSfidNull (f : SendForm) (s : State) : Host.Outcome State Fault Refusal := (issueMessage f nullFunction s).outcome

/-- `sfid.SamplingEngine` (R93, R201). -/
def execSfidSampler (f : SendForm) (s : State) : Host.Outcome State Fault Refusal := (issueMessage f samplingEngine s).outcome

/-- `sfid.MessageGateway` (R93, R15). -/
def execSfidGateway (f : SendForm) (s : State) : Host.Outcome State Fault Refusal := (issueMessage f gateway s).outcome

/-- `sfid.URB` (R93, R16). -/
def execSfidUrb (f : SendForm) (s : State) : Host.Outcome State Fault Refusal := (issueMessage f urbFunction s).outcome

/-- `sfid.ThreadSpawner` (R93, R220, R221). -/
def execSfidSpawner (f : SendForm) (s : State) : Host.Outcome State Fault Refusal := (issueMessage f threadSpawner s).outcome

/-- `sfid.VideoMotionEstimation` (R93). -/
def execSfidVme (f : SendForm) (s : State) : Host.Outcome State Fault Refusal :=
  (issueMessage f motionEstimation s).outcome

/-- `sfid.PixelInterpolator` (R93). -/
def execSfidPixelInterp (f : SendForm) (s : State) : Host.Outcome State Fault Refusal :=
  (issueMessage f openFunction s).outcome

/-- `sfid.CheckandRefinementEngine` (R93). -/
def execSfidCre (f : SendForm) (s : State) : Host.Outcome State Fault Refusal := (issueMessage f openFunction s).outcome

/-- Dereference Resource, the end-of-thread message (R220, R221). -/
def execTsDereference (f : SendForm) (s : State) : Host.Outcome State Fault Refusal :=
  (issueMessage f dereferenceResource s).outcome

/-- Spawn Thread (R221). -/
def execTsSpawn (f : SendForm) (s : State) : Host.Outcome State Fault Refusal := (issueMessage f spawnThread s).outcome

end Sys2Proof.Machine
end

