-- ==== Sys2Proof/Machine/Dispatch.lean ====
section
/-! DEFINITION. One arm per constructor of `Instr`, each one call of the instruction's meaning. -/

namespace Sys2Proof.Machine

/-- The effect of an instruction on the current thread and the machine. -/
def exec (i : Instr) (s : State) : Host.Outcome State Fault Refusal :=
  match i with
  | .illegal => Sys2Proof.Machine.execIllegal s
  | .mov o => Sys2Proof.Machine.execMov o s
  | .sel o => Sys2Proof.Machine.execSel o s
  | .movi o => Sys2Proof.Machine.execMovi o s
  | .not o => Sys2Proof.Machine.execNot o s
  | .and o => Sys2Proof.Machine.execAnd o s
  | .or o => Sys2Proof.Machine.execOr o s
  | .xor o => Sys2Proof.Machine.execXor o s
  | .shr o => Sys2Proof.Machine.execShr o s
  | .shl o => Sys2Proof.Machine.execShl o s
  | .smov o => Sys2Proof.Machine.execSmov o s
  | .asr o => Sys2Proof.Machine.execAsr o s
  | .cmp o => Sys2Proof.Machine.execCmp o s
  | .cmpn o => Sys2Proof.Machine.execCmpn o s
  | .csel o => Sys2Proof.Machine.execCsel o s
  | .bfrev o => Sys2Proof.Machine.execBfrev o s
  | .bfe o => Sys2Proof.Machine.execBfe o s
  | .bfi1 o => Sys2Proof.Machine.execBfi1 o s
  | .bfi2 o => Sys2Proof.Machine.execBfi2 o s
  | .jmpi o => Sys2Proof.Machine.execJmpi o s
  | .brd o => Sys2Proof.Machine.execBrd o s
  | .ifOp o => Sys2Proof.Machine.execIfOp o s
  | .brc o => Sys2Proof.Machine.execBrc o s
  | .elseOp o => Sys2Proof.Machine.execElseOp o s
  | .endif o => Sys2Proof.Machine.execEndif o s
  | .whileOp o => Sys2Proof.Machine.execWhileOp o s
  | .breakOp o => Sys2Proof.Machine.execBreakOp o s
  | .cont o => Sys2Proof.Machine.execCont o s
  | .halt o => Sys2Proof.Machine.execHalt o s
  | .calla o => Sys2Proof.Machine.execCalla o s
  | .call o => Sys2Proof.Machine.execCall o s
  | .ret o => Sys2Proof.Machine.execRet o s
  | .goto o => Sys2Proof.Machine.execGoto o s
  | .join o => Sys2Proof.Machine.execJoin o s
  | .wait o => Sys2Proof.Machine.execWait o s
  | .send o => Sys2Proof.Machine.execSend o s
  | .sendc o => Sys2Proof.Machine.execSendc o s
  | .sends o => Sys2Proof.Machine.execSends o s
  | .sendsc o => Sys2Proof.Machine.execSendsc o s
  | .math o => Sys2Proof.Machine.execMath o s
  | .add o => Sys2Proof.Machine.execAdd o s
  | .mul o => Sys2Proof.Machine.execMul o s
  | .avg o => Sys2Proof.Machine.execAvg o s
  | .frc o => Sys2Proof.Machine.execFrc o s
  | .rndu o => Sys2Proof.Machine.execRndu o s
  | .rndd o => Sys2Proof.Machine.execRndd o s
  | .rnde o => Sys2Proof.Machine.execRnde o s
  | .rndz o => Sys2Proof.Machine.execRndz o s
  | .mac o => Sys2Proof.Machine.execMac o s
  | .mach o => Sys2Proof.Machine.execMach o s
  | .lzd o => Sys2Proof.Machine.execLzd o s
  | .fbh o => Sys2Proof.Machine.execFbh o s
  | .fbl o => Sys2Proof.Machine.execFbl o s
  | .cbit o => Sys2Proof.Machine.execCbit o s
  | .addc o => Sys2Proof.Machine.execAddc o s
  | .subb o => Sys2Proof.Machine.execSubb o s
  | .sad2 o => Sys2Proof.Machine.execSad2 o s
  | .sada2 o => Sys2Proof.Machine.execSada2 o s
  | .dp4 o => Sys2Proof.Machine.execDp4 o s
  | .dph o => Sys2Proof.Machine.execDph o s
  | .dp3 o => Sys2Proof.Machine.execDp3 o s
  | .dp2 o => Sys2Proof.Machine.execDp2 o s
  | .line o => Sys2Proof.Machine.execLine o s
  | .pln o => Sys2Proof.Machine.execPln o s
  | .mad o => Sys2Proof.Machine.execMad o s
  | .lrp o => Sys2Proof.Machine.execLrp o s
  | .madm o => Sys2Proof.Machine.execMadm o s
  | .nop d => Sys2Proof.Machine.execNop d s
  | .mathInv o => Sys2Proof.Machine.execMathInv o s
  | .mathLog o => Sys2Proof.Machine.execMathLog o s
  | .mathExp o => Sys2Proof.Machine.execMathExp o s
  | .mathSqrt o => Sys2Proof.Machine.execMathSqrt o s
  | .mathRsq o => Sys2Proof.Machine.execMathRsq o s
  | .mathSin o => Sys2Proof.Machine.execMathSin o s
  | .mathCos o => Sys2Proof.Machine.execMathCos o s
  | .mathFdiv o => Sys2Proof.Machine.execMathFdiv o s
  | .mathPow o => Sys2Proof.Machine.execMathPow o s
  | .mathIntDivQr o => Sys2Proof.Machine.execMathIntDivQr o s
  | .mathIntDivQ o => Sys2Proof.Machine.execMathIntDivQ o s
  | .mathIntDivR o => Sys2Proof.Machine.execMathIntDivR o s
  | .mathInvm o => Sys2Proof.Machine.execMathInvm o s
  | .mathRsqrtm o => Sys2Proof.Machine.execMathRsqrtm o s
  | .sfidNull f => Sys2Proof.Machine.execSfidNull f s
  | .sfidSampler f => Sys2Proof.Machine.execSfidSampler f s
  | .sfidGateway f => Sys2Proof.Machine.execSfidGateway f s
  | .sfidDp2 f => Sys2Proof.Machine.execSfidDp2 f s
  | .sfidRenderCache f => Sys2Proof.Machine.execSfidRenderCache f s
  | .sfidUrb f => Sys2Proof.Machine.execSfidUrb f s
  | .sfidSpawner f => Sys2Proof.Machine.execSfidSpawner f s
  | .sfidVme f => Sys2Proof.Machine.execSfidVme f s
  | .sfidReadOnly f => Sys2Proof.Machine.execSfidReadOnly f s
  | .sfidDp0 f => Sys2Proof.Machine.execSfidDp0 f s
  | .sfidPixelInterp f => Sys2Proof.Machine.execSfidPixelInterp f s
  | .sfidDp1 f => Sys2Proof.Machine.execSfidDp1 f s
  | .sfidCre f => Sys2Proof.Machine.execSfidCre f s
  | .mt0rB f => Sys2Proof.Machine.execMt0rB f s
  | .mt0rAb f => Sys2Proof.Machine.execMt0rAb f s
  | .mt0rOwdb f => Sys2Proof.Machine.execMt0rOwdb f s
  | .mt0rDws f => Sys2Proof.Machine.execMt0rDws f s
  | .mt0rBs f => Sys2Proof.Machine.execMt0rBs f s
  | .mt0Memfence f => Sys2Proof.Machine.execMt0Memfence f s
  | .mt0wB f => Sys2Proof.Machine.execMt0wB f s
  | .mt0wOwdb f => Sys2Proof.Machine.execMt0wOwdb f s
  | .mt0wDws f => Sys2Proof.Machine.execMt0wDws f s
  | .mt0wBs f => Sys2Proof.Machine.execMt0wBs f s
  | .mt1rT f => Sys2Proof.Machine.execMt1rT f s
  | .mt1rUs f => Sys2Proof.Machine.execMt1rUs f s
  | .mt1aUi f => Sys2Proof.Machine.execMt1aUi f s
  | .mt1aUi4x2 f => Sys2Proof.Machine.execMt1aUi4x2 f s
  | .mt1rMb f => Sys2Proof.Machine.execMt1rMb f s
  | .mt1rTs f => Sys2Proof.Machine.execMt1rTs f s
  | .mt1aTa f => Sys2Proof.Machine.execMt1aTa f s
  | .mt1aTa4x2 f => Sys2Proof.Machine.execMt1aTa4x2 f s
  | .mt1wUs f => Sys2Proof.Machine.execMt1wUs f s
  | .mt1wMb f => Sys2Proof.Machine.execMt1wMb f s
  | .mt1aTc f => Sys2Proof.Machine.execMt1aTc f s
  | .mt1aTc4x2 f => Sys2Proof.Machine.execMt1aTc4x2 f s
  | .mt1wTs f => Sys2Proof.Machine.execMt1wTs f s
  | .mt1rA64Sb f => Sys2Proof.Machine.execMt1rA64Sb f s
  | .mt1rA64Us f => Sys2Proof.Machine.execMt1rA64Us f s
  | .mt1aA64Ui f => Sys2Proof.Machine.execMt1aA64Ui f s
  | .mt1aA64Ui4x2 f => Sys2Proof.Machine.execMt1aA64Ui4x2 f s
  | .mt1rA64B f => Sys2Proof.Machine.execMt1rA64B f s
  | .mt1wA64B f => Sys2Proof.Machine.execMt1wA64B f s
  | .mt1wA64Us f => Sys2Proof.Machine.execMt1wA64Us f s
  | .mt1wA64Sb f => Sys2Proof.Machine.execMt1wA64Sb f s
  | .mt1aUf f => Sys2Proof.Machine.execMt1aUf f s
  | .mt1aUf4x2 f => Sys2Proof.Machine.execMt1aUf4x2 f s
  | .mt1aA64Uf f => Sys2Proof.Machine.execMt1aA64Uf f s
  | .mt1aA64Uf4x2 f => Sys2Proof.Machine.execMt1aA64Uf4x2 f s
  | .mt2rUs f => Sys2Proof.Machine.execMt2rUs f s
  | .mt2rA64Sb f => Sys2Proof.Machine.execMt2rA64Sb f s
  | .mt2rA64Us f => Sys2Proof.Machine.execMt2rA64Us f s
  | .mt2rBs f => Sys2Proof.Machine.execMt2rBs f s
  | .mt2wUs f => Sys2Proof.Machine.execMt2wUs f s
  | .mt2wA64Us f => Sys2Proof.Machine.execMt2wA64Us f s
  | .mt2wA64Sb f => Sys2Proof.Machine.execMt2wA64Sb f s
  | .mt2wBs f => Sys2Proof.Machine.execMt2wBs f s
  | .mtCcOwb f => Sys2Proof.Machine.execMtCcOwb f s
  | .mtCcOwub f => Sys2Proof.Machine.execMtCcOwub f s
  | .mtCcOwdb f => Sys2Proof.Machine.execMtCcOwdb f s
  | .mtCcDws f => Sys2Proof.Machine.execMtCcDws f s
  | .mtScOwub f => Sys2Proof.Machine.execMtScOwub f s
  | .mtScMb f => Sys2Proof.Machine.execMtScMb f s
  | .mtRsi f => Sys2Proof.Machine.execMtRsi f s
  | .mtRtw f => Sys2Proof.Machine.execMtRtw f s
  | .mtRtr f => Sys2Proof.Machine.execMtRtr f s
  | .mtRtwSimd16 f => Sys2Proof.Machine.execMtRtwSimd16 f s
  | .mtRtwSimd16Repdata f => Sys2Proof.Machine.execMtRtwSimd16Repdata f s
  | .mtRtwSimd8DualsrcLo f => Sys2Proof.Machine.execMtRtwSimd8DualsrcLo f s
  | .mtRtwSimd8DualsrcHi f => Sys2Proof.Machine.execMtRtwSimd8DualsrcHi f s
  | .mtRtwSimd8Lo f => Sys2Proof.Machine.execMtRtwSimd8Lo f s
  | .mtRtwSimd16RepdataTm f => Sys2Proof.Machine.execMtRtwSimd16RepdataTm f s
  | .tsDereference f => Sys2Proof.Machine.execTsDereference f s
  | .tsSpawn f => Sys2Proof.Machine.execTsSpawn f s
  | .compactTwo o => Sys2Proof.Machine.execCompactTwo o s
  | .compactThree o => Sys2Proof.Machine.execCompactThree o s

end Sys2Proof.Machine
end

