-- ==== Sys2Proof/Machine/Blitter.lean ====
section
/-! DEFINITION. The blitter (49_blitter.md, R496-R518): its registers, and the operation that a write to BR27 starts. A blit
is one step, its pixels in rising x, then y (log 29). Its addresses are below the limit of its engine's context (R568). -/

namespace Sys2Proof.Machine

/-- Register BRn. -/
def Blitter.reg (b : Blitter) (n : Nat) : DWord := b.br.getD n 0#32

/-- The registers that do not appear in the sources. -/
def blitterAbsent (n : Nat) : Bool := n == 2 || n == 3 || n == 4 || n == 8 || n == 10 || (20 ≤ n && n ≤ 26)

/-- Must-be-zero bits of a register (R502, R509, R515-R518). -/
def blitterReserved (n : Nat) : DWord :=
  if n = 7 ∨ n = 15 then 0x0000003F#32 else if 27 ≤ n ∧ n ≤ 30 then 0xFFFF0000#32 else 0#32

/-- Bytes of a pixel (R498: the BR01 table, for both registers). -/
def depthBytes (c : Nat) : Nat :=
  match c with
  | 0 => 1
  | 1 | 2 => 2
  | _ => 4

/-- One blit as its registers describe it. `setup` operations (BR00 bit 30) take the setup registers (R498, R500-R502,
R518). -/
structure Blit where
  isXy : Bool
  takesSource : Bool
  depth : Nat
  bytes : Nat
  rop : BitVec 8
  solid : Bool
  clip : Bool
  monoSourceTransparent : Bool
  monoPatternTransparent : Bool
  writeAlpha : Bool
  writeRgb : Bool
  width : Nat
  height : Nat
  dst : Nat
  dstPitch : Int
  dstTiled : Bool
  src : Nat
  srcPitch : Int
  srcTiled : Bool
  colorSource : Bool
  monoSource : Bool
  colorPattern : Bool
  monoPattern : Bool
  pattern : Nat
  patternBack : DWord
  patternFore : DWord
  sourceBack : DWord
  sourceFore : DWord
  transparency : Nat
  monoStart : Nat
  bytePacked : Bool
  seedX : Nat
  seedY : Nat
deriving DecidableEq, Repr

/-- A pitch field (R499): bytes, or DWords on a tiled surface of an X, Y blit. -/
def pitchOf (field : BitVec 16) (tiled : Bool) : Int := if tiled then 4 * field.toInt else field.toInt

/-- The blit that the registers describe (R496-R518). Only an X, Y blit has tiled surfaces (R496, R499, R503, R505). A setup operation clips, and whether its pattern is monochrome BR00 bit 29
says (R496). A channel is written at 32 bits per pixel if BR00 or the raster operation register says so (R496, R498, R506;
log 29). -/
def Blitter.blit (b : Blitter) : Blit :=
  let c := b.reg 0
  let setup := c.getLsbD 30
  let k := if setup then b.reg 1 else b.reg 13
  let depth := (k.extractLsb' 24 2).toNat
  let pattern := c.getLsbD 1 || c.getLsbD 0
  let isXy := Config.blitIsXy (c.extractLsb' 22 7)
  let dstTiled := c.getLsbD 11 && isXy
  let srcTiled := c.getLsbD 15 && isXy
  { isXy
    takesSource := Config.blitTakesSource (c.extractLsb' 22 7)
    depth
    bytes := depthBytes depth
    rop := k.extractLsb' 16 8
    solid := k.getLsbD 31
    clip := setup || k.getLsbD 30
    monoSourceTransparent := k.getLsbD 29
    monoPatternTransparent := k.getLsbD 28
    writeAlpha := k.getLsbD 27 || c.getLsbD 21
    writeRgb := k.getLsbD 26 || c.getLsbD 20
    width := ((b.reg 14).extractLsb' 0 13).toNat / depthBytes depth
    height := ((b.reg 14).extractLsb' 16 13).toNat
    dst := ((b.reg 27).extractLsb' 0 16 ++ b.reg 9).toNat
    dstPitch := pitchOf (k.extractLsb' 0 16) dstTiled
    dstTiled
    src := ((b.reg 28).extractLsb' 0 16 ++ b.reg 12).toNat
    srcPitch := pitchOf ((b.reg 11).extractLsb' 0 16) srcTiled
    srcTiled
    colorSource := c.getLsbD 3
    monoSource := c.getLsbD 2
    colorPattern := if setup then pattern && !c.getLsbD 29 else c.getLsbD 1
    monoPattern := if setup then pattern && c.getLsbD 29 else c.getLsbD 0
    pattern := if setup then ((b.reg 30).extractLsb' 0 16 ++ b.reg 7).toNat
      else ((b.reg 29).extractLsb' 0 16 ++ b.reg 15).toNat
    patternBack := if setup then b.reg 5 else b.reg 16
    patternFore := if setup then b.reg 6 else b.reg 17
    sourceBack := if setup then b.reg 5 else b.reg 18
    sourceFore := if setup then b.reg 6 else b.reg 19
    transparency := (c.extractLsb' 8 3).toNat
    monoStart := (c.extractLsb' 17 3).toNat
    bytePacked := c.getLsbD 16
    seedX := (c.extractLsb' 12 3).toNat
    seedY := (c.extractLsb' 5 3).toNat }

/-- R507: a raster operation on `n` bits. -/
def rasterOp (rop : BitVec 8) (p s d : Nat) : Nat → Nat
  | 0 => 0
  | n + 1 =>
    (if rop.getLsbD (4 * (p % 2) + 2 * (s % 2) + d % 2) then 1 else 0) + 2 * rasterOp rop (p / 2) (s / 2) (d / 2) n

/-- The components of a pixel as (low bit, width), alpha apart (R497; the layouts are PRESUMED, log 29). -/
def colourFields (depth : Nat) : List (Nat × Nat) × Option (Nat × Nat) :=
  match depth with
  | 0 => ([(0, 8)], none)
  | 1 => ([(0, 5), (5, 6), (11, 5)], none)
  | 2 => ([(0, 5), (5, 5), (10, 5)], some (15, 1))
  | _ => ([(0, 8), (8, 8), (16, 8)], some (24, 8))

/-- A component of a pixel. -/
def component (v : Nat) (f : Nat × Nat) : Nat := v / 2 ^ f.1 % 2 ^ f.2

/-- R497: each compared component is in its range. -/
def inRange (depth : Nat) (withAlpha : Bool) (low high : DWord) (p : Nat) : Bool :=
  let (colours, alpha) := colourFields depth
  let fields := colours ++ (if withAlpha then alpha.toList else [])
  fields.all fun f =>
    decide (component low.toNat f ≤ component p f) && decide (component p f ≤ component high.toNat f)

/-- R497: the transparency test on the source and destination pixels. -/
def transparencyWrites (b : Blit) (low high : DWord) (s d : Nat) : Bool :=
  match b.transparency with
  | 1 => !inRange b.depth false low high s
  | 3 => !inRange b.depth true low high s
  | 5 => inRange b.depth true low high d
  | 7 => inRange b.depth false low high d
  | _ => true

/-- The address of a pixel of a surface; where a tiled one has it is open (R499, `Config.texelOffset`). -/
def pixelAddress (limit base : Nat) (pitch : Int) (tiled : Bool) (bytes x y : Nat) : Exec Nat := do
  let a : Int :=
    if tiled then (base + Config.texelOffset (BitVec.ofInt 256 pitch) (x * bytes) y 0 0 0 : Nat)
    else (base : Int) + y * pitch + x * bytes
  if a < 0 then .error (.fault (.outsideAddressSpace 0))
  else do
    checkBelow limit a.toNat bytes
    return a.toNat

/-- Bits of a scan line of a monochrome source (R496: word aligned; byte aligned when byte packed). -/
def monoLineBits (b : Blit) : Nat :=
  let n := b.monoStart + b.width
  if b.bytePacked then (n + 7) / 8 * 8 else (n + 15) / 16 * 16

/-- Bytes of a whole monochrome source. -/
def monoSourceBytes (b : Blit) : Nat := b.height * monoLineBits b / 8

/-- Bit `k` of a row of bytes, the most significant bit of each byte first (PRESUMED, log 29). -/
def bitAt (byte : Nat → Byte) (k : Nat) : Bool := (byte (k / 8)).getLsbD (7 - k % 8)

/-- Bytes that come with the command: a monochrome pattern of 8 (R509), then a monochrome source. -/
structure Immediate where
  pattern : List Byte
  source : Option (List Byte)
deriving DecidableEq, Repr

/-- The immediate data a blit needs; none if the data are not what it expects (R508: data it does not receive, or that it did
not expect). -/
def splitImmediate (b : Blit) (data : List Byte) : Option Immediate :=
  let n := if b.monoPattern && !b.solid then 8 else 0
  let rest := data.drop n
  if data.length < n then none
  else if b.monoSource && b.takesSource then
    if rest.length == monoSourceBytes b then some ⟨data.take n, some rest⟩ else none
  else if rest.isEmpty then some ⟨data.take n, none⟩
  else none

/-- An operand of a pixel: its value, and whether its monochrome transparency suppresses the write (R514). -/
structure Operand where
  value : Nat
  suppressed : Bool
deriving DecidableEq, Repr

/-- A monochrome operand (R514). -/
def monoOperand (bit transparent : Bool) (back fore : DWord) : Operand :=
  if bit then ⟨fore.toNat, false⟩ else ⟨back.toNat, transparent⟩

/-- The pattern operand of a pixel (R506, R509, R514); without a pattern it is a draw. Solid Pattern Select does not apply to a
colour pattern (R498). -/
def patternOperand (s : State) (b : Blit) (im : Immediate) (x y : Nat) : Exec Operand := do
  let px := (x + b.seedX) % 8
  let py := (y + b.seedY) % 8
  if b.solid && !b.colorPattern then return ⟨b.patternBack.toNat, b.monoPattern && b.monoPatternTransparent⟩
  else if b.monoPattern then
    return monoOperand (bitAt (fun k => im.pattern.getD k 0#8) (8 * py + px)) b.monoPatternTransparent b.patternBack
      b.patternFore
  else if b.colorPattern then
    let a := b.pattern + (8 * py + px) * b.bytes
    checkBelow s.bcs.limit a b.bytes
    return ⟨Memory.readLE s.mem a b.bytes, false⟩
  else return ⟨(s.draw (8191 * y + x) 23).toNat, false⟩

/-- The source operand of a pixel (R504, R505, R514); without a source it is a draw, such as the colour of BR18, which R512 says
is "used to support" a solid fill (log 29). -/
def sourceOperand (s : State) (b : Blit) (im : Immediate) (x y : Nat) : Exec Operand := do
  if b.monoSource then
    let k := y * monoLineBits b + b.monoStart + x
    match im.source with
    | some l => return monoOperand (bitAt (fun i => l.getD i 0#8) k) b.monoSourceTransparent b.sourceBack b.sourceFore
    | none =>
      checkBelow s.bcs.limit (b.src + k / 8) 1
      return monoOperand (bitAt (fun i => Memory.read s.mem (b.src + i)) k) b.monoSourceTransparent b.sourceBack b.sourceFore
  else if b.colorSource then
    let a ← pixelAddress s.bcs.limit b.src b.srcPitch b.srcTiled b.bytes x y
    return ⟨Memory.readLE s.mem a b.bytes, false⟩
  else return ⟨(s.draw (8191 * y + x) 24).toNat, false⟩

/-- The byte mask of a pixel (R496, R498, R506): at 32 bits per pixel the alpha byte and the colour bytes apart. -/
def maskedPixel (b : Blit) (old new : Nat) : Nat :=
  if b.bytes = 4 then
    (if b.writeRgb then new else old) % 2 ^ 24 + 2 ^ 24 * ((if b.writeAlpha then new else old) / 2 ^ 24 % 256)
  else new

/-- One pixel of a blit (R497, R506, R507). With clipping, whether it is written is a draw: the clip registers are not in
the sources (R503). -/
def blitPixel (low high : DWord) (b : Blit) (im : Immediate) (s : State) (x y : Nat) : Exec State := do
  let a ← pixelAddress s.bcs.limit b.dst b.dstPitch b.dstTiled b.bytes x y
  let d := Memory.readLE s.mem a b.bytes
  let p ← patternOperand s b im x y
  let src ← sourceOperand s b im x y
  let clipped := b.clip && (s.draw (8191 * y + x) 25).getLsbD 0
  if p.suppressed || src.suppressed || clipped || !transparencyWrites b low high src.value d then return s
  else
    let r := rasterOp b.rop p.value src.value d (8 * b.bytes)
    return s.storeAs .agent a b.bytes (maskedPixel b d r)

/-- The pixels of a list, one after another. -/
def blitPixels (low high : DWord) (b : Blit) (im : Immediate) : State → List (Nat × Nat) → Exec State
  | s, [] => .ok s
  | s, (x, y) :: rest => do blitPixels low high b im (← blitPixel low high b im s x y) rest

/-- The alignment of a surface's base address (R503, R505, R515, R516): 4 KByte if tiled, 64 bytes of a linear one of an X, Y
blit. -/
def blitBaseOk (b : Blit) (tiled : Bool) (base : Nat) : Bool :=
  if tiled then base % 4096 == 0 else base % 64 == 0 || !b.isXy

/-- The alignment of a tiled pitch (R499): 128 bytes, which Tile-Y asks for; Tile-X asks for 512, but which of the two a surface
has no register of the sources says. -/
def blitPitchOk (tiled : Bool) (pitch : Int) : Bool := !tiled || pitch % 128 == 0

/-- What a blit requires of its addresses and pitches (R499, R503, R505, R509, R515, R516). -/
def checkBlit (b : Blit) : Exec Unit := do
  require (blitBaseOk b b.dstTiled b.dst) (.hostEvent "DestinationAddress")
  require (blitPitchOk b.dstTiled b.dstPitch) (.hostEvent "DestinationPitch")
  require (!b.colorSource || blitBaseOk b b.srcTiled b.src) (.hostEvent "SourceAddress")
  require (!b.colorSource || blitPitchOk b.srcTiled b.srcPitch) (.hostEvent "SourcePitch")
  require (!b.monoSource || b.takesSource || b.src % 64 == 0) (.hostEvent "SourceAddress")
  require (!b.colorPattern || b.pattern % (64 * b.bytes) == 0) (.hostEvent "PatternAddress")

/-- The working source address after a blit (R499, R504): a colour source's has moved by its pitch with each scan line; a
monochrome source's in memory is a draw, since no rule gives its step; else it is unchanged. -/
def sourceAfter (s : State) (b : Blit) : BitVec 48 :=
  if b.colorSource then BitVec.ofInt 48 (b.src + b.height * b.srcPitch)
  else if b.monoSource && !b.takesSource then (s.draw 12 26).setWidth 48
  else BitVec.ofNat 48 b.src

/-- The registers after a blit (R496, R499, R503, R508): idle, and working registers, of which the destination's and the height
and width hold draws (95 C5). -/
def brAfter (s : State) (b : Blit) : Vector DWord 31 :=
  let a := sourceAfter s b
  let br := ((s.blt.br.setIfInBounds 9 ((s.draw 9 26).setWidth 32)).setIfInBounds 14 ((s.draw 14 26).setWidth 32))
  let br := (br.setIfInBounds 12 (a.extractLsb' 0 32)).setIfInBounds 28 (0#16 ++ a.extractLsb' 32 16)
  (br.setIfInBounds 27 ((s.draw 27 26).setWidth 16 |>.setWidth 32)).setIfInBounds 0 (s.blt.reg 0 &&& 0x7FFFFFFF#32)

/-- The engine runs (R515): the pixels are written, and it is idle again. Data that are not what the registers describe make it
stuck (R508), and a stuck engine stays busy (R496). -/
def State.startBlit (s : State) (data : List Byte) : Exec State := do
  let b := s.blt.blit
  if s.blt.stuck then return s
  match splitImmediate b data with
  | none =>
    return { s with blt := { br := s.blt.br.setIfInBounds 0 (s.blt.reg 0 ||| 0x80000000#32), stuck := true } }
  | some im =>
    checkBlit b
    let t ← blitPixels (s.blt.reg 18) (s.blt.reg 19) b im s
      ((List.range b.height).flatMap fun y => (List.range b.width).map fun x => (x, y))
    return { t with blt := { s.blt with br := brAfter s b } }

/-- What a write to a register leaves in it: bits 31, 29 and 4:0 of BR00 are "written by hardware, not by the command" (R496): the
busy bit stays, the others are decoded. -/
def Blitter.written (b : Blitter) (n : Nat) (v : DWord) : DWord :=
  if n = 0 then
    let d := Config.blitDecode v
    (v &&& 0x5FFFFFE0#32) ||| (b.reg 0 &&& 0x80000000#32) ||| ((d.extractLsb' 5 1).setWidth 32 <<< 29) |||
      (d.extractLsb' 0 5).setWidth 32
  else v

/-- A write to a blitter register, by a command that may carry immediate data; a write to BR27 starts the engine
(R515). -/
def State.writeBr (s : State) (n : Fin 31) (v : DWord) (data : List Byte) : Exec State := do
  require (!blitterAbsent n.val) (.hostEvent "BlitterRegister")
  require (v &&& blitterReserved n.val == 0#32) (.hostEvent "BlitterReserved")
  let s1 := { s with blt := { s.blt with br := s.blt.br.set n.val (s.blt.written n.val v) n.isLt } }
  if n.val = 27 then s1.startBlit data else return s1

end Sys2Proof.Machine
end

