-- ==== Sys2Proof/Machine/Interrupts.lean ====
section
/-! DEFINITION. Interrupt register groups (R549, R575, R576) and their bit tables (R558-R562, R572, R581). -/

namespace Sys2Proof.Machine

/-- What a group does with conditions that rise (R576): the unmasked ones latch in IIR, or a second time in the hidden
bit. -/
def Irq.latch (q : Irq) (edges : DWord) : Irq :=
  let e := edges &&& ~~~q.imr
  { q with iir := q.iir ||| e, iir2 := q.iir2 ||| (e &&& q.iir) }

/-- Conditions become true (R576): a rising edge where the status bit was 0. -/
def Irq.raise (q : Irq) (conditions : DWord) : Irq :=
  { q.latch (conditions &&& ~~~q.isr) with isr := q.isr ||| conditions }

/-- Conditions become true whatever the interrupt mask says (R561: a page fault in Fault Repair Mode). -/
def Irq.raiseUnmasked (q : Irq) (conditions : DWord) : Irq :=
  { ({ q with imr := q.imr &&& ~~~conditions } : Irq).raise conditions with imr := q.imr }

/-- Conditions become false: only the status bits change (R575, R576). -/
def Irq.lower (q : Irq) (conditions : DWord) : Irq := { q with isr := q.isr &&& ~~~conditions }

/-- A software write to IIR (R576): each bit written 1 is cleared, or stays set for a second pending interrupt, which is
used up. -/
def Irq.clear (q : Irq) (w : DWord) : Irq :=
  { q with iir := q.iir &&& ~~~(w &&& ~~~q.iir2), iir2 := q.iir2 &&& ~~~w }

/-- The group's request (R576). -/
def Irq.request (q : Irq) : Bool := q.iir &&& q.ier != 0#32

/-- A register after a write that leaves some of its bits as they are. -/
def keepBits (old kept v : DWord) : DWord := (old &&& kept) ||| (v &&& ~~~kept)

/-- A software write to a register of a group (R575); ISR is read-only, and writes of the `future` bits are ignored (93
section 1.2): they keep their reset values. -/
def Irq.write (q : Irq) (r : IrqReg) (future v : DWord) : Irq :=
  match r with
  | .imr => { q with imr := keepBits q.imr future v }
  | .iir => q.clear (v &&& ~~~future)
  | .ier => { q with ier := keepBits q.ier future v }

/-- An engine's registers. -/
def State.engine (s : State) : EngineId → Engine
  | .rcs => s.rcs
  | .bcs => s.bcs
  | .vcs => s.vcs
  | .vcs2 => s.vcs2
  | .vecs => s.vecs

/-- The state with an engine's registers replaced. -/
def State.setEngine (s : State) (e : EngineId) (v : Engine) : State :=
  match e with
  | .rcs => { s with rcs := v }
  | .bcs => { s with bcs := v }
  | .vcs => { s with vcs := v }
  | .vcs2 => { s with vcs2 := v }
  | .vecs => { s with vecs := v }

/-- A display-engine interrupt group. -/
def Device.group (d : Device) : DisplayUnit → Irq
  | .pipeA => d.pipeA
  | .pipeB => d.pipeB
  | .pipeC => d.pipeC
  | .port => d.port
  | .gtc => d.gtc
  | .srd => d.srd
  | .audio => d.audio

/-- The device with a display-engine interrupt group replaced. -/
def Device.setGroup (d : Device) (u : DisplayUnit) (q : Irq) : Device :=
  match u with
  | .pipeA => { d with pipeA := q }
  | .pipeB => { d with pipeB := q }
  | .pipeC => { d with pipeC := q }
  | .port => { d with port := q }
  | .gtc => { d with gtc := q }
  | .srd => { d with srd := q }
  | .audio => { d with audio := q }

/-- Whether any group requests an interrupt and the master enable lets it reach the host (R549, R576). -/
def State.hostInterrupt (s : State) : Bool :=
  let d := s.dev
  d.masterEnable &&
  (s.rcs.irq.request || s.bcs.irq.request || s.vcs.irq.request || s.vcs2.irq.request || s.vecs.irq.request ||
    d.pipeA.request || d.pipeB.request || d.pipeC.request || d.port.request || d.gtc.request || d.srd.request ||
    d.audio.request)

/-! ### Bit tables -/

/-- Bits of an engine's group that name a source for which the spec gives no condition of the machine's own (R561: TR Invalid
Tile Detection, L3 Counter Save): the outside world raises these. -/
def engineSources : EngineId → DWord
  | .rcs => 0x00000600#32
  | .bcs | .vcs | .vcs2 | .vecs => 0#32

/-- Bits of a group that "may be assigned to interrupts on future products/steppings": writes of them are ignored (93 section
1.2, which names R561; R558-R560, R562). They read as 0, but in IMR, whose printed reset value has them set (R575, log 58). -/
def IrqGroup.futureBits : IrqGroup → DWord
  | .engine .rcs => 0xFFFFF000#32
  | .engine .bcs => 0xF0000000#32
  | .engine .vcs => 0x0000F000#32
  | .engine .vcs2 => 0xF0000000#32
  | .engine .vecs => 0xFFFFF000#32
  | .display _ => 0#32

/-- Bits of a display group that name a source (R572, R581); the other groups' tables are not in the sources. -/
def displaySources : DisplayUnit → DWord
  | .gtc => 0x03830303#32
  | .srd => if Config.srdPushDonePresent then 0x038B0B0F#32 else 0x03030307#32
  | _ => 0xFFFFFFFF#32

/-- How far an engine's common sources are moved up (R558, R560: 16 positions). -/
def EngineId.shift : EngineId → Nat
  | .bcs | .vcs2 => 16
  | _ => 0

/-- Command Parser User Interrupt (R558-R562). -/
def EngineId.userBit (e : EngineId) : DWord := 1#32 <<< e.shift
/-- Command Parser Master Error. -/
def EngineId.errorBit (e : EngineId) : DWord := 1#32 <<< (e.shift + 3)
/-- PIPE_CONTROL or MI_FLUSH_DW Notify Interrupt. -/
def EngineId.notifyBit (e : EngineId) : DWord := 1#32 <<< (e.shift + 4)
/-- Timeout Counter Expired. -/
def EngineId.timeoutBit (e : EngineId) : DWord := 1#32 <<< (e.shift + 6)
/-- Context Switch Interrupt. -/
def EngineId.switchBit (e : EngineId) : DWord := 1#32 <<< (e.shift + 8)
/-- Wait on Semaphore. -/
def EngineId.semaphoreBit (e : EngineId) : DWord := 1#32 <<< (e.shift + 11)
/-- Page Fault (R561), for all command streamers in the render group. -/
def pageFaultBit : DWord := 1#32 <<< 7

/-- An engine's group with new contents; the hardware status page's storage of ISR is written when a bit that HWSTAM does not
mask changes (R574). -/
def State.setIrq (s : State) (e : EngineId) (q : Irq) : State :=
  let v := s.engine e
  let s1 := s.setEngine e { v with irq := q }
  if (v.irq.isr ^^^ q.isr) &&& ~~~v.hwstam != 0#32 then s1.storeAs .agent v.hwsPga.toNat 4 q.isr.toNat else s1

/-- Conditions of an engine become true: those the engine's own mask lets out (R549). -/
def State.raiseEngine (s : State) (e : EngineId) (conditions : DWord) : State :=
  s.setIrq e ((s.engine e).irq.raise (conditions &&& ~~~(s.engine e).engineMask))

/-- Conditions of an engine become false. -/
def State.lowerEngine (s : State) (e : EngineId) (conditions : DWord) : State :=
  s.setIrq e ((s.engine e).irq.lower conditions)

/-- A condition that is a short pulse (R575). -/
def State.pulse (s : State) (e : EngineId) (conditions : DWord) : State := (s.raiseEngine e conditions).lowerEngine e conditions

/-- The Page Fault interrupt (R561), in the render group for every command streamer: in Fault Repair Mode no mask holds it
back. -/
def State.pulsePageFault (s : State) : State :=
  if s.dev.faultRepair then (s.setIrq .rcs (s.rcs.irq.raiseUnmasked pageFaultBit)).lowerEngine .rcs pageFaultBit
  else s.pulse .rcs pageFaultBit

/-- The bits of a group whose conditions arise outside the machine. No other bit is set by the outside world: a reserved one has
no source, and the conditions of the others are the machine's own (R549). -/
def IrqGroup.sources : IrqGroup → DWord
  | .engine e => engineSources e
  | .display u => displaySources u

/-- Conditions of a group that arise outside become true. -/
def State.raiseGroup (s : State) (g : IrqGroup) (conditions : DWord) : State :=
  match g with
  | .engine e => s.raiseEngine e (conditions &&& g.sources)
  | .display u => { s with dev := s.dev.setGroup u ((s.dev.group u).raise (conditions &&& g.sources)) }

/-- Conditions of a group that arise outside become false. -/
def State.lowerGroup (s : State) (g : IrqGroup) (conditions : DWord) : State :=
  match g with
  | .engine e => s.lowerEngine e (conditions &&& g.sources)
  | .display u => { s with dev := s.dev.setGroup u ((s.dev.group u).lower (conditions &&& g.sources)) }

/-- A host write to a register of a group (R575, R576). -/
def State.writeGroup (s : State) (g : IrqGroup) (r : IrqReg) (v : DWord) : State :=
  match g with
  | .engine e => let w := s.engine e; s.setEngine e { w with irq := w.irq.write r g.futureBits v }
  | .display u => { s with dev := s.dev.setGroup u ((s.dev.group u).write r g.futureBits v) }

end Sys2Proof.Machine
end

