-- ==== Sys2Proof/Machine/Engines.lean ====
section
/-! DEFINITION. The command streamers as far as the sources describe them (R547, R548, R565-R569, R574, R577, R580): errors,
execlists, context status, status pages, register loads; counters (R551), the performance report (R578) and power state
(R579). -/

namespace Sys2Proof.Machine

/-! ### Errors (R547, R557, R573, R582, R583) -/

/-- An error condition: its status bit, and if the error mask lets it, its error bit and the Master Error interrupt. -/
def State.engineError (s : State) (e : EngineId) (bit : DWord) : State :=
  let v := s.engine e
  let seen := bit &&& ~~~v.emr
  let s1 := s.setEngine e { v with esr := v.esr ||| bit, eir := v.eir ||| seen }
  if seen = 0#32 then s1 else s1.raiseEngine e e.errorBit

/-- Instruction Error: bit 0; the engine parses no more until reset. -/
def State.instructionError (s : State) (e : EngineId) : State :=
  let s1 := s.engineError e 1#32
  s1.setEngine e { s1.engine e with stuck := true }

/-- A write to the Error ID register: bits written 1 are cleared, but for the Instruction Error; when none is left the
Master Error condition is over. -/
def State.clearErrors (s : State) (e : EngineId) (w : DWord) : State :=
  let v := s.engine e
  let left := v.eir &&& ~~~(w &&& ~~~1#32)
  let s1 := s.setEngine e { v with eir := left, esr := v.esr &&& ~~~(w &&& ~~~1#32) }
  if left = 0#32 then s1.lowerEngine e e.errorBit else s1

/-- Whether an engine supports the Client ID of a command header (R557, R573): MI, 2D and 3D; which of 2D and 3D the video
and video-enhancement engines support is not stated (R582, R583), a draw. -/
def State.supportsClient (s : State) (e : EngineId) (header : DWord) : Bool :=
  match (header.extractLsb' 29 3).toNat with
  | 0 => true
  | 2 | 3 =>
    match e with
    | .rcs | .bcs => true
    | _ => (s.draw (header.extractLsb' 29 3).toNat 20).getLsbD 0
  | _ => false

/-- An engine whose parser waits: for a semaphore, or for the translation of an access of its own (R548). -/
def Engine.waits (v : Engine) : Bool := v.semaphoreWaiting || v.faults.any fun f => f.source == .streamer

/-- Whether an engine executes commands: it has a context, since "no command is fetched until the host submits an execlist" (R585),
is not stuck (R547) and does not wait. -/
def Engine.parses (v : Engine) : Bool := v.ccid.isSome && !v.stuck && !v.waits

/-- What a command does: nothing on an engine that does not parse. -/
def State.parsing (s : State) (e : EngineId) (command : State → Exec State) : Exec State :=
  if (s.engine e).parses then command s else .ok s

/-- What a command does that may be privileged (R550): in a non-privileged batch a privileged one sets error bit 2 and is a
NOOP. -/
def State.privilegedCommand (s : State) (e : EngineId) (privileged : Bool) (command : State → Exec State) : Exec State :=
  if privileged && !(s.engine e).batchPrivileged then .ok (s.engineError e 4#32) else command s

/-- A command header parsed (R547, R550): an unsupported client is an Instruction Error; what the other commands do is not in
the sources. -/
def State.parse (s : State) (e : EngineId) (header : DWord) (privileged : Bool) : Exec State :=
  s.parsing e fun t =>
    if !t.supportsClient e header then .ok (t.instructionError e) else t.privilegedCommand e privileged .ok

/-! ### Contexts (R565-R569) -/

/-- A field of a context descriptor. -/
def descField (d : QWord) (lo n : Nat) : Nat := (d.extractLsb' lo n).toNat

/-- The Context ID of a descriptor (R566). -/
def contextId (d : QWord) : DWord := d.extractLsb' 32 32

/-- A well-formed context descriptor (R565-R568). -/
def checkDescriptor (d : QWord) : Exec Unit := do
  require (descField d 9 3 == 0 && !d.getLsbD 5) (.hostEvent "DescriptorReserved")
  require (!d.getLsbD 54 && !d.getLsbD 53) (.hostEvent "ContextIdReserved")
  require (decide (descField d 6 2 ≤ 2)) (.hostEvent "FaultHandling")
  require (!d.getLsbD 3 || descField d 6 2 == 0) (.hostEvent "LegacyFaultHandling")
  require (d.getLsbD 3 || !d.getLsbD 8) (.hostEvent "PrivilegeAccess")

/-- The page of a context's status (R580): at its Logical Ring Context Address (PRESUMED, log 27), in the global GTT, whose
addresses have 32 bits (R565, R568). -/
def contextPage (d : QWord) : Nat := descField d 12 20 * 4096

/-- The state after a DWord of a page is stored. -/
def State.storeDword (s : State) (page k : Nat) (v : DWord) : State :=
  s.storeAs .agent (page + 4 * k) 4 v.toNat

/-- The state after a QWord of a page is stored, low DWord first. -/
def State.storeQword (s : State) (page k : Nat) (v : QWord) : State :=
  s.storeAs .agent (page + 4 * k) 8 v.toNat

/-- A context status entry written to the status page (R569, R574): the next of the six, and its index. -/
def State.reportStatus (s : State) (e : EngineId) (entry : QWord) : State :=
  let v := s.engine e
  let k := (v.csbLast + 1) % 6
  let page := v.hwsPga.toNat
  let s1 := (s.storeQword page (16 + 2 * k) entry).storeDword page 31 (BitVec.ofNat 32 k)
  s1.setEngine e { s1.engine e with csbLast := k }

/-- The low DWord of a context status entry for a reason (R569). -/
def SwitchReason.bits : SwitchReason → DWord
  | .complete => 1#32 <<< 4
  | .preempted => 1#32 <<< 1
  | .semaphore poll => (1#32 <<< 7) ||| (if poll then 1#32 <<< 11 else 0#32)
  | .scanline p => (1#32 <<< 8) ||| displayField p
  | .vblank p => (1#32 <<< 6) ||| displayField p
  | .syncFlip p => (1#32 <<< 5) ||| displayField p
where
  /-- Display Plane, bits 19:16, and Display Plane Additional, bits 14:12. -/
  displayField (p : BitVec 7) : DWord := (p.extractLsb' 3 4).setWidth 32 <<< 16 ||| (p.extractLsb' 0 3).setWidth 32 <<< 12

/-- The legal values of the display fields (R569). -/
def displayLegal (p : BitVec 7) : Bool :=
  let main := (p.extractLsb' 3 4).toNat
  (main == 0 && decide ((p.extractLsb' 0 3).toNat ≤ 5)) || (decide (3 ≤ main) && decide (main ≤ 8))

/-- R569: the display fields of a reason name a plane or pipe. -/
def checkReason : SwitchReason → Exec Unit
  | .scanline p => require (displayLegal p) (.hostEvent "DisplayPlane")
  | .vblank p => require (displayLegal p) (.hostEvent "DisplayPlane")
  | .syncFlip p => require (displayLegal p) (.hostEvent "DisplayPlane")
  | .complete | .preempted | .semaphore _ => .ok ()

/-- The Logical Ring Context Address of a descriptor (R565). -/
def contextLrca (d : QWord) : BitVec 20 := d.extractLsb' 12 20

/-- The state of an engine's current context, as its image (R18): the base addresses and `sip` are the render engine's. -/
def State.contextImage (s : State) (e : EngineId) (lrca : BitVec 20) : ContextImage :=
  let v := s.engine e
  { lrca, ringHead := v.ringHead, ringTail := v.ringTail, ctxTimestamp := v.ctxTimestamp, pdp := v.pdp, ctx := s.ctx }

/-- The image of a context of which none was saved (R18: arbitrary): draws, with base addresses of 4 KByte (R21). -/
def State.freeImage (s : State) (lrca : BitVec 20) : ContextImage :=
  let size (k : Nat) : BitVec 48 := (s.draw k 30).setWidth 48
  let base (k : Nat) : BitVec 48 := (s.draw k 30).setWidth 36 ++ 0#12
  { lrca
    ringHead := (s.draw 0 30).setWidth 32
    ringTail := (s.draw 1 30).setWidth 32
    ctxTimestamp := s.draw 2 30
    pdp := Vector.ofFn fun i => s.draw (3 + i.val) 30
    ctx :=
      { generalBase := base 7, surfaceBase := base 8, dynamicBase := base 9, instructionBase := base 10
        indirectBase := base 11, bindlessBase := base 12, generalSize := size 13, surfaceSize := size 14
        dynamicSize := size 15, instructionSize := size 16, indirectSize := size 17, bindlessSize := size 18
        sip := (s.draw 19 30).setWidth 32 } }

/-- The state after an engine's context state is taken from an image. -/
def State.loadImage (s : State) (e : EngineId) (i : ContextImage) : State :=
  let s1 := s.setEngine e
    { s.engine e with ringHead := i.ringHead, ringTail := i.ringTail, ctxTimestamp := i.ctxTimestamp, pdp := i.pdp }
  match e with
  | .rcs => { s1 with ctx := i.ctx }
  | .bcs | .vcs | .vcs2 | .vecs => s1

/-- Whether a context's state is restored (R565): its LRCA is not the last context's, or Force Restore (bit 2) is set. -/
def Engine.restores (v : Engine) (d : QWord) : Bool := d.getLsbD 2 || v.lrca != some (contextLrca d)

/-- The context state that a descriptor's context starts with (R565): restored; or on an LRCA match kept, but that Force PD
Restore (bit 1) reloads the page directory, which software has changed in the image, so that its value is a draw (log 54). -/
def State.restoreContext (s : State) (e : EngineId) (d : QWord) : State :=
  let v := s.engine e
  let a := contextLrca d
  if v.restores d then
    match v.images.find? fun i => i.lrca == a with
    | some i => s.loadImage e i
    | none => s.loadImage e (s.freeImage a)
  else if d.getLsbD 1 then s.setEngine e { v with pdp := (s.freeImage a).pdp }
  else s

/-- A context becomes current (R565, R580): where its state is restored, the time of its restore is reported; on an LRCA match
"no other operations of context restore will occur". -/
def State.enterContext (s : State) (e : EngineId) (d : QWord) (first : Bool) : State :=
  let page := contextPage d
  let s0 := (s.restoreContext e d).storeDword page 17 (if first then 1#32 else 0#32)
  let s1 := if (s.engine e).restores d then s0.storeQword page 20 s0.dev.timestamp else s0
  s1.setEngine e { s1.engine e with ccid := some d, lrca := some (contextLrca d) }

/-- The state after the current context of an engine is saved (R18). -/
def State.saveContext (s : State) (e : EngineId) (d : QWord) : State :=
  let v := s.engine e
  let a := contextLrca d
  s.setEngine e { v with images := s.contextImage e a :: v.images.filter fun i => i.lrca != a }

/-- The current context is left (R18, R580): its state is saved, run time and time of the save are reported; after a
semaphore wait the command, which is not in the sources, is a draw. -/
def State.leaveContext (s : State) (e : EngineId) (d : QWord) (why : SwitchReason) : State :=
  let page := contextPage d
  let s0 := s.saveContext e d
  let s1 := (s0.storeDword page 16 ((s0.engine e).ctxTimestamp.setWidth 32)).storeQword page 22 s0.dev.timestamp
  match why with
  | .semaphore _ => (s1.storeQword page 24 (s.draw 0 21)).storeQword page 26 (s.draw 1 21)
  | .complete | .preempted | .scanline _ | .vblank _ | .syncFlip _ => s1

/-- The Context Switch interrupt, if Exec-List Enable is set (R558-R562). -/
def State.pulseSwitch (s : State) (e : EngineId) : State :=
  if (s.engine e).execlistEnable then s.pulse e e.switchBit else s

/-- Whether the work an engine has started for its context is done, so that the context can be switched without a thread seeing it
(R546): the flush of a switch (R567) has left the render engine no thread, no dispatch and no response (log 58). -/
def State.flushed (s : State) (e : EngineId) : Bool :=
  match e with
  | .rcs => s.resident == 0 && s.media.waiting.isEmpty && s.pending.isEmpty
  | .bcs | .vcs | .vcs2 | .vecs => true

/-- A submission of an execlist of up to two contexts (R555, R565); an element with Valid clear is unused. To an idle engine it
starts the first; else it is pending and the time of the request is reported. A stuck engine does nothing with it (R547), nor
one that is not flushed. -/
def State.submit (s : State) (e : EngineId) (d0 d1 : QWord) : Exec State := do
  let l := [d0, d1].filter fun d => d.getLsbD 0
  let _ ← sequence (l.map checkDescriptor)
  let v := s.engine e
  match l, v.stuck, v.ccid with
  | [], _, _ => return s
  | _ :: _, true, _ => return s.setEngine e { v with pendingList := l }
  | d :: _, false, none =>
    if !s.flushed e then return s.setEngine e { v with pendingList := l }
    let s1 := (s.setEngine e { v with execlist := l }).reportStatus e 1#64
    return (s1.enterContext e d true).pulseSwitch e
  | _ :: _, false, some cur =>
    return (s.setEngine e { v with pendingList := l }).storeQword (contextPage cur) 18 s.dev.timestamp

/-- The contexts that follow a switch, with the status bits that say so (R569): for a preemption the pending list; else the
second element; else the pending list; else none. -/
def nextContexts (v : Engine) (why : SwitchReason) : List QWord × DWord :=
  match why, v.execlist with
  | .preempted, _ => (v.pendingList, 0#32)
  | _, _ :: d :: _ => ([d], 1#32 <<< 2)
  | _, _ =>
    if v.pendingList.isEmpty then ([], 1#32 <<< 3) else (v.pendingList, 1#32 <<< 1)

/-- The Fault Handling mode of an engine's current context (R567). -/
def Engine.faultMode (v : Engine) : Nat :=
  match v.ccid with
  | some d => descField d 6 2
  | none => 0

/-- Whether an engine can switch contexts: not when it is stuck (R547, R567: none "on occurrence of Fault Error"), nor under
Fault and Halt before the access that faulted is completed (R567). -/
def Engine.switches (v : Engine) : Bool := !v.stuck && (v.faultMode != 1 || v.faults.isEmpty)

/-- R569: whether there is what a reason names: a pending execlist, or a semaphore that the context waits for, with synchronous
switches not inhibited (R558-R562). -/
def Engine.mayLeave (v : Engine) (why : SwitchReason) : Bool :=
  match why with
  | .preempted => !v.pendingList.isEmpty
  | .semaphore _ => v.semaphoreWaiting && !v.inhibitSwitch
  | .complete | .scanline _ | .vblank _ | .syncFlip _ => true

/-- A context switch (R569): the status entry, the interrupt, the next context. There is none on an engine that has no context,
cannot switch or is not flushed, or for a reason that does not hold. -/
def State.switchOut (s : State) (e : EngineId) (why : SwitchReason) : Exec State := do
  let v := s.engine e
  checkReason why
  match v.ccid, v.switches && v.mayLeave why && s.flushed e with
  | none, _ | some _, false => return s
  | some cur, true =>
    let (next, bits) := nextContexts v why
    let lite := match why, next with
      | .preempted, d :: _ => contextId d == contextId cur
      | _, _ => false
    let low := why.bits ||| bits ||| (if lite then 1#32 <<< 15 else 0#32)
    let s1 := (s.leaveContext e cur why).reportStatus e (contextId cur ++ low)
    let elementSwitch := bits == 1#32 <<< 2
    let w := s1.engine e
    let s2 := s1.setEngine e
      { w with ccid := none, execlist := next, pendingList := if elementSwitch then w.pendingList else []
               semaphoreWaiting := false }
    let s3 := match next with
      | d :: _ => s2.enterContext e d (!elementSwitch)
      | [] => s2
    return s3.pulseSwitch e

/-- Whether an unsuccessful MI_SEMAPHORE_WAIT sets its interrupt (R558-R562): in execlist scheduling with Inhibit Synchronous
Context Switch, in ring buffer scheduling always; the render engine has no clause for the latter. -/
def Engine.semaphoreInterrupt (v : Engine) (e : EngineId) : Bool :=
  if v.execlistEnable then v.inhibitSwitch else e != .rcs

/-- MI_SEMAPHORE_WAIT that is not successful (R558-R562): the parser waits. -/
def State.semaphoreWait (s : State) (e : EngineId) : Exec State :=
  s.parsing e fun t =>
    let v := t.engine e
    let t1 := t.setEngine e { v with semaphoreWaiting := true }
    .ok (if v.semaphoreInterrupt e then t1.pulse e e.semaphoreBit else t1)

/-- A semaphore is signalled to a context (R566: "what is compared during ... semaphore signaling"): its wait is over. -/
def State.semaphoreSignal (s : State) (e : EngineId) (target : DWord) : State :=
  let v := s.engine e
  if v.ccid.any fun d => contextId d == target then s.setEngine e { v with semaphoreWaiting := false } else s

/-- MI_REPORT_HEAD (R574, R580): the ring head to the status page, and to the current context's page. -/
def State.reportHead (s : State) (e : EngineId) : Exec State :=
  s.parsing e fun t =>
    let v := t.engine e
    let t1 := t.storeDword v.hwsPga.toNat 4 v.ringHead
    .ok (match v.ccid with
      | some d => t1.storeDword (contextPage d) 4 v.ringHead
      | none => t1)

/-- MI_USER_INTERRUPT (R558-R562). -/
def State.userInterrupt (s : State) (e : EngineId) : Exec State := s.parsing e fun t => .ok (t.pulse e e.userBit)

/-- A fence or flush with a notify interrupt (R558-R562, R591): "the Store QW associated with a fence is completed ahead of the
interrupt". -/
def State.flushNotify (s : State) (e : EngineId) (store : Option (Nat × QWord)) : Exec State :=
  s.parsing e fun t => do
    let t1 ← match store with
      | some (a, v) => do
        checkBelow (t.engine e).limit a 8
        pure (t.storeAs .agent a 8 v.toNat)
      | none => pure t
    return t1.pulse e e.notifyBit

/-! ### Page faults (R548, R567) -/

/-- An access waits for its translation. -/
def State.addFault (s : State) (e : EngineId) (source : FaultSource) : State :=
  let v := s.engine e
  let context := match v.ccid with
    | some d => contextId d
    | none => 0#32
  s.setEngine e { v with faults := v.faults ++ [⟨context, source⟩] }

/-- A fault in a translation (R548, R561, R567). Under Fault and Hang (or without a context), and under Fault and Stream unless
it is a recoverable one of an EU access, the engine is stuck until reset, the Page Fault and Master Error interrupts are set and
the access is never completed; else the access waits until the translation is defined. Only the render engine has accesses of
threads and of vertex fetch. -/
def State.pageFault (s : State) (e : EngineId) (source : FaultSource) (recoverable : Bool) : Exec State := do
  let v := s.engine e
  let ofThread := match source with
    | .thread _ => true
    | .streamer | .vertexFetch => false
  if e != .rcs && source != .streamer then return s
  let waiting := s.addFault e source
  if v.faultMode = 1 || (v.faultMode = 2 && recoverable && ofThread) then return waiting
  else
    let s1 := waiting.setEngine e { waiting.engine e with stuck := true }
    return s1.pulsePageFault.raiseEngine e e.errorBit

/-- A translation becomes defined (R548): an access that waits for it goes on; on a stuck engine none does. -/
def State.faultFixed (s : State) (e : EngineId) (f : PendingFault) : State :=
  let v := s.engine e
  if v.stuck then s else s.setEngine e { v with faults := v.faults.erase f }

/-! ### MMIO (R577, R551) -/

/-- MMIO offset of the render timeout counter (R561). -/
def timeoutCounterOffset : Nat := 0x02190
/-- MMIO offset of the render timeout threshold (R561). -/
def timeoutThresholdOffset : Nat := 0x0217C

/-- A value kept under an offset, offsets rising. -/
def setMmio : List (Nat × DWord) → Nat → DWord → List (Nat × DWord)
  | [], k, v => [(k, v)]
  | (j, w) :: t, k, v => if k < j then (k, v) :: (j, w) :: t else if k = j then (k, v) :: t else (j, w) :: setMmio t k v

/-- `MMIO_Write32` (R577): offsets are DWord aligned and below 2^23. The two offsets the sources print are the render
timeout registers; what is at the others is not in the sources, and the value is kept. -/
def State.mmioWrite (s : State) (offset : Nat) (v : DWord) : Exec State := do
  require (decide (offset % 4 = 0) && decide (offset < 2 ^ 23)) (.hostEvent "MmioOffset")
  if offset = timeoutCounterOffset then return { s with rcs := { s.rcs with timeoutCounter := v } }
  else if offset = timeoutThresholdOffset then return { s with rcs := { s.rcs with timeoutThreshold := v } }
  else return { s with dev := { s.dev with mmio := setMmio s.dev.mmio offset v } }

/-- An LRI entry's offset and data (R577, `LRI_PAIR_ORDER`), its first DWord the low one. -/
def lriFields (entry : QWord) : DWord × DWord :=
  let lo := entry.extractLsb' 0 32
  let hi := entry.extractLsb' 32 32
  if Config.lriOffsetFirst then (lo, hi) else (hi, lo)

/-- One LRI entry (R577), subject to the batch's privilege (R550). -/
def State.loadRegister (s : State) (e : EngineId) (entry : QWord) (privileged : Bool) : Exec State :=
  s.parsing e fun t => t.privilegedCommand e privileged fun u => do
    let (off, v) := lriFields entry
    require (off.extractLsb' 23 9 == 0#9) (.hostEvent "LriReserved")
    u.mmioWrite off.toNat v

/-- A host write to an engine's register; must-be-zero bits of the error registers are refused (R1, R557, R573, R582, R583), a
timeout interrupt of BCS or VECS must not be unmasked (R558, R562), the status page is 4 KByte aligned (R574). Writes of the
interrupt bits that future steppings may use are ignored in the masks too (93 section 1.2). -/
def State.writeEngine (s : State) (e : EngineId) (r : EngineReg) (v : QWord) : Exec State := do
  let w := s.engine e
  let d := v.setWidth 32
  let future := (IrqGroup.engine e).futureBits
  match r with
  | .emr =>
    require (d &&& ~~~e.errorBits == 0#32) (.hostEvent "ErrorReserved")
    return s.setEngine e { w with emr := d }
  | .eir =>
    require (d &&& ~~~e.errorBits == 0#32) (.hostEvent "ErrorReserved")
    return s.clearErrors e d
  | .engineMask =>
    require (!(e == .bcs || e == .vecs) || d &&& e.timeoutBit != 0#32) (.hostEvent "TimeoutUnmasked")
    return s.setEngine e { w with engineMask := keepBits w.engineMask future d }
  | .hwstam => return s.setEngine e { w with hwstam := keepBits w.hwstam future d }
  | .hwsPga =>
    require (d.extractLsb' 0 12 == 0#12) (.hostEvent "StatusPageAddress")
    return s.setEngine e { w with hwsPga := d }
  | .ringHead => return s.setEngine e { w with ringHead := d }
  | .ringTail => return s.setEngine e { w with ringTail := d }
  | .pdp k => return s.setEngine e { w with pdp := w.pdp.set k.val v k.isLt }
  | .timeoutThreshold => return s.setEngine e { w with timeoutThreshold := d }
  | .execlistEnable => return s.setEngine e { w with execlistEnable := d.getLsbD 0 }
  | .inhibitSwitch => return s.setEngine e { w with inhibitSwitch := d.getLsbD 0 }

/-! ### Counters, report, power -/

/-- The DWords of a performance counter report (R578). -/
def reportDwords (d : Device) (rptId ctxId : DWord) : List DWord :=
  [rptId, d.timestamp.setWidth 32, ctxId, d.gpuTicks] ++
  d.cntA.toList.map (fun a => a.extractLsb' 0 32) ++
  ((List.range 8).map fun k =>
    (d.cntA.getD (4 * k + 3) 0#40).extractLsb' 32 8 ++ (d.cntA.getD (4 * k + 2) 0#40).extractLsb' 32 8 ++
    (d.cntA.getD (4 * k + 1) 0#40).extractLsb' 32 8 ++ (d.cntA.getD (4 * k) 0#40).extractLsb' 32 8) ++
  d.cntB.toList ++ d.cntC.toList

/-- DWords stored from an address on. -/
def State.storeDwords (s : State) (a : Nat) : List DWord → State
  | [] => s
  | v :: vs => (s.storeAs .agent a 4 v.toNat).storeDwords (a + 4) vs

/-- The Context ID a report holds (R566, R578): the render context's; without one a draw. -/
def State.reportContext (s : State) : DWord :=
  match s.rcs.ccid with
  | some d => contextId d
  | none => (s.draw 0 32).setWidth 32

/-- A performance counter report (R578); a report filtered for one context (R566) is made only while that one is current. -/
def State.report (s : State) (addr : Nat) (rptId : DWord) (only : Option DWord) : Exec State := do
  checkBelow s.limit addr 256
  let current := s.rcs.ccid.map contextId
  if only.isSome && only != current then return s
  else return s.storeDwords addr (reportDwords s.dev rptId s.reportContext)

/-- An even EU count from a request (R579): an odd one is clipped to an even value, which of the two is a draw. -/
def clipEu (s : State) (chan : Nat) (v : BitVec 4) : BitVec 4 :=
  if v.getLsbD 0 then (if (s.draw chan 22).getLsbD 0 then v + 1#4 else v - 1#4) else v

/-- A listed EU count (R579). -/
def euListed (v : BitVec 4) : Bool := v == 2#4 || v == 4#4 || v == 6#4 || v == 8#4

/-- The slice count kept of a request (R579): 5 slices become 4, and it "is limited to the number of slices" the part has. -/
def slicesKept (v : BitVec 3) : BitVec 3 :=
  let n := if v = 5#3 then 4 else v.toNat
  BitVec.ofNat 3 (min n Config.slices)

/-- A write to the power clock state (R579): read-only bits stay 0; counts must be listed ones. -/
def State.writePowerClock (s : State) (v : DWord) : Exec State := do
  let mx := clipEu s 0 (v.extractLsb' 4 4)
  let mn := clipEu s 1 (v.extractLsb' 0 4)
  let slices := v.extractLsb' 15 3
  require (euListed mx && euListed mn) (.hostEvent "EuCount")
  require (!v.getLsbD 18 || (slices != 0#3 && slices != 7#3)) (.hostEvent "SliceCount")
  return { s with dev := { s.dev with
    powerClock := 0#13 ++ v.extractLsb' 18 1 ++ slicesKept slices ++ 0#7 ++ mx ++ mn } }

/-- A counter moved on by `d`: it never falls (R551, 93 section 1.2), and stops at its greatest value. -/
def advanceCounter {w : Nat} (c : BitVec w) (d : Nat) : BitVec w := BitVec.ofNat w (min (c.toNat + d) (2 ^ w - 1))

/-- A counter moved on by a draw (R551: free running). -/
def bump {w : Nat} (n k : Nat) (c : BitVec w) : BitVec w := advanceCounter c (Config.tick n k)

/-- An engine's counters after a step (R551): the context's run time while one is current, and the timeout counter. -/
def Engine.tick (v : Engine) (n : Nat) : Engine :=
  { v with
    ctxTimestamp := match v.ccid with
      | some _ => bump n 1 v.ctxTimestamp
      | none => v.ctxTimestamp
    timeoutCounter := bump n 1 v.timeoutCounter }

/-- The timeout counter reaches its threshold (R551, R561). -/
def State.timeout (before s : State) (e : EngineId) : State :=
  let th := (s.engine e).timeoutThreshold
  if th != 0#32 && decide ((before.engine e).timeoutCounter < th) && decide (th ≤ (s.engine e).timeoutCounter) then
    s.pulse e e.timeoutBit
  else s

/-- Device counters after a step (R551, R578). -/
def Device.tick (d : Device) (n : Nat) : Device :=
  { d with
    timestamp := bump n 0 d.timestamp
    gpuTicks := bump n 2 d.gpuTicks
    cntA := Vector.ofFn fun i => bump n (16 + i.val) (d.cntA.get i)
    cntB := Vector.ofFn fun i => bump n (64 + i.val) (d.cntB.get i)
    cntC := Vector.ofFn fun i => bump n (80 + i.val) (d.cntC.get i) }

/-- A thread's `tm0` after a step (R5, R551): its first two DWords are one counter (log 28). -/
def Thread.tick (t : Thread) (n : Nat) : Thread :=
  let c : QWord := bump n 3 (t.tm0.getD 1 0#32 ++ t.tm0.getD 0 0#32)
  { t with tm0 := (t.tm0.setIfInBounds 0 (c.extractLsb' 0 32)).setIfInBounds 1 (c.extractLsb' 32 32) }

/-- Time passes: every counter moves by a draw, expired timeouts raise their interrupt, and the draws of the step are used
up (R551, R593). -/
def State.tick (s : State) : State :=
  let n := s.draws
  let s1 : State :=
    { s with
      eu := s.eu.tick n
      parked := s.parked.map (Thread.tick · n)
      rcs := s.rcs.tick n
      bcs := s.bcs.tick n
      vcs := s.vcs.tick n
      vcs2 := s.vcs2.tick n
      vecs := s.vecs.tick n
      dev := s.dev.tick n
      draws := n + 1 }
  [EngineId.rcs, .bcs, .vcs, .vcs2, .vecs].foldl (fun t e => State.timeout s t e) s1

end Sys2Proof.Machine
end

