-- ==== Sys2Proof/Machine/ThreadDispatch.lean ====
section
/-! DEFINITION. Dispatching threads from interface descriptors (R484, R485, R494, R10, R13-R15). -/

namespace Sys2Proof.Machine

/-- The remap table (R494). -/
def remap (vfe : Vector DWord 8) (offset : Nat) : Nat :=
  if offset ≤ 7 then ((vfe.getD 2 0#32).extractLsb' (4 * offset) 4).toNat
  else if offset ≤ 15 then ((vfe.getD 3 0#32).extractLsb' (4 * (offset - 8)) 4).toNat
  else offset

/-- The relative position scoreboard `n` names (R494): Delta X, Delta Y. -/
def scoreDelta (vfe : Vector DWord 8) (n : Nat) : Int × Int :=
  let w := vfe.getD (5 + n / 4) 0#32
  ((w.extractLsb' (8 * (n % 4)) 4).toInt, (w.extractLsb' (8 * (n % 4) + 4) 4).toInt)

/-- The scoreboards that are enabled (R494). -/
def scoreEnabled (vfe : Vector DWord 8) : List Nat := (List.range 8).filter fun n => (vfe.getD 4 0#32).getLsbD n

/-- Scoreboard Enable (R494). -/
def scoreboardOn (vfe : Vector DWord 8) : Bool := (vfe.getD 4 0#32).getLsbD 31

/-- A dispatch is held back (R494): a thread it depends on is live, or is itself held back before it. -/
def heldBack (m : Media) (before : List HeldDispatch) (d : DispatchRequest) : Bool :=
  d.useScoreboard && !d.gpgpu &&
  (scoreEnabled m.vfe).any fun n =>
    let x := d.x + (scoreDelta m.vfe n).1
    let y := d.y + (scoreDelta m.vfe n).2
    m.live.any (fun e => e.1 == x && e.2.1 == y) || before.any fun e => !e.request.gpgpu && e.request.x == x && e.request.y == y

/-- The first dispatch of a list that is not held back, with the others in order. -/
def firstReady (m : Media) : List HeldDispatch → List HeldDispatch → Option (HeldDispatch × List HeldDispatch)
  | _, [] => none
  | before, d :: rest =>
    if heldBack m before d.request then firstReady m (before ++ [d]) rest else some (d, before ++ rest)

/-- R494: a well-formed VFE_STATE_EX. -/
def checkVfe (v : Vector DWord 8) : Exec Unit := do
  require ((v.getD 0 0#32).extractLsb' 0 8 == 0#8) (.stateStructure "VfeReserved")
  require ((v.getD 4 0#32).extractLsb' 8 22 == 0#22) (.stateStructure "VfeReserved")
  require (!(v.getD 4 0#32).getLsbD 30) (.stateStructure "ScoreboardType")
  require (v.getD 7 0#32 == 0#32) (.stateStructure "VfeReserved")

/-! ### Interface descriptors (R484) -/

/-- An interface descriptor. -/
structure Descriptor where
  kernel : DWord
  codeHigh : BitVec 16
  denorm : Bool
  singleFlow : Bool
  priority : Bool
  illegalEnable : Bool
  maskEnable : Bool
  softwareEnable : Bool
  samplerTable : DWord
  bindingTable : DWord
  readLength : Nat
  readOffset : Nat
  rounding : BitVec 2
  barrier : Bool
  slmSize : Nat
  threads : Nat
  crossLength : Nat
deriving DecidableEq, Repr

/-- Must-be-zero bits of an interface descriptor by DWord; the Global Barrier Enable "must be zero" too (R484). -/
def descriptorReserved : List DWord :=
  [0x0000003F#32, 0xFFFF0000#32, 0xFFF0D77F#32, 0x00000003#32, 0xFFFF0000#32, 0x00000000#32, 0xFF00FC00#32, 0xFFFFFF00#32]

/-- Bytes of shared local memory (R484). -/
def slmBytes (v : Nat) : Nat := if v = 0 then 0 else 1024 * 2 ^ (v - 1)

/-- An interface descriptor from its DWords; ill-formed ones are refused (R1, R484, R485), the ALT mode too (R97). The sampler
count of a child thread is ignored, and the Constant URB Entry Read Offset of a thread that reads no constants. -/
def parseDescriptor (gpgpu child : Bool) (d : Nat → DWord) : Exec Descriptor := do
  require ((List.range 8).all fun k => d k &&& descriptorReserved.getD k 0#32 == 0#32) (.stateStructure "DescriptorReserved")
  require (!(d 2).getLsbD 16) .altMode
  require (child || decide (((d 3).extractLsb' 2 3).toNat ≤ 4)) (.stateStructure "SamplerCount")
  let l := ((d 5).extractLsb' 16 16).toNat
  let o := ((d 5).extractLsb' 0 16).toNat
  let x := ((d 7).extractLsb' 0 8).toNat
  let slm := ((d 6).extractLsb' 16 5).toNat
  let n := ((d 6).extractLsb' 0 10).toNat
  require (decide (l ≤ 63)) (.stateStructure "ConstantReadLength")
  require (decide (l = 0 ∧ (x = 0 ∨ gpgpu = false)) || (decide (o ≤ 1983) && decide (o + l ≤ 1984)))
    (.stateStructure "ConstantReadOffset")
  require (decide (x ≤ 127)) (.stateStructure "CrossThreadReadLength")
  require (decide (slm ≤ 7)) (.stateStructure "SharedLocalMemorySize")
  return {
    kernel := (d 0).extractLsb' 6 26 ++ 0#6
    codeHigh := (d 1).extractLsb' 0 16
    denorm := (d 2).getLsbD 19
    singleFlow := (d 2).getLsbD 18
    priority := (d 2).getLsbD 17
    illegalEnable := (d 2).getLsbD 13
    maskEnable := (d 2).getLsbD 11
    softwareEnable := (d 2).getLsbD 7
    samplerTable := (d 3).extractLsb' 5 27 ++ 0#5
    bindingTable := 0#16 ++ (d 4).extractLsb' 5 11 ++ 0#5
    readLength := l
    readOffset := o
    rounding := (d 6).extractLsb' 22 2
    barrier := (d 6).getLsbD 21
    slmSize := slmBytes slm
    threads := n
    crossLength := x }

/-- `cr0.0` of a dispatched thread (R10). -/
def Descriptor.cr00 (d : Descriptor) : DWord :=
  let w := setBit 0#32 2 d.singleFlow
  let w := setBit w 7 d.denorm
  let w := setBit (setBit w 6 true) 10 true
  setBit (setBit w 4 (d.rounding.getLsbD 0)) 5 (d.rounding.getLsbD 1)

/-- `cr0.1` of a dispatched thread (R10, R484). -/
def Descriptor.cr01 (d : Descriptor) : DWord :=
  setBit (setBit (setBit 0#32 11 d.maskEnable) 12 d.illegalEnable) 13 d.softwareEnable

/-- A row of 32 bytes of the unified return buffer. -/
def urbRowAt (s : State) (k : Nat) : HWord := BitVec.ofNat 256 (Store.readLE Config.urbFill s.urb (32 * k) 32)

/-- Rows of the constant data area of a request, from row `k` on. -/
def constantRows (s : State) (q : DispatchRequest) (k n : Nat) : List HWord :=
  (List.range n).map fun i => urbRowAt s (q.curbe + k + i)

/-- Constant data of thread `t` (R485, D29). -/
def constantsOf (s : State) (q : DispatchRequest) (d : Descriptor) (t : Nat) : List HWord :=
  if q.gpgpu then
    constantRows s q d.readOffset d.crossLength ++
    constantRows s q (d.readOffset + d.crossLength + d.readLength * t) d.readLength
  else constantRows s q d.readOffset d.readLength

/-- A free DWord of a new thread (D3, D4). -/
def freeDword (s : State) (t k : Nat) : DWord := (s.draw (64 * t + k) 27).setWidth 32

/-- Thread `t` of a request (R4, R10, R11, R13, R18, R484): header in r0, then constants, then the rest of the payload; what the
dispatch does not define is free, and of a child thread the tables too, for which the descriptor's pointers are ignored. R4
does not say whether the threads of a group get different headers: every thread of a request gets the same header and the same
payload after its constants (DESIGN CHOICE, log 39). -/
def newThread (s : State) (h : HeldDispatch) (d : Descriptor) (t tid : Nat) (group : Option Nat) : Thread :=
  let q := h.request
  let regs := q.header :: (constantsOf s q d t ++ q.payload)
  { grf := Vector.ofFn fun i => regs.getD i.val (Config.freeReg s.draws (1000 + 128 * t + i.val))
    a0 := Vector.ofFn fun i => (freeDword s t i.val).setWidth 16
    acc := Vector.ofFn fun i => ⟨s.draw (64 * t + i.val) 28, false⟩
    flag := Vector.ofFn fun i => freeDword s t (8 + i.val)
    sp := s.draw (64 * t + 10) 27
    sr0 := Vector.ofFn fun i =>
      if i.val = 2 then q.dmask else if i.val = 3 then q.vmask else freeDword s t (12 + i.val)
    cr0 := Vector.ofFn fun i => if i.val = 0 then d.cr00 else if i.val = 1 then d.cr01 else freeDword s t 16
    n0 := Vector.ofFn fun i => freeDword s t (26 + i.val)
    ip := d.kernel
    tdr0 := Vector.ofFn fun i => (freeDword s t (32 + i.val)).setWidth 16
    tm0 := Vector.ofFn fun i => freeDword s t (20 + i.val)
    dbg0 := Vector.ofFn fun i => freeDword s t (24 + i.val)
    dmask := q.dmask
    vmask := q.vmask
    pcip := Vector.replicate 32 d.kernel
    sb := 0#128
    run := .running
    priority := d.priority
    fftid := q.fftid + BitVec.ofNat 8 t
    tid
    group
    scratch := q.scratch
    bindingTable := if q.child then freeDword s t 40 else d.bindingTable
    samplerTable := if q.child then freeDword s t 41 else d.samplerTable
    urbHandle := true
    codeHigh := d.codeHigh
    asked := h.asked
    born := s.draws }

/-- The interface descriptor of a dispatch (R484, R494): of media requests the index is remapped. A descriptor that has been
modified since the request points at it is refused (R28, R590). -/
def readDescriptor (s : State) (h : HeldDispatch) : Exec Descriptor := do
  let q := h.request
  let i := if q.gpgpu then q.index else remap s.media.vfe q.index
  let a := s.ctx.dynamicBase.toNat + q.table.toNat + 32 * i
  s.checkAccess a 32
  require (!s.modifiedSince h.asked a 32) .modifiedInUse
  parseDescriptor q.gpgpu q.child (memDword s.mem a)

/-! ### Dispatches -/

/-- The number of threads that can be resident (R554); a machine has at least one. -/
def threadCapacity : Nat := max 1 (Config.threadsPerSubslice * Config.subslices)

/-- The number of threads for which there is room. -/
def State.room (s : State) : Nat := threadCapacity - s.resident

/-- A media thread is dispatched (R484, R485, R494). -/
def State.dispatchMedia (s : State) (h : HeldDispatch) : Exec State := do
  let q := h.request
  let d ← readDescriptor s h
  require (decide (1 + d.readLength + q.payload.length ≤ 128)) (.stateStructure "PayloadLength")
  return { s with
    parked := s.parked ++ [newThread s h d 0 s.nextTid none]
    nextTid := s.nextTid + 1
    media := { s.media with live := s.media.live ++ [(q.x, q.y, s.nextTid)] } }

/-- A well-formed thread group (R14, R15, R484, R485): a barrier that a subslice's threads cannot fill is refused (93 section
1.2). -/
def checkGroup (q : DispatchRequest) (d : Descriptor) : Exec Unit := do
  require (decide (1 ≤ d.threads)) (.stateStructure "NumberOfThreads")
  require (!d.barrier || decide (d.threads ≤ Config.threadsPerSubslice)) (.stateStructure "NumberOfThreads")
  require (decide (1 + d.crossLength + d.readLength + q.payload.length ≤ 128)) (.stateStructure "PayloadLength")

/-- The next `n` threads of a group. -/
def groupThreads (s : State) (h : HeldDispatch) (d : Descriptor) (n group : Nat) : List Thread :=
  (List.range n).map fun k => newThread s h d (h.first + k) (s.nextTid + k) (some group)

/-- The threads of a group for which there is room are dispatched (R14, R15, R484, R485, R554), with the first of them its shared
memory and barrier; the others wait. The threads of a group with a barrier are dispatched together. -/
def State.dispatchGroup (s : State) (h : HeldDispatch) : Exec State := do
  let q := h.request
  let d ← readDescriptor s h
  checkGroup q d
  let left := d.threads - h.first
  let n := min left s.room
  if d.barrier && n < left then return { s with media := { s.media with waiting := h :: s.media.waiting } }
  let gid := h.group.getD s.nextTid
  let g : Group :=
    { id := gid, slmSize := d.slmSize, slm := [], barrier := d.barrier, count := 0, expected := d.threads }
  let rest := if n < left then [{ h with first := h.first + n, group := some gid }] else []
  return { s with
    parked := s.parked ++ groupThreads s h d n gid
    groups := if h.group.isSome then s.groups else s.groups ++ [g]
    nextTid := s.nextTid + n
    media := { s.media with waiting := rest ++ s.media.waiting } }

/-- A dispatch that nothing holds back. -/
def State.dispatchNow (s : State) (h : HeldDispatch) : Exec State :=
  if h.request.gpgpu then s.dispatchGroup h else s.dispatchMedia h

/-- A dispatch request (R494, R592) joins those that wait; the use of a scoreboard that is not enabled hangs the media pipeline,
which then dispatches nothing. -/
def State.requestDispatch (s : State) (q : DispatchRequest) : State :=
  if s.media.scoreStuck then s
  else if q.useScoreboard && !q.gpgpu && !scoreboardOn s.media.vfe then
    { s with media := { s.media with scoreStuck := true } }
  else { s with media := { s.media with waiting := s.media.waiting ++ [⟨q, s.draws, 0, none⟩] } }

/-- The first dispatch that need not wait any more, if any: nothing holds it back, and there is room for a thread (R494,
R554). -/
def State.readyDispatch (s : State) : Option (HeldDispatch × List HeldDispatch) :=
  match firstReady s.media [] s.media.waiting with
  | some r => if s.media.scoreStuck || s.room == 0 then none else some r
  | none => none

end Sys2Proof.Machine
end

