-- ==== Sys2Proof/Machine/Host.lean ====
section
/-! DEFINITION. What the outside world does (R549, R555, R584, R585). -/

namespace Sys2Proof.Machine

/-- The EU threads removed (R584, R585): no thread, group, response or held-back dispatch is left. -/
def State.clearThreads (s : State) : State :=
  { s with
    eu := Thread.none
    parked := []
    groups := []
    pending := []
    stores := []
    media := { s.media with live := [], waiting := [], scoreStuck := false, spawns := [] } }

/-- An engine after its reset (R584): its registers at their reset values, the context images in memory unchanged. -/
def State.engineAfterReset (s : State) (e : EngineId) : Engine := { Engine.reset e with images := (s.engine e).images }

/-- `Reset(engine)` (R584): the engine's registers take their reset values; with the render engine go its threads and its
power state, with the blitter engine the blitter. Memory is unchanged. -/
def State.resetEngine (s : State) (e : EngineId) : State :=
  let s1 := s.setEngine e (s.engineAfterReset e)
  match e with
  | .rcs => { s1.clearThreads with dev := { s1.dev with powerClock := Device.reset.powerClock } }
  | .bcs => { s1 with blt := Blitter.reset }
  | .vcs | .vcs2 | .vecs => s1

/-- `ResetAll` (R584, R585): everything but memory, the on-chip stores, and what the model keeps of its own. The counters
keep running: after reset their value is unspecified and never falls. -/
def State.resetAll (s : State) : State :=
  { s.clearThreads with
    ctx := Context.reset
    rcs := s.engineAfterReset .rcs
    bcs := s.engineAfterReset .bcs
    vcs := s.engineAfterReset .vcs
    vcs2 := s.engineAfterReset .vcs2
    vecs := s.engineAfterReset .vecs
    blt := Blitter.reset
    dev := { Device.reset with
      timestamp := s.dev.timestamp, gpuTicks := s.dev.gpuTicks, cntA := s.dev.cntA, cntB := s.dev.cntB, cntC := s.dev.cntC }
    media := Media.reset
    vertexBuffers := State.reset.vertexBuffers }

/-- R21: base addresses are 4 KByte aligned. -/
def checkContext (c : Context) : Exec Unit :=
  require ([c.generalBase, c.surfaceBase, c.dynamicBase, c.instructionBase, c.indirectBase, c.bindlessBase].all
    fun b => b.extractLsb' 0 12 == 0#12) (.hostEvent "BaseAddress")

/-- A notification of a thread (R15, R546). -/
def Thread.notified (t : Thread) (tid : Nat) (k : Fin 4) : Thread :=
  if t.tid = tid then { t with n0 := t.n0.set k.val (t.n0.get k + 1#32) k.isLt } else t

/-- The Display Engine Render Response bits that name an event (R571). -/
def renderResponseEvents : DWord := 0x0037CFCF#32

/-- The vertical blank events of R571, which DE_RR_DEST routes. -/
def verticalBlankEvents : DWord := 0x00200808#32

/-- The scan line events of R571. -/
def scanlineEvents : DWord := 0x00004101#32

/-- The Display Engine Render Response message that reports events (R571), in the bits that name one. Flip done and scan line events go to the command
streamer that initiated them (`toBcs`), vertical blank events where DE_RR_DEST says; of events of one eye in a stereo mode the
vertical blank and scan line ones are reported for the eye STEREO3D_EVENT_MASK selects. -/
def State.renderResponse (s : State) (bits : DWord) (toBcs : Bool) (eye : Option Bool) : State :=
  let d := s.dev
  let hidden := if eye.any (· != d.stereoRight) then verticalBlankEvents ||| scanlineEvents else 0#32
  let seen := bits &&& renderResponseEvents &&& ~~~hidden
  let toward (initiator vblank : Bool) : DWord :=
    (if initiator then seen &&& ~~~verticalBlankEvents else 0#32) ||| (if vblank then seen &&& verticalBlankEvents else 0#32)
  { s with dev := { d with
      responseCs := toward (!toBcs) d.vblankToCs
      responseBcs := toward toBcs d.vblankToBcs } }

/-- The bytes a flush makes visible: what the host stored is no longer ahead of the threads' reads (R27 item 5). -/
def StoredByte.flushed (b : StoredByte) : StoredByte :=
  match b.writer with
  | .cpu => { b with writer := .agent }
  | .thread _ _ | .agent => b

/-- Bytes the host stores (R27, R28). -/
def State.hostWrite (s : State) (a : Nat) (bytes : List Byte) : State :=
  { s with mem := Memory.writeBytes s.mem a bytes, stores := s.record .cpu a bytes.length }

/-- A dispatch asked for (R484, R585): by a command that the render engine parses, or of a child thread by the thread spawner, of
a context that is not stuck (R221, R547). -/
def State.askDispatch (s : State) (q : DispatchRequest) : State :=
  if s.rcs.parses || (q.child && s.rcs.ccid.isSome && !s.rcs.stuck) then s.requestDispatch q else s

/-- One host event. Those that commands bring are executed where their engine parses (R547, R585). -/
def State.apply (s : State) (e : HostEvent) : Exec State :=
  match e with
  | .reset g => .ok (s.resetEngine g)
  | .resetAll => .ok s.resetAll
  | .writeIrq g r v => .ok (s.writeGroup g r v)
  | .raise g c => .ok (s.raiseGroup g c)
  | .lower g c => .ok (s.lowerGroup g c)
  | .writeEngine g r v => s.writeEngine g r v
  | .masterEnable on => .ok { s with dev := { s.dev with masterEnable := on } }
  | .submit g d0 d1 => s.submit g d0 d1
  | .switchOut g why => s.switchOut g why
  | .reportHead g => s.reportHead g
  | .parse g h p => s.parse g h p
  | .batch g p => s.parsing g fun t => .ok (t.setEngine g { t.engine g with batchPrivileged := p })
  | .loadRegister g entry p => s.loadRegister g entry p
  | .mmioWrite off v => s.mmioWrite off v
  | .pageFault g source recoverable => s.pageFault g source recoverable
  | .faultFixed g f => .ok (s.faultFixed g f)
  | .faultRepair on => .ok { s with dev := { s.dev with faultRepair := on } }
  | .userInterrupt g => s.userInterrupt g
  | .semaphoreWait g => s.semaphoreWait g
  | .semaphoreSignal g target => .ok (s.semaphoreSignal g target)
  | .flushNotify g store => s.flushNotify g store
  | .flush => .ok { s with stores := s.stores.map StoredByte.flushed }
  | .report a r only => s.report a r only
  | .powerClock v => s.writePowerClock v
  | .clockGate g second off =>
    let w := s.engine g
    .ok (s.setEngine g (if second then { w with clockGateB := off } else { w with clockGateA := off }))
  | .audioPower v => do
    require (v == 0#2 || v == 3#2) (.hostEvent "AudioPowerState")
    return { s with dev := { s.dev with audioPower := v } }
  | .setContext c => s.parsing .rcs fun t => do
    checkContext c
    return { t with ctx := c }
  | .writeMemory a bytes => do
    checkAddress a bytes.length
    return s.hostWrite a bytes
  | .writeBlitter n v => s.parsing .bcs fun t => t.writeBr n v []
  | .blitImmediate n v data => s.parsing .bcs fun t => t.writeBr n v data
  | .vfeState v => s.parsing .rcs fun t => do
    checkVfe v
    return { t with media := { t.media with vfe := v } }
  | .vertexBuffer v => s.parsing .rcs fun t => t.setVertexBuffer (structureValue v.toList)
  | .dispatch d => .ok (s.askDispatch d)
  | .notify tid k =>
    .ok { s with eu := s.eu.notified tid k, parked := s.parked.map (Thread.notified · tid k) }
  | .renderResponse bits toBcs eye => .ok (s.renderResponse bits toBcs eye)
  | .renderResponseControl toCs toBcs right =>
    .ok { s with dev := { s.dev with vblankToCs := toCs, vblankToBcs := toBcs, stereoRight := right } }

end Sys2Proof.Machine
end

