-- ==== Sys2Proof/Machine/Scoreboard.lean ====
section
/-! DEFINITION. The register scoreboard (R12, R50, R587): which general registers an instruction reads and writes, whether it
waits, and the arrival of responses. -/

namespace Sys2Proof.Machine

/-- The registers that hold bytes `a .. a + n - 1`. -/
def byteRegs (a n : Nat) : BitVec 128 :=
  if n = 0 then 0#128 else BitVec.ofNat 128 (2 ^ ((a + n - 1) / 32 + 1) - 2 ^ (a / 32))

/-- `n` registers from register `r` on. -/
def rangeRegs (r n : Nat) : BitVec 128 := byteRegs (32 * r) (32 * n)

/-- The registers of an element; one that is no general register, or does not exist, has none. -/
def placeRegs (size : Nat) : Exec Place → BitVec 128
  | .ok (.grf a) => byteRegs a size
  | _ => 0#128

/-- The registers of the elements of `n` channels. -/
def channelsRegs (n size : Nat) (place : Nat → Exec Place) : BitVec 128 :=
  (List.range n).foldl (fun m c => m ||| placeRegs size (place c)) 0#128

/-- General registers an instruction reads and writes. -/
structure RegUse where
  reads : BitVec 128
  writes : BitVec 128
deriving DecidableEq, Repr

/-- Registers of the first `n` channels of a source region. -/
def srcRegs (t : Thread) (n : Nat) : Src → BitVec 128
  | .reg r => channelsRegs n r.ty.size (srcPlace t r)
  | .imm _ _ => 0#128

/-- How many channels of its sources a two-source instruction reads: a dot product whole groups of four (R158-R161, log 52), the
others those of the execution size. -/
def channelsRead (op : BitVec 7) (k : Ctl) : Nat :=
  if op == 0x54#7 || op == 0x55#7 || op == 0x56#7 || op == 0x57#7 then (k.exec.channels + 3) / 4 * 4 else k.exec.channels

/-- Registers of a destination region. -/
def dstRegs (t : Thread) (k : Ctl) (d : Dest) : BitVec 128 := channelsRegs k.exec.channels d.ty.size (dstPlace t d)

/-- The scalar operands of `line` and `pln`: four elements from the origin of source 0 (R162, R163). -/
def rowRegs (t : Thread) (s : SrcOp) : BitVec 128 :=
  channelsRegs 4 s.ty.size fun k => originPlace t s (k * s.ty.size) s.ty.size

/-- The register pairs of source 1 of `pln` (R163). -/
def planeRegs (t : Thread) (k : Ctl) : Src → BitVec 128
  | .reg r =>
    channelsRegs (2 * ((k.exec.channels + 7) / 8)) 32 fun n => originPlace t r (32 * n) 32
  | .imm _ _ => 0#128

/-- Registers a payload operand names. -/
def payloadRegs (t : Thread) (l : Loc) (n : Nat) : BitVec 128 :=
  match payloadBase t l with
  | .ok r => rangeRegs r n
  | .error _ => 0#128

/-- Registers of a send (R135, R137). -/
def sendUse (t : Thread) (f : SendForm) : RegUse :=
  let d := descriptor t f.desc
  let mlen := (d.extractLsb' 25 4).toNat
  let rlen := (d.extractLsb' 20 5).toNat
  let writes :=
    match sendDestination f t with
    | .ok (some r) => rangeRegs r rlen
    | _ => 0#128
  match f with
  | .plain _ o => ⟨payloadRegs t o.src0 mlen, writes⟩
  | .split _ o =>
    ⟨payloadRegs t o.src0 mlen |||
      (match o.src1File with
        | .grf => rangeRegs o.src1.toNat o.exLen.toNat
        | .arf => 0#128), writes⟩

/-- Registers of a native instruction. -/
def shapeUse (t : Thread) : Shape → RegUse
  | .one _ o => ⟨srcRegs t o.ctl.exec.channels o.src0, dstRegs t o.ctl (.op o.dst)⟩
  | .two op o =>
    ⟨srcRegs t (channelsRead op o.ctl) (.reg o.src0) ||| srcRegs t (channelsRead op o.ctl) o.src1 |||
      (if op == 0x59#7 || op == 0x5A#7 then rowRegs t o.src0 else 0#128) |||
      (if op == 0x5A#7 then planeRegs t o.ctl o.src1 else 0#128), dstRegs t o.ctl (.op o.dst)⟩
  | .three _ o =>
    let z := triTypes o
    let place (p : TriOp) (y : RType) : BitVec 128 := channelsRegs o.ctl.exec.channels y.size (triPlace t p y)
    ⟨place o.s0 z.1 ||| place o.s1 z.2.1 ||| place o.s2 z.2.2,
      dstRegs t o.ctl (.tri o.dstReg o.dstSub o.chanEn o.dstTy.toR)⟩
  | .br1 op o =>
    let target :=
      match o.off with
      | .reg r => placeRegs r.ty.size (srcPlace t r 0)
      | .jip _ => 0#128
    ⟨target ||| (if op == 0x2D#7 then placeRegs 4 (srcPlace t { o.src0 with ty := .ud } 0) else 0#128),
      if op == 0x2B#7 || op == 0x2C#7 then placeRegs 8 (dstPlace t (.op { o.dst with ty := .ud }) 0) else 0#128⟩
  | .math fc o =>
    let d := dstRegs t o.ctl (.op o.dst)
    let n := regsSpanned o
    ⟨srcRegs t o.ctl.exec.channels (.reg o.src0) ||| srcRegs t o.ctl.exec.channels (.reg o.src1), if fc == 0xB#4 then d ||| (d <<< n) else d⟩
  | .send f => sendUse t f
  | .illegal | .nop _ | .br2 _ _ | .compact2 _ | .compact3 _ => ⟨0#128, 0#128⟩

/-- The form whose operands an instruction has: of a compact one, its expansion. -/
def operandShape (i : Instr) : Shape :=
  match i with
  | .compactTwo o =>
    match expanded (expandTwo Config.srcIndexTable o) with
    | .ok j => j.shape
    | .error _ => .illegal
  | .compactThree o =>
    match expanded (expandThree o) with
    | .ok j => j.shape
    | .error _ => .illegal
  | i => i.shape

/-- Registers an instruction reads and writes. -/
def instrUse (t : Thread) (i : Instr) : RegUse := shapeUse t (operandShape i)

/-- Dependency control (R50): NoDDClr, NoDDChk. -/
def depCtrl : Shape → Bool × Bool
  | .one _ o => (o.ctl.noDDClr, o.ctl.noDDChk)
  | .two _ o => (o.ctl.noDDClr, o.ctl.noDDChk)
  | .three _ o => (o.ctl.noDDClr, o.ctl.noDDChk)
  | .br1 _ o => (o.ctl.noDDClr, o.ctl.noDDChk)
  | .br2 _ o => (o.ctl.noDDClr, o.ctl.noDDChk)
  | .math _ o => (o.ctl.noDDClr, o.ctl.noDDChk)
  | .send f => ((sendCtl f).noDDClr, (sendCtl f).noDDChk)
  | .illegal | .nop _ | .compact2 _ | .compact3 _ => (false, false)

/-- The registers of a response. -/
def Response.regs (r : Response) : BitVec 128 := rangeRegs r.base r.data.length

/-- The current thread's registers with a pending response (R135). -/
def State.pendingRegs (s : State) : BitVec 128 :=
  s.pending.foldl (fun m r => if r.tid = s.eu.tid then m ||| r.regs else m) 0#128

/-- An instruction waits (R12, R50, R587): a register it reads is busy, or, unless NoDDChk, one it writes. -/
def State.blocked (s : State) (i : Instr) : Bool :=
  let busy := s.eu.sb ||| s.pendingRegs
  let u := instrUse s.eu i
  busy != 0#128 &&
  ((u.reads &&& busy != 0#128) || (!(depCtrl (operandShape i)).2 && (u.writes &&& busy != 0#128)))

/-! ### Writes that race with a response (R587) -/

/-- `n` bytes of the register file from byte `a` on. -/
def byteSpan (a n : Nat) : BitVec 4096 := BitVec.ofNat 4096 (2 ^ (a + n) - 2 ^ a)

/-- The bytes of an element; one that is no general register, or does not exist, has none. -/
def placeBytes (size : Nat) : Exec Place → BitVec 4096
  | .ok (.grf a) => byteSpan a size
  | _ => 0#4096

/-- The bytes of a destination's enabled channels (R11, R57, R60). -/
def laneBytes (t : Thread) (k : Ctl) (u : Usage) (d : Dest) : BitVec 4096 :=
  let off := match channelOffset k u.usesDf with
    | .ok n => n
    | .error _ => 0
  (List.range k.exec.channels).foldl (fun m c =>
    if laneEnabled t k u d off c then m ||| placeBytes d.ty.size (dstPlace t d c) else m) 0#4096

/-- The bytes of general registers that a native instruction writes by itself; those of a send's response are known when it
answers (`State.markAnswered`). -/
def shapeBytes (t : Thread) : Shape → BitVec 4096
  | .one op o => if op == 0x30#7 then 0#4096 else laneBytes t o.ctl (plainUsage o.cond (oneTypes o)) (.op o.dst)
  | .two op o =>
    laneBytes t o.ctl
      { plainUsage o.cond (twoTypes o) with predicateGates := !(op == 0x02#7 && o.cond == .none) } (.op o.dst)
  | .three _ o =>
    laneBytes t o.ctl (plainUsage o.cond (threeTypes o)) (.tri o.dstReg o.dstSub o.chanEn o.dstTy.toR)
  | .br1 op o =>
    if op == 0x2B#7 || op == 0x2C#7 then placeBytes 8 (dstPlace t (.op { o.dst with ty := .ud }) 0) else 0#4096
  | .math fc o =>
    let d := laneBytes t o.ctl (plainUsage .none (mathTypes o)) (.op o.dst)
    if fc == 0xB#4 then d ||| (d <<< (32 * regsSpanned o)) else d
  | .send _ | .illegal | .nop _ | .br2 _ _ | .compact2 _ | .compact3 _ => 0#4096

/-- The bytes that the registers of a response write, the first being register `r`. -/
def answerBytes (r : Nat) : Answer → BitVec 4096
  | [] => 0#4096
  | v :: rest => ((~~~v.keeps).setWidth 4096 <<< (32 * r)) ||| answerBytes (r + 1) rest

/-- The bytes that a response writes. -/
def Response.bytes (r : Response) : BitVec 4096 := answerBytes r.base r.data

/-- A response of a thread races with a write to bytes of the register file (R587). -/
def Response.race (tid : Nat) (w : BitVec 4096) (r : Response) : Response :=
  if r.tid = tid then { r with raced := r.raced ||| (w &&& r.bytes) } else r

/-- Before an instruction that does not check its destination: pending responses to the bytes it writes race with it
(R587). -/
def State.markRaces (s : State) (i : Instr) : State :=
  if (depCtrl (operandShape i)).2 then
    let w := shapeBytes s.eu (operandShape i)
    { s with pending := s.pending.map (Response.race s.eu.tid w) }
  else s

/-- After a send that does not check its destination: of the pending responses the first `n`, which were pending before, race
with its own (R587). -/
def State.markAnswered (s : State) (i : Instr) (n : Nat) : State :=
  if (depCtrl (operandShape i)).2 then
    let own := s.pending.drop n
    let w := own.foldl (fun w r => w ||| r.bytes) 0#4096
    { s with pending := (s.pending.take n).map (Response.race s.eu.tid w) ++ own }
  else s

/-- The scoreboard after an instruction (R12, R50): its destination's bits are cleared, or with NoDDClr stay set. -/
def retire (before : Thread) (i : Instr) (s : State) : State :=
  let w := (instrUse before i).writes
  let sb := if (depCtrl (operandShape i)).1 then before.sb ||| w else before.sb &&& ~~~w
  if s.eu.tid = before.tid then { s with eu := { s.eu with sb } } else s

/-- A register whose bytes of a mask stay as they are, the others being replaced. -/
def keepBytes (keeps : DWord) (old new : HWord) : HWord :=
  if keeps = 0#32 then new
  else (List.range 32).foldl (fun w b => if keeps.getLsbD b then setByte w b (old.extractLsb' (8 * b) 8) else w) new

/-- The bytes of register `r`, written by an instruction while a response was pending, that keep the instruction's value when
the response arrives: each a draw (R587). -/
def raceKeeps (draws r : Nat) (raced : DWord) : DWord :=
  if raced = 0#32 then 0#32
  else (List.range 32).foldl (fun w b =>
    if raced.getLsbD b && (Config.free draws b (1000 + r)).getLsbD 0 then setBit w b true else w) 0#32

/-- What register `r` holds after a response's register arrives: the response's bytes, but those it does not write and those
that a racing write keeps. -/
def arrived (draws : Nat) (t : Thread) (raced : BitVec 4096) (r : Nat) (v : ResponseReg) : HWord :=
  keepBytes (v.keeps ||| raceKeeps draws r (raced.extractLsb' (32 * r) 32)) (t.reg r) v.value

/-- The thread after a response arrives (R135). -/
def Thread.receive (t : Thread) (draws : Nat) (r : Response) : Thread :=
  t.setRegs r.base ((List.range r.data.length).map fun k =>
    arrived draws t r.raced (r.base + k) (r.data.getD k ⟨0#256, 0#32⟩))

/-- A response delivered to its thread. -/
def State.deliver (s : State) (r : Response) : State :=
  if r.tid = s.eu.tid then { s with eu := s.eu.receive s.draws r }
  else { s with parked := s.parked.map fun t => if t.tid = r.tid then t.receive s.draws r else t }

/-- The `k`-th pending response delivered. -/
def State.deliverAt (s : State) (k : Nat) : State :=
  match s.pending[k]? with
  | some r => { s.deliver r with pending := s.pending.eraseIdx k }
  | none => s

end Sys2Proof.Machine
end

