-- ==== Sys2Proof/Machine/Run.lean ====
section
/-! DEFINITION. Fetching and running one instruction of the resident thread (R28, R96, R543-R545), and which agent acts in a
step (R554, R593). -/

namespace Sys2Proof.Machine

/-- Address of the resident thread's instruction (R9, R484): the kernel's Kernel Start Pointer High is above the 32 bits of `ip`;
the system routine is at `sip`. -/
def State.fetchAddress (s : State) : Nat :=
  s.ctx.instructionBase.toNat + (if s.eu.inRoutine then 0 else s.eu.codeHigh.toNat * 2 ^ 32) + s.eu.ip.toNat

/-- R21, R28: `n` bytes at `ip` exist, and nobody has modified them under the running thread. -/
def State.checkFetch (s : State) (n : Nat) : Exec Unit := do
  s.checkAccess s.fetchAddress n
  require ((List.range n).all fun k => s.fetchable (s.fetchAddress + k)) .selfModifying

/-- The instruction word at `ip` (R28): 8 bytes, and 8 more unless bit 29 says it is compact. -/
def State.fetch (s : State) : Exec (BitVec 128) := do
  require (decide (s.eu.ip.toNat % 8 = 0)) .branchTarget
  s.checkFetch 8
  let lo := BitVec.ofNat 128 (Memory.readLE s.mem s.fetchAddress 8)
  if isCompact lo then return lo
  else
    s.checkFetch 16
    return BitVec.ofNat 128 (Memory.readLE s.mem s.fetchAddress 16)

/-- `DebugCtrl` of a word (R52, R72, R76). -/
def debugBit (w : BitVec 128) : Bool :=
  if isCompact w && !isThreeSrcOpcode (w.extractLsb' 0 7) then w.getLsbD 7 else w.getLsbD 30

/-- `cr0.0[15]`: the next instruction's breakpoint is suppressed (R545). -/
def Thread.suppressed (t : Thread) : Bool := (t.cr0.getD 0 0#32).getLsbD 15

/-- Whether an instruction was executed rather than left waiting (R134, R136). -/
def progressed (i : Instr) (before after : Thread) : Bool :=
  match after.run with
  | .waiting _ => false
  | _ =>
    match i.shape with
    | .send _ => after.ip != before.ip || after.run == .ended
    | _ => true

/-- The breakpoint suppression is used up by one instruction outside the system routine (R545). -/
def unsuppress (before : Thread) (s : State) : State :=
  if before.suppressed && !before.inRoutine && s.eu.tid == before.tid then { s with eu := s.eu.setCr0Bit 0 15 false } else s

/-- Another thread becomes the resident one; a thread that is not over goes to the end of the row. -/
def State.rotate (s : State) : State :=
  match s.parked with
  | [] => s
  | t :: rest =>
    match s.eu.run with
    | .absent | .ended => { s with eu := t, parked := rest }
    | .running | .waiting _ => { s with eu := t, parked := rest ++ [s.eu] }

/-- A thread that cannot go on (R12, R136): its oldest pending response arrives, or another thread runs. -/
def State.yieldThread (s : State) : State :=
  match s.pending.findIdx? fun r => r.tid == s.eu.tid with
  | some k => s.deliverAt k
  | none => s.rotate

/-- After an instruction's own effect: the race of its response (R587), the scoreboard (R12, R50) and the used-up breakpoint suppression (R545); one that only
waits has not been issued, so it marks nothing, and another thread becomes resident (R134, R136). -/
def State.afterExec (s : State) (i : Instr) (s1 : State) : State :=
  if progressed i s.eu s1.eu then unsuppress s.eu (retire s.eu i (s1.markAnswered i s.pending.length)) else { s1 with pending := s.pending }.rotate

/-- A decoded instruction of the resident thread: it waits for its registers, or is executed. -/
def State.issue (s : State) (i : Instr) : Host.Outcome State Fault Refusal :=
  if s.blocked i then .next s.yieldThread
  else
    match exec i (s.markRaces i) with
    | .next s1 => .next (s.afterExec i s1)
    | .fault f => .fault f
    | .refused r => .refused r

/-- The word at `ip` executed (R96): an opcode that is no instruction raises the illegal-opcode exception (R100). -/
def State.executeWord (s : State) (w : BitVec 128) : Host.Outcome State Fault Refusal :=
  match decode w with
  | .ok i => s.issue i
  | .error .reservedOpcode =>
    match (raiseIllegal s).outcome with
    | .next s1 => .next (unsuppress s.eu s1)
    | .fault f => .fault f
    | .refused r => .refused r
  | .error (.illFormed f) => .refused (.illFormed f)

/-- One step of the resident, running thread (R96): a breakpoint that is not suppressed is taken before the instruction;
inside the system routine it only sets its status bit (R544, R545). -/
def State.runThread (s : State) : Host.Outcome State Fault Refusal :=
  match s.fetch with
  | .error (.fault f) => .fault f
  | .error (.refuse r) => .refused r
  | .ok w =>
    if debugBit w && !s.eu.suppressed then
      let u := { s with eu := s.eu.takeException s.ctx.sip .breakpoint }
      if s.eu.inRoutine then u.executeWord w else .next u
    else s.executeWord w

/-- The resident thread acts: a waiting one goes on when it is notified (R134); without one, another becomes resident. -/
def State.runCurrent (s : State) : Host.Outcome State Fault Refusal :=
  match s.eu.run with
  | .running => s.runThread
  | .waiting k => if s.eu.n0.get k = 0#32 then .next s.rotate else .next { s with eu := { s.eu with run := .running } }
  | .absent | .ended => .next s.rotate

/-! ### Whose turn it is (R554, R593) -/

/-- An agent that can act: the outside world's next event; the dispatch of a thread that nothing holds back; a thread; a response
on its way to a register. -/
inductive Agent
  | input
  | dispatch
  | thread (tid : Nat)
  | response (tid base : Nat)
deriving DecidableEq, Repr

/-- A thread whose access waits for its translation (R548). -/
def State.stalled (s : State) (t : Thread) : Bool := s.rcs.faults.any fun f => f.source == .thread t.tid

/-- A thread that can act: it runs and no access of it waits, or it waits for a notification that has come (R134). -/
def State.canAct (s : State) (t : Thread) : Bool :=
  match t.run with
  | .running => !s.stalled t
  | .waiting k => t.n0.get k != 0#32
  | .absent | .ended => false

/-- The agents that can act. -/
def State.agents (s : State) : List Agent :=
  (if s.inputs.isEmpty then [] else [.input]) ++ (if s.readyDispatch.isSome then [.dispatch] else []) ++
  ((s.eu :: s.parked).filter s.canAct).map (fun t => .thread t.tid) ++ s.pending.map fun r => .response r.tid r.base

/-- Whose turn it is (R593): any of the agents that can act, a free choice where there are several. -/
def State.turn (s : State) : Option Agent :=
  match s.agents with
  | [] => none
  | [a] => some a
  | a :: l => (a :: l)[Config.schedule s.draws % (l.length + 1)]?

/-- The state with thread `tid` the resident one; one that is not over takes its place in the row. -/
def State.withThread (s : State) (tid : Nat) : State :=
  match s.eu.tid == tid && s.eu.resident, s.parked.findIdx? fun t => t.tid == tid with
  | true, _ | _, none => s
  | false, some k =>
    { s with
      eu := s.parked.getD k s.eu
      parked := if s.eu.resident then s.parked.set k s.eu else s.parked.eraseIdx k }

/-- The outside world's next event. -/
def State.takeInput (s : State) : Host.Outcome State Fault Refusal :=
  match s.inputs with
  | e :: rest => (State.apply { s with inputs := rest } e).outcome
  | [] => .next s

/-- A dispatch that is ready. -/
def State.takeDispatch (s : State) : Host.Outcome State Fault Refusal :=
  match s.readyDispatch with
  | some (d, rest) => (State.dispatchNow { s with media := { s.media with waiting := rest } } d).outcome
  | none => .next s

/-- A pending response to a register of a thread delivered; of several, which is a draw. -/
def State.takeResponse (s : State) (tid base : Nat) : State :=
  let ks := (List.range s.pending.length).filter fun k => s.pending[k]?.any fun r => r.tid == tid && r.base == base
  match ks[(s.draw 0 33).toNat % ks.length]? with
  | some k => s.deliverAt k
  | none => s

/-- An agent acts. -/
def State.act (s : State) : Agent → Host.Outcome State Fault Refusal
  | .input => s.takeInput
  | .dispatch => s.takeDispatch
  | .thread tid => (s.withThread tid).runCurrent
  | .response tid base => .next (s.takeResponse tid base)

/-- What one step does before time passes: the agent whose turn it is acts; without one the machine waits. -/
def State.once (s : State) : Host.Outcome State Fault Refusal :=
  match s.turn with
  | some a => s.act a
  | none => .next s

/-- The end of a run (R555): every engine is idle and no thread is resident, or an engine is stuck on a fatal error. -/
def State.runEnded (s : State) : Bool :=
  let engines := [s.rcs, s.bcs, s.vcs, s.vcs2, s.vecs]
  (engines.all fun v => v.ccid.isNone) && s.resident == 0 || engines.any fun v => v.stuck

/-- The outcome with time passed. -/
def ticked : Host.Outcome State Fault Refusal → Host.Outcome State Fault Refusal
  | .next s => .next s.tick
  | .fault f => .fault f
  | .refused r => .refused r

/-! ### A word to be fetched next -/

/-- Where a thread that a word needs starts, when none is resident (a Kernel Start Pointer, R9). -/
def loadedKernel : DWord := 0x00001000#32

/-- A thread as a dispatch leaves it (R10, R484: denormal controls of `Ftz`, illegal-opcode exception enabled), its other
registers 0. -/
def loadedThread (tid : Nat) : Thread :=
  { Thread.none with
    cr0 := ((Vector.replicate 3 0#32).setIfInBounds 0 0x00000440#32).setIfInBounds 1 0x00001000#32
    ip := loadedKernel
    dmask := 0xFFFFFFFF#32
    vmask := 0xFFFFFFFF#32
    pcip := Vector.replicate 32 loadedKernel
    run := .running
    tid
    urbHandle := true }

/-- The thread that fetches next: the resident one if it is running, else a dispatched one. -/
def fetchingThread (s : State) : Thread :=
  match s.eu.run with
  | .running => { s.eu with sb := 0#128 }
  | .waiting _ | .absent | .ended => loadedThread s.nextTid

/-- The state in which the next step fetches a word: the word at the fetching thread's address, and nothing else that could
act first. -/
def State.placeWord (s : State) (w : BitVec 128) : State :=
  let t := fetchingThread s
  { s with
    eu := t
    parked := []
    pending := []
    inputs := []
    media := { s.media with waiting := [] }
    stores := []
    nextTid := max s.nextTid (t.tid + 1)
    rcs := { s.rcs with faults := [] }
    mem := Memory.writeLE s.mem { s with eu := t }.fetchAddress w.toNat 16 }

end Sys2Proof.Machine
end

