-- ==== Sys2Proof/Machine/Step.lean ====
section
/-! DEFINITION. One step of the machine. -/

namespace Sys2Proof.Machine

/-- One step: what the agent whose turn it is does (`State.once`), and time passes. -/
def step (s : State) : Host.Outcome State Fault Refusal := ticked s.once

/-- The state whose next step fetches and runs the instruction of an opcode-table row's word (log 10). -/
def State.withFetchWord (s : State) (nbits w : Nat) : State := s.placeWord (tableWord nbits w)

end Sys2Proof.Machine
end

