-- ==== Sys2Proof/Safety.lean ====
section
/-! DEFINITION. What a good state and a safe run are, in the terms the statements use. -/

namespace Sys2Proof.Machine

/-- Every address of an on-chip store rises (R14, R16). -/
def Store.wf (m : Store) : Bool := Store.wfFrom 0 m

/-- The form that every step keeps: graphics memory canonical and inside the address space (R38), the unified return buffer
and every shared memory with rising addresses. -/
def State.Inv (s : State) : Prop :=
  Memory.wf s.mem = true ∧ Store.wf s.urb = true ∧ ∀ g ∈ s.groups, Store.wf g.slm = true

/-- States a number of steps leads to. -/
inductive Reaches : Nat → State → State → Prop
  | refl (s : State) : Reaches 0 s s
  | step {n : Nat} {s t u : State} (h : Machine.step s = .next t) (r : Reaches n t u) : Reaches (n + 1) s u

/-- An infinite run in which the agents are interleaved fairly (R593): one that can act from some step on acts at some later
step. Nothing in the model makes `Config.schedule` fair: a claim that something happens in the end takes a fair run as its
hypothesis (log 38). -/
structure FairRun (r : Nat → State) : Prop where
  steps : ∀ n, Machine.step (r n) = .next (r (n + 1))
  fair : ∀ a n, (∀ m, n ≤ m → a ∈ (r m).agents) → ∃ m, n ≤ m ∧ (r m).turn = some a

/-- A run of `n` steps from a state that neither faults nor is refused on the way. -/
def RunsSafely (n : Nat) (s : State) : Prop := ∀ m t, m < n → Reaches m s t → ∃ u, Machine.step t = .next u

end Sys2Proof.Machine
end

