-- ==== Sys2Proof/Certificates/Slice0/Obligations.lean ====
section
/-! DEFINITION. The statements for the provers, and the words they are said in. The rules R96 to R167 of the instructions'
semantics are marked in the spec [from general knowledge, not in source]: a statement about what an instruction computes
formalises them, and its basis is 'derived'. -/

namespace Sys2Proof.Claims

open Sys2Proof.Machine

/-! ### Computing instructions (R96 to R98) -/

/-- The floating-point mode admits the types (R97: the ALT mode is refused for floats). -/
def FloatMode (t : Thread) (types : List RType) : Prop := t.alt = false ∨ ∀ ty ∈ types, RType.isInt ty = true

/-- The operands of a one-source instruction can be read: channel `c` has the value `x c`. -/
def Reads1 (s : State) (o : OneSrc) (x : Nat → Val) : Prop :=
  FloatMode s.eu (oneTypes o) ∧ ∀ c, c < o.ctl.exec.channels → sourceValue s o.src0 drawSrc0 c = .ok (x c)

/-- The second source is one (R5: no architecture register; R68: a packed immediate goes with a byte or word source 0). -/
def Source1 (o : TwoSrc) : Prop := checkSource1 o.src1 = .ok () ∧ checkPacked o = .ok ()

/-- The operands of a two-source instruction can be read: channel `c` has the values `x c` and `y c`. -/
def Reads2 (s : State) (o : TwoSrc) (x y : Nat → Val) : Prop :=
  FloatMode s.eu (twoTypes o) ∧ Source1 o ∧ ∀ c, c < o.ctl.exec.channels →
    sourceValue s (.reg o.src0) drawSrc0 c = .ok (x c) ∧ sourceValue s o.src1 drawSrc1 c = .ok (y c)

/-- The operands of a three-source instruction can be read. -/
def Reads3 (s : State) (o : ThreeSrc) (x y z : Nat → Val) : Prop :=
  FloatMode s.eu (threeTypes o) ∧ ∀ c, c < o.ctl.exec.channels →
    triValue s o.s0 (triTypes o).1 drawSrc0 c = .ok (x c) ∧ triValue s o.s1 (triTypes o).2.1 drawSrc1 c = .ok (y c) ∧
    triValue s o.s2 (triTypes o).2.2 drawSrc2 c = .ok (z c)

/-- The channels of an instruction: write enable (R11), place (R58), result. -/
def outputs (s : State) (k : Ctl) (d : Dest) (u : Usage) (off : Nat) (place : Nat → Place) (lane : Nat → Lane) :
    List (Bool × Place × Lane) :=
  (List.range k.exec.channels).map fun c => (laneEnabled s.eu k u d off c, place c, lane c)

/-- R96: `t` is the thread after an instruction whose channel `c` computes `lane c`. The channel controls are legal, every
channel's destination exists and can be written, and there is a next instruction. -/
def Template (s : State) (k : Ctl) (d : Dest) (u : Usage) (lane : Nat → Lane) (t : Thread) : Prop :=
  ∃ off place t1,
    channelOffset k u.usesDf = .ok off ∧
    checkFlags k u.writesFlags off k.exec.channels = .ok () ∧
    (∀ c, c < k.exec.channels → dstPlace s.eu d c = .ok (place c)) ∧
    storeLanes d s.eu (outputs s k d u off place lane) = .ok t1 ∧
    completeAt s.eu (storeConditions k u off (outputs s k d u off place lane) t1) s.ctx.sip k d
      (anyWritten (outputs s k d u off place lane)) = .ok t

/-- A one-source instruction completes with the values `v` as its channels' results (R96, R97). -/
def Gives1 (s : State) (o : OneSrc) (i : Instr) (v : Nat → Val) : Prop :=
  ∀ t, Template s o.ctl (.op o.dst) (plainUsage o.cond (oneTypes o))
      (fun c => finishLane s o.ctl o.cond o.dst.ty c (v c)) t →
    exec i s = .next { s with eu := t }

/-- The same of a two-source instruction. -/
def Gives2 (s : State) (o : TwoSrc) (i : Instr) (v : Nat → Val) : Prop :=
  ∀ t, Template s o.ctl (.op o.dst) (plainUsage o.cond (twoTypes o))
      (fun c => finishLane s o.ctl o.cond o.dst.ty c (v c)) t →
    exec i s = .next { s with eu := t }

/-- The same of a three-source instruction; `flags` says whether its condition goes to the flag register. -/
def Gives3 (s : State) (o : ThreeSrc) (flags : Bool) (i : Instr) (v : Nat → Val) : Prop :=
  ∀ t, Template s o.ctl (triDest o)
      { plainUsage o.cond (threeTypes o) with writesFlags := flags && (plainUsage o.cond (threeTypes o)).writesFlags }
      (fun c => finishLane s o.ctl o.cond o.dstTy.toR c (v c)) t →
    exec i s = .next { s with eu := t }

/-- The result of one channel of a move (R101): the bits as they are, or the value converted. -/
def movedLane (s : State) (o : OneSrc) (raw : Nat → QWord) (c : Nat) : Lane :=
  if isRawCopy o then
    { v := valueOf o.dst.ty (raw c), r := raw c, f := conditionOf o.cond o.dst.ty (valueOf o.dst.ty (raw c))
      acc := accBits (valueOf o.dst.ty (raw c)) }
  else
    finishLane s o.ctl o.cond o.dst.ty c (movedValue s.eu.floatEnv (s.draw c drawResult)
      (modify (Src.modifier o.src0) (valueOf (Src.elemType o.src0) (raw c))))

end Sys2Proof.Claims

open Sys2Proof Sys2Proof.Machine Sys2Proof.Claims

/-! ## The whole machine -/

/-- What reset leaves (R18, R585, R575, R561): no thread, group, context, response or input; every interrupt register
group at 0, FFFFFFFFh, 0, 0; hardware status masks all ones, and error masks too but for their must-be-zero bits
(R557, R573, R582, R583); no clock gating disabled; the audio power state 3, the power clock state 88h. The values of
registers the spec gives none for (log 1) are not part of this. It is the model's choice that graphics memory then
lists nothing, that is, reads 0 (log 4), and which bits of an error mask are the must-be-zero ones (log 58). -/
def Obligations.ResetStateIsAsTheSpecSays : Prop :=
  State.reset.eu.run = .absent ∧ State.reset.parked = [] ∧ State.reset.groups = [] ∧ State.reset.pending = [] ∧
  State.reset.inputs = [] ∧ State.reset.mem = [] ∧ State.reset.hostInterrupt = false ∧
  (∀ e, (State.reset.engine e).irq = ⟨0#32, 0xFFFFFFFF#32, 0#32, 0#32, 0#32⟩ ∧ (State.reset.engine e).eir = 0#32 ∧
    (State.reset.engine e).esr = 0#32 ∧ (State.reset.engine e).emr = e.errorBits ∧
    (State.reset.engine e).clockGateA = false ∧ (State.reset.engine e).clockGateB = false ∧
    (State.reset.engine e).execlist = [] ∧ (State.reset.engine e).pendingList = [] ∧
    (State.reset.engine e).hwstam = 0xFFFFFFFF#32 ∧ (State.reset.engine e).ccid = none ∧
    (State.reset.engine e).stuck = false) ∧
  (∀ u, State.reset.dev.group u = ⟨0#32, 0xFFFFFFFF#32, 0#32, 0#32, 0#32⟩) ∧
  State.reset.dev.audioPower = 3#2 ∧ State.reset.dev.powerClock = 0x88#32 ∧
  (∀ n, State.reset.blt.reg n = 0#32) ∧ State.reset.media.scoreStuck = false

/-- The form of memory and stores holds after reset. -/
def Obligations.ResetMeetsTheInvariant : Prop := State.reset.Inv

/-- Every step keeps graphics memory canonical and inside the 48-bit address space (R38), and every on-chip store's
addresses rising; from every state, whatever instruction, message, response, blit or host event the step is. -/
def Obligations.EveryStepKeepsTheInvariant : Prop :=
  ∀ s s' : State, s.Inv → Machine.step s = .next s' → s'.Inv

namespace Sys2Proof.Claims

open Sys2Proof.Machine

/-- It is a running thread's turn (R593: a free choice where several agents can act); `u` is the machine with it resident. -/
def ThreadActs (s u : State) : Prop :=
  ∃ tid, s.turn = some (.thread tid) ∧ u = s.withThread tid ∧ u.eu.run = .running

/-- What the step adds after an instruction's own effect: the race of its response (R587), the scoreboard (R12, R50) and the used-up breakpoint suppression
(R545); of an instruction that only waits nothing but that another thread becomes resident (R134, R136). -/
def afterInstruction (s : State) (i : Instr) (s1 : State) : State :=
  if progressed i s.eu s1.eu then unsuppress s.eu (retire s.eu i (s1.markAnswered i s.pending.length)) else { s1 with pending := s.pending }.rotate

end Sys2Proof.Claims

/-- When it is a thread's turn, and the bytes at its instruction pointer decode to an instruction that has no breakpoint and
whose registers are not busy, the step is that instruction's `exec`, with the scoreboard and the passing of time around it (R28,
R96, R12). -/
def Obligations.StepRunsTheDecodedInstruction : Prop :=
  ∀ (s u : State) (w : BitVec 128) (i : Instr),
    ThreadActs s u → u.fetch = .ok w → decode w = .ok i → (debugBit w = false ∨ u.eu.suppressed = true) →
    u.blocked i = false →
    (∀ s1, exec i (u.markRaces i) = .next s1 → Machine.step s = .next (afterInstruction u i s1).tick) ∧
    (∀ f, exec i (u.markRaces i) = .fault f → Machine.step s = .fault f) ∧
    (∀ r, exec i (u.markRaces i) = .refused r → Machine.step s = .refused r) ∧
    (u.pending = [] → u.markRaces i = u)

/-- Decoding the word of any well-formed instruction gives the instruction back: no bit of any encoding is dropped (R44 to
R95). -/
def Obligations.DecodeEncodeRoundTrip : Prop := ∀ i : Instr, i.wf = true → decode (encode i) = .ok i

namespace Sys2Proof.Claims

open Sys2Proof.Machine

/-- The bits of a 128-bit word that its instruction does not have: bits 127:64 of a compact one (R55), and bits 126:96 of a
send whose descriptor is in the address register, which "then carry no information" (R69). -/
def noInformation (i : Instr) : BitVec 128 :=
  match i, i.shape with
  | .compactTwo _, _ | .compactThree _, _ => 0xFFFFFFFFFFFFFFFF0000000000000000#128
  | _, .send f => if f.desc = .reg then 0x7FFFFFFF000000000000000000000000#128 else 0#128
  | _, _ => 0#128

end Sys2Proof.Claims

/-- The other direction: a word that decodes is the word of its instruction, but for the bits that carry no
information (R55, R69). That bits 88:64 of a one-source word with an immediate are 0 is the model's reading (log 9).
-/
def Obligations.EncodeDecodeRoundTrip : Prop :=
  ∀ (w : BitVec 128) (i : Instr), decode w = .ok i → i.wf = true ∧
    encode i &&& ~~~noInformation i = w &&& ~~~noInformation i

/-- A few words written out from the encoding tables decode to the instructions they stand for (95_test_vectors.md B2 to
B13). -/
def Obligations.PrintedWordsDecode : Prop :=
  decode 0x0000000000000000000000000000007E#128 = .ok (.nop false) ∧
  decode 0x0000000000000000000000004000007E#128 = .ok (.nop true) ∧
  decode 0#128 = .ok .illegal ∧
  (∃ o, decode 0x008D0040028D00402060020C00600040#128 = .ok (.add o) ∧ o.ctl.exec = .s8 ∧
    o.dst = ⟨.grf, .ud, .direct 3#8 0#5, .align1 .s1⟩ ∧
    o.src0 = ⟨.grf, .ud, ⟨false, false⟩, .direct 2#8 0#5, .align1 .s8 .w8 .s1⟩) ∧
  (∃ o, decode 0xFFFFFFD00E0000000000000000610027#128 = .ok (.whileOp o) ∧ o.off = .jip 0xFFFFFFD0#32) ∧
  decode 0x00000000000000000000000000000680#128 = .error (.illFormed "Reserved127:7")

/-! ## Computing instructions: results -/

/-- `mov` and `movi` complete with the source's bits, or its value converted to the destination type (R101, R103, R97); R103's
restriction of `movi` to a register-indirect source is not checked (log 30). -/
def Obligations.MoveGivesSourceConverted : Prop :=
  ∀ (s : State) (o : OneSrc) (raw : Nat → QWord) (t : Thread),
    FloatMode s.eu (oneTypes o) →
    (∀ c, c < o.ctl.exec.channels → readSource s o.src0 drawSrc0 c = .ok (raw c)) →
    Template s o.ctl (.op o.dst) (plainUsage o.cond (oneTypes o)) (movedLane s o raw) t →
    exec (.mov o) s = .next { s with eu := t } ∧ exec (.movi o) s = .next { s with eu := t }


/-- `sel` with a conditional modifier completes with the minimum or maximum the condition picks, a NaN losing to a
number, the flag register not written; a predicated `sel` with source 0 where the predicate holds and source 1
elsewhere, on every channel the other masks enable (R102, R47). What the conditions `.o` and `.u` pick is a free
choice (log 53). That a predicated `sel` moves its chosen source in that source's own type (log 57), and the type to
which operands of different types are brought (log 16), are the model's choices. -/
def Obligations.SelectGivesTheChosenSource : Prop :=
  (∀ (s : State) (o : TwoSrc) (x y v : Nat → Val) (t : Thread),
     Reads2 s o x y → o.ctl.pred = .none → o.cond ≠ .none →
     (∀ c, c < o.ctl.exec.channels →
       (∃ a b, unify s.eu.floatEnv (s.draw c drawResult) (x c) (y c) = .ok (.ints a b) ∧
         v c = .int (if CondMod.picks o.cond (s.draw c drawOrder) (some (compareInt a b)) then a else b)) ∨
       (∃ p a b, unify s.eu.floatEnv (s.draw c drawResult) (x c) (y c) = .ok (.flts p a b) ∧
         v c = .flt p (selectFloat s.eu.floatEnv p (s.draw c drawResult) (s.draw c drawOrder) o.cond a b))) →
     Template s o.ctl (.op o.dst) { plainUsage o.cond (twoTypes o) with writesFlags := false }
       (fun c => finishLane s o.ctl o.cond o.dst.ty c (v c)) t →
     exec (.sel o) s = .next { s with eu := t }) ∧
  (∀ (s : State) (o : TwoSrc) (x y : Nat → Val) (off : Nat) (t : Thread),
     Reads2 s o x y → o.ctl.pred ≠ .none → o.cond = .none →
     channelOffset o.ctl (usesDouble (twoTypes o)) = .ok off →
     Template s o.ctl (.op o.dst) { plainUsage o.cond (twoTypes o) with predicateGates := false }
       (fun c => finishLane s o.ctl o.cond o.dst.ty c (movedValue s.eu.floatEnv (s.draw c drawResult)
         (if predicateMask s.eu o.ctl (off + c) then x c else y c))) t →
     exec (.sel o) s = .next { s with eu := t })

/-- `not`, `and`, `or` and `xor` complete with the bitwise result of integers, at the source's width and at the wider
source's (R104 to R107); the condition of `not` tests the result as the destination's integer (R104), that of the
others the exact result (R98). The signedness of a result (log 17) and the meaning of `(abs)` on the source of `not`
(log 52) are the model's choices. -/
def Obligations.LogicGivesBitwiseResult : Prop :=
  (∀ (s : State) (o : OneSrc) (a : Nat → Int) (t : Thread), RType.isInt o.dst.ty = true →
    (∀ c, c < o.ctl.exec.channels → logicValue s o.src0 true drawSrc0 c = .ok (a c)) →
    Template s o.ctl (.op o.dst) (plainUsage o.cond (oneTypes o))
      (fun c => finishNot s o.ctl o.cond o.dst.ty c
        (if RType.signed (Src.elemType o.src0) then -(a c) - 1
          else 2 ^ (8 * (Src.elemType o.src0).size) - 1 - a c)) t →
    exec (.not o) s = .next { s with eu := t }) ∧
  (∀ (s : State) (o : TwoSrc) (a b : Nat → Int) (t : Thread) (i : Instr) (op : Nat → Nat → Nat),
    RType.isInt o.dst.ty = true → Source1 o →
    (∀ c, c < o.ctl.exec.channels →
      logicValue s (.reg o.src0) false drawSrc0 c = .ok (a c) ∧ logicValue s o.src1 false drawSrc1 c = .ok (b c)) →
    (i = .and o ∧ op = Nat.land ∨ i = .or o ∧ op = Nat.lor ∨ i = .xor o ∧ op = Nat.xor) →
    Template s o.ctl (.op o.dst) (plainUsage o.cond (twoTypes o))
      (fun c => finishLane s o.ctl o.cond o.dst.ty c (.int (bitwise o op (a c) (b c)))) t →
    exec i s = .next { s with eu := t })


/-- On integers `add`, `mul`, `avg`, `shl`, `shr` and `asr` complete with the exact result, converted to the destination (R140
to R142, R108, R109, R111, R97), `mul` of two 32-bit sources without saturation or condition; `shr`, and `asr` of an unsigned
source, shift the source's bits with zero fill. On floats `add` and `mul` complete with one correctly rounded result in the
execution type (R140, R141, R97; log 16), and the others with a free value, their rules stating no result (log 53). -/
def Obligations.ArithmeticGivesItsResult : Prop :=
  (∀ (s : State) (o : TwoSrc) (a b : Nat → Int), Reads2 s o (fun c => .int (a c)) (fun c => .int (b c)) →
     Gives2 s o (.add o) (fun c => .int (a c + b c)) ∧
     ((isDword o.src0.ty && isDword (Src.elemType o.src1)) = false ∨ (o.ctl.sat = false ∧ o.cond = .none) →
       Gives2 s o (.mul o) (fun c => .int (a c * b c))) ∧
     Gives2 s o (.avg o) (fun c => .int ((a c + b c + 1) / 2)) ∧
     Gives2 s o (.shl o) (fun c => .int (a c * 2 ^ shiftCount o (b c))) ∧
     Gives2 s o (.shr o) (fun c => .int (a c % 2 ^ (8 * o.src0.ty.size) / 2 ^ shiftCount o (b c))) ∧
     Gives2 s o (.asr o) (fun c => .int
       ((if RType.signed o.src0.ty then a c else a c % 2 ^ (8 * o.src0.ty.size)) / 2 ^ shiftCount o (b c)))) ∧
  (∀ (s : State) (o : TwoSrc) (x y : Nat → Val) (p : Fmt) (a b : Nat → Nat), Reads2 s o x y →
     (∀ c, c < o.ctl.exec.channels →
       unify s.eu.floatEnv (s.draw c drawResult) (x c) (y c) = .ok (.flts p (a c) (b c))) →
     Gives2 s o (.add o) (fun c => .flt p (fadd s.eu.floatEnv p (s.draw c drawResult) (a c) (b c))) ∧
     ((isDword o.src0.ty && isDword (Src.elemType o.src1)) = false →
       Gives2 s o (.mul o) (fun c => .flt p (fmul s.eu.floatEnv p (s.draw c drawResult) (a c) (b c)))) ∧
     ∀ i ∈ [Instr.avg o, .shl o, .shr o, .asr o],
       Gives2 s o i (fun c => .flt p ((s.draw c drawResult).toNat % 2 ^ p.width)))

/-- The bit-field and bit-count instructions complete with their value (R115 to R118, R150 to R153): `bfrev`, `lzd`,
`fbh`, `fbl`, `cbit`, `bfi1`, `bfe` and `bfi2`; but for `bfrev` ("`:ud` only"), with a free value for operand types
for which their rules state no result (log 53). That the result of `bfi2` is an unsigned number is the model's choice
(log 57). -/
def Obligations.BitFieldInstructionsGiveTheirValue : Prop :=
  (∀ (s : State) (o : OneSrc) (a : Nat → Int), Reads1 s o (fun c => .int (a c)) →
    (oneTypes o = [.ud, .ud] → Gives1 s o (.bfrev o) (fun c => .int (reverse32 (low32 (a c))))) ∧
    (Src.elemType o.src0 = .ud →
      Gives1 s o (.lzd o) (fun c => .int (leadingZeros (low32 (a c)))) ∧
      Gives1 s o (.fbl o) (fun c => .int (firstLow (low32 (a c))))) ∧
    (isDword (Src.elemType o.src0) = true →
      Gives1 s o (.fbh o) (fun c => .int (firstHigh (Src.elemType o.src0 == .d) (a c)))) ∧
    (cbitStated o = true →
      Gives1 s o (.cbit o) (fun c => .int (popCount (low32 (a c)) (8 * (Src.elemType o.src0).size))))) ∧
  (∀ (s : State) (o : TwoSrc) (a b : Nat → Int), Reads2 s o (fun c => .int (a c)) (fun c => .int (b c)) →
    (twoTypes o).all isDword = true → Gives2 s o (.bfi1 o) (fun c => .int (fieldMask (a c) (b c)))) ∧
  (∀ (s : State) (o : ThreeSrc) (a b d : Nat → Int),
    Reads3 s o (fun c => .int (a c)) (fun c => .int (b c)) (fun c => .int (d c)) →
    Gives3 s o true (.bfe o) (fun c => .int (extractField (o.srcTy == .d) (a c) (b c) (d c))) ∧
    Gives3 s o true (.bfi2 o) (fun c => .int (insertField (low32 (a c)) (low32 (b c)) (low32 (d c))))) ∧
  (∀ (s : State) (o : ThreeSrc) (x y z : Nat → Val) (p : Nat → Fmt) (a : Nat → Nat), Reads3 s o x y z →
    (∀ c, c < o.ctl.exec.channels → x c = .flt (p c) (a c)) →
    ∀ i ∈ [Instr.bfe o, .bfi2 o], Gives3 s o true i (fun c => openResult o.dstTy.toR (s.draw c drawResult))) ∧
  (∀ (s : State) (o : OneSrc) (x : Nat → Val), Reads1 s o x →
    (Src.elemType o.src0 ≠ .ud →
      ∀ i ∈ [Instr.lzd o, .fbl o], Gives1 s o i (fun c => openResult o.dst.ty (s.draw c drawResult))) ∧
    (isDword (Src.elemType o.src0) = false →
      Gives1 s o (.fbh o) (fun c => openResult o.dst.ty (s.draw c drawResult))) ∧
    (cbitStated o = false → Gives1 s o (.cbit o) (fun c => openResult o.dst.ty (s.draw c drawResult)))) ∧
  (∀ (s : State) (o : TwoSrc) (x y : Nat → Val), Reads2 s o x y → (twoTypes o).all isDword = false →
    Gives2 s o (.bfi1 o) (fun c => openResult o.dst.ty (s.draw c drawResult)))


/-- `frc`, `rndu`, `rndd`, `rnde` and `rndz` complete with the fraction or the rounded float, in the execution type
(R143 to R147, R97); `mad` with `s1 * s2 + s0` rounded once; `lrp` with one of the evaluations R165 admits; `csel`
with source 0 or 1 by the condition on source 2, a denormal flushed where R97 flushes it, the flag register unwritten
(R164, R165, R114; which of the two without a condition is a free choice, log 53). What `frc` gives of a tiny negative
number (log 35) and the type to which operands are brought (log 16) are the model's choices. -/
def Obligations.FloatInstructionsGiveTheirResult : Prop :=
  (∀ (s : State) (o : OneSrc) (p : Fmt) (x : Nat → Val) (a : Nat → Nat), Reads1 s o x →
     execFormat [Src.elemType o.src0] = .ok p →
     (∀ c, c < o.ctl.exec.channels → a c = toFormat s.eu.floatEnv p (s.draw c drawResult) (x c)) →
     Gives1 s o (.frc o) (fun c => .flt p (ffrac s.eu.floatEnv p (s.draw c drawResult) (a c))) ∧
     Gives1 s o (.rndu o) (fun c => .flt p (fintegral s.eu.floatEnv p (s.draw c drawResult) .ceil (a c))) ∧
     Gives1 s o (.rndd o) (fun c => .flt p (fintegral s.eu.floatEnv p (s.draw c drawResult) .floor (a c))) ∧
     Gives1 s o (.rnde o) (fun c => .flt p (fintegral s.eu.floatEnv p (s.draw c drawResult) .even (a c))) ∧
     Gives1 s o (.rndz o) (fun c => .flt p (fintegral s.eu.floatEnv p (s.draw c drawResult) .trunc (a c)))) ∧
  ((∀ (s : State) (o : ThreeSrc) (q q1 q2 p : Fmt) (a b d : Nat → Nat),
     Reads3 s o (fun c => .flt q (a c)) (fun c => .flt q1 (b c)) (fun c => .flt q2 (d c)) → triFormat o = .ok p →
     Gives3 s o true (.mad o) (fun c => .flt p (fmaNum s.eu.floatEnv p (s.draw c drawResult)
       (operandNum s.eu.floatEnv q1 (b c)) (operandNum s.eu.floatEnv q2 (d c)) (operandNum s.eu.floatEnv q (a c))))) ∧
   (∀ (s : State) (o : ThreeSrc) (a b d : Nat → Nat),
     Reads3 s o (fun c => .flt .f (a c)) (fun c => .flt .f (b c)) (fun c => .flt .f (d c)) →
     threeTypes o = [.f, .f, .f, .f] →
     Gives3 s o true (.lrp o) (fun c => .flt .f (chooseFrom (s.draw c drawOrder)
       (lerpResults s.eu.floatEnv (s.draw c drawResult) (a c) (b c) (d c)))) ∧
     (o.cond ≠ .none →
       Gives3 s o false (.csel o) (fun c => movedValue s.eu.floatEnv (s.draw c drawResult)
         (if conditionOf o.cond .f (.flt .f (flush s.eu.floatEnv .f (d c))) then .flt .f (a c) else .flt .f (b c)))) ∧
     (o.cond = .none →
       Gives3 s o false (.csel o) (fun c => movedValue s.eu.floatEnv (s.draw c drawResult)
         (if (s.draw c drawOrder).getLsbD 0 then .flt .f (a c) else .flt .f (b c))))))

/-- `cmp` and `cmpn` complete with all ones or all zeros in the destination and the test of the two sources in the
flag register (R112, R113). What the conditions `.o` and `.u` give is a free choice (log 53); the type to which an
integer and a float are brought is the model's choice (log 16). -/
def Obligations.CompareWritesMaskAndFlag : Prop :=
  ∀ (s : State) (o : TwoSrc) (x y : Nat → Val) (z : Nat → Pair) (t : Thread) (i : Instr)
    (test : FloatEnv → CondMod → QWord → Pair → Bool),
    Reads2 s o x y → o.cond ≠ .none → o.ctl.sat = false →
    (∀ c, c < o.ctl.exec.channels → unify s.eu.floatEnv (s.draw c drawResult) (x c) (y c) = .ok (z c)) →
    (i = .cmp o ∧ test = cmpTest ∨ i = .cmpn o ∧ test = cmpnTest) →
    Template s o.ctl (.op o.dst) (plainUsage o.cond (twoTypes o))
      (fun c =>
        { v := .int (if test s.eu.floatEnv o.cond (s.draw c drawOrder) (z c) then -1 else 0)
          r := intBits o.dst.ty (if test s.eu.floatEnv o.cond (s.draw c drawOrder) (z c) then -1 else 0)
          f := test s.eu.floatEnv o.cond (s.draw c drawOrder) (z c)
          acc := accBits (.int (if test s.eu.floatEnv o.cond (s.draw c drawOrder) (z c) then -1 else 0)) }) t →
    exec i s = .next { s with eu := t }

/-- `addc` and `subb` complete with the sum or difference modulo 2^32 in the destination and the carry or borrow in
the accumulator channel (R154, R155). Whether a saturating `subb` clamps is a free choice (log 53). -/
def Obligations.CarryAndBorrowGoToTheAccumulator : Prop :=
  ∀ (s : State) (o : TwoSrc) (a b : Nat → Int) (t : Thread) (i : Instr) (r : Int → Int → Int) (carry : Int → Int → Bool),
    Reads2 s o (fun c => .int (a c)) (fun c => .int (b c)) → twoTypes o = [.ud, .ud, .ud] → o.ctl.accWr = true →
    (i = .addc o ∧ o.ctl.sat = false ∧ r = (fun u v => u + v) ∧ carry = (fun u v => decide (2 ^ 32 ≤ u + v)) ∨
      i = .subb o ∧ r = (fun u v => u - v) ∧ carry = (fun u v => decide (u < v))) →
    Template s o.ctl (.op o.dst) (plainUsage o.cond (twoTypes o))
      (fun c => { finishLane s o.ctl o.cond o.dst.ty c (.int
          (if o.ctl.sat && (s.draw c drawOrder).getLsbD 0 then clampInt .ud (r (a c) (b c)) else low32 (r (a c) (b c)))) with
        acc := ⟨BitVec.ofNat 64 (carry (a c) (b c)).toNat, true⟩ }) t →
    exec i s = .next { s with eu := t }

/-- `mac`, and `mach` with AccWrCtrl, complete; their result is a free value of the accumulator channel's bits, for every
`Config.accRead` (R148, R149: the value is not given). -/
def Obligations.AccumulatorInstructionsComplete : Prop :=
  ∀ (s : State) (o : TwoSrc) (x y : Nat → Val) (p : Option Fmt), Reads2 s o x y →
    (∀ c, c < o.ctl.exec.channels →
      match p with
      | none => ∃ a b, unify s.eu.floatEnv (s.draw c drawResult) (x c) (y c) = .ok (.ints a b)
      | some q => ∃ a b, unify s.eu.floatEnv (s.draw c drawResult) (x c) (y c) = .ok (.flts q a b)) →
    Gives2 s o (.mac o) (accResult s p) ∧
    (o.ctl.accWr = true → Gives2 s o (.mach o) (accResult s p))

namespace Sys2Proof.Claims

open Sys2Proof.Machine

/-- The dot product of channel `c`'s group of four: one of the orders of summing its terms (R158). -/
def dotResult (s : State) (p : Fmt) (terms : FloatEnv → Fmt → QWord → (Nat → Nat) → (Nat → Nat) → List Nat)
    (a b : Nat → Nat) (c : Nat) : Val :=
  let j := c / 4 * 4
  let free := s.draw j drawResult
  let ts := terms s.eu.floatEnv p free (([0, 1, 2, 3].map fun k => a (j + k)).getD · 0)
    (([0, 1, 2, 3].map fun k => b (j + k)).getD · 0)
  .flt p (chooseFrom (s.draw j drawOrder) (sumOrders s.eu.floatEnv p free ts.length ts))

end Sys2Proof.Claims


/-- `dp4`, `dph`, `dp3` and `dp2` complete: every channel of a group of four gets one of the sums, in some order, of
the rounded products of the group's channels (R158 to R161; which order is a free choice). `line` completes with `p *
x + q`, rounded once or twice, and `pln` with one of the evaluations of `p * x + q * y + r` that R163 admits (R162,
R163; log 18). That a dot product of fewer than four channels reads the group's others (log 52), where the x and y
values of `pln` lie (log 57), and that those of its 64-bit channels 4 to 7 are free (log 53), are the model's choices.
-/
def Obligations.DotLineAndPlaneComplete : Prop :=
  (∀ (s : State) (o : TwoSrc) (p : Fmt) (a b : Nat → Nat),
     FloatMode s.eu (twoTypes o) → Source1 o → o.ctl.access = .align16 →
     execFormat [o.src0.ty, Src.elemType o.src1] = .ok p →
     (∀ c, c < (o.ctl.exec.channels + 3) / 4 * 4 →
       floatSource s (.reg o.src0) p drawSrc0 c = .ok (a c) ∧ floatSource s o.src1 p drawSrc1 c = .ok (b c)) →
     Gives2 s o (.dp4 o) (dotResult s p (products 4) a b) ∧
     Gives2 s o (.dph o) (dotResult s p (fun v q free u w => products 3 v q free u w ++ [flush v q (w 3)]) a b) ∧
     Gives2 s o (.dp3 o) (dotResult s p (products 3) a b) ∧
     Gives2 s o (.dp2 o) (dotResult s p (products 2) a b)) ∧
  ((∀ (s : State) (o : TwoSrc) (f : Fmt) (p q : Nat) (x : Nat → Nat),
     FloatMode s.eu (twoTypes o) → Source1 o → execFormat [o.src0.ty, Src.elemType o.src1] = .ok f →
     rowFloat s o.src0 f 0 = .ok p → rowFloat s o.src0 f 3 = .ok q →
     (∀ c, c < o.ctl.exec.channels → floatSource s o.src1 f drawSrc1 c = .ok (x c)) →
     Gives2 s o (.line o) (fun c => .flt f (chooseFrom (s.draw c drawOrder)
       [fadd s.eu.floatEnv f (s.draw c drawResult) (fmul s.eu.floatEnv f (s.draw c drawResult) p (x c)) q,
        fmaNum s.eu.floatEnv f (s.draw c drawResult) (operandNum s.eu.floatEnv f p) (operandNum s.eu.floatEnv f (x c))
         (operandNum s.eu.floatEnv f q)]))) ∧
   (∀ (s : State) (o : TwoSrc) (e : SrcOp) (f : Fmt) (p q r : Nat) (x y : Nat → Nat),
     FloatMode s.eu (twoTypes o) → o.src1 = .reg e → e.file = .grf → execFormat [o.src0.ty, e.ty] = .ok f →
     rowFloat s o.src0 f 0 = .ok p → rowFloat s o.src0 f 1 = .ok q → rowFloat s o.src0 f 3 = .ok r →
     (∀ c, c < o.ctl.exec.channels →
       planeCoordinate s e f 0 c = .ok (x c) ∧ planeCoordinate s e f 1 c = .ok (y c)) →
     Gives2 s o (.pln o) (fun c => .flt f (chooseFrom (s.draw c drawOrder)
       (planeResults s.eu.floatEnv f (s.draw c drawResult) p q r (x c) (y c))))))

namespace Sys2Proof.Claims

open Sys2Proof.Machine

/-- The `math` functions with one result: constructor, function control (R90), whether on integers, whether source 1 is
read. -/
def mathRows : List ((MathOp → Instr) × BitVec 4 × Bool × Bool) :=
  [(.mathInv, 0x1#4, false, false), (.mathLog, 0x2#4, false, false), (.mathExp, 0x3#4, false, false),
   (.mathSqrt, 0x4#4, false, false), (.mathRsq, 0x5#4, false, false), (.mathSin, 0x6#4, false, false),
   (.mathCos, 0x7#4, false, false), (.mathFdiv, 0x9#4, false, true), (.mathPow, 0xA#4, false, true),
   (.mathIntDivQ, 0xC#4, true, true), (.mathIntDivR, 0xD#4, true, true), (.mathInvm, 0xE#4, false, false),
   (.mathRsqrtm, 0xF#4, false, false)]

/-- The operands of a `math` can be read: source 1 is none of the architecture registers, but for the null register where
the function does not read it (R5, R139); an integer function does not saturate. -/
def MathReads (s : State) (o : MathOp) (ints two : Bool) (x y : Nat → Val) : Prop :=
  FloatMode s.eu (mathTypes o) ∧ (o.src1.file = .grf ∨ two = false ∧ isNull o.src1 = true) ∧
  (ints = true → o.ctl.sat = false) ∧
  ∀ c, c < o.ctl.exec.channels →
    sourceValue s (.reg o.src0) drawSrc0 c = .ok (x c) ∧
    (if two then sourceValue s (.reg o.src1) drawSrc1 c = .ok (y c) else y c = .int 0)

/-- The result of a channel of a `math`: the function's, of source 0's type, converted (R139, R97). -/
def mathResult (s : State) (o : MathOp) (fn : QWord → QWord → QWord) (x y : Nat → Val) (c : Nat) : Lane :=
  finishLane s o.ctl .none o.dst.ty c (valueOf o.src0.ty (fn (accBits (x c)).bits (accBits (y c)).bits))

end Sys2Proof.Claims

/-- Every `math` function with one result completes, with the result `Config.mathFn` gives (R139: `MATH_FUNCS` is
uninterpreted), whatever that function is. INT DIV Quotient and remainder completes with the quotient in the
destination region and the remainder in the registers after it (R139). The distance of the remainder from the
quotient, that the null register has no next one, and that `INVM` and `RSQRTM` have one operand, are the model's
choices (log 19). -/
def Obligations.MathFunctionsComplete : Prop :=
  (∀ mk fc ints two, (mk, fc, ints, two) ∈ mathRows →
     ∀ (s : State) (o : MathOp) (x y : Nat → Val) (t : Thread), MathReads s o ints two x y →
       Template s o.ctl (.op o.dst) (plainUsage .none (mathTypes o))
         (mathResult s o (Config.mathFn fc o.src0.ty.code) x y) t →
       exec (mk o) s = .next { s with eu := t }) ∧
  (∀ (s : State) (o : MathOp) (x y : Nat → Val) (t u : Thread) (off : Nat) (place : Nat → Place),
     MathReads s o true true x y →
     Template s o.ctl (.op o.dst) (plainUsage .none (mathTypes o))
       (mathResult s o (Config.mathFn 0xB#4 o.src0.ty.code) x y) t →
     channelOffset o.ctl (usesDouble (mathTypes o)) = .ok off →
     (∀ c, c < o.ctl.exec.channels → remainderPlace s.eu o c = .ok (place c)) →
     storeLanes (.op o.dst) t (outputs s o.ctl (.op o.dst) (plainUsage .none (mathTypes o)) off place
       (mathResult s o (Config.mathRem 0xB#4 o.src0.ty.code) x y)) = .ok u →
     exec (.mathIntDivQr o) s = .next { s with eu := u })

/-- The instructions that stop on every path, because the spec refuses them: `smov` (R110), `brd` (R120), `brc` (R122),
`sad2` (R156), `sada2` (R157), `madm` (R166), and `math` with a Reserved function control (R90, R1). -/
def Obligations.RefusedInstructionsStop : Prop :=
  (∀ o s, exec (.smov o) s = .refused (.unknownOperation "smov")) ∧
  (∀ o s, exec (.brd o) s = .refused (.unknownOperation "brd")) ∧
  (∀ o s, exec (.brc o) s = .refused (.unknownOperation "brc")) ∧
  (∀ o s, exec (.sad2 o) s = .refused (.unknownOperation "sad2")) ∧
  (∀ o s, exec (.sada2 o) s = .refused (.unknownOperation "sada2")) ∧
  (∀ o s, exec (.madm o) s = .refused (.unknownOperation "madm")) ∧
  (∀ o s, exec (.math o) s = .refused .reservedMathFunction)

/-- A compact instruction completes as the native instruction it expands to (R72, R76, R80), at the compact length:
where a compact `mov`, `add` or `mad` finds its operands, with that result; in general with whatever next state the
native instruction has. Opcode 0 raises the illegal-opcode exception (R100). The source index table is the family's
(log 7), and what a compact immediate takes from the other fields is the model's reading (log 20). -/
def Obligations.CompactRunsItsExpansion : Prop :=
  (∀ (s : State) (o : CompactTwo) (n : OneSrc) (raw : Nat → QWord) (t : Thread),
    o.op = 1#7 → expanded (expandTwo Config.srcIndexTable o) = .ok (.mov n) → FloatMode s.eu (oneTypes n) →
    (∀ c, c < n.ctl.exec.channels → readSource s n.src0 drawSrc0 c = .ok (raw c)) →
    Template s n.ctl (.op n.dst) (plainUsage n.cond (oneTypes n)) (movedLane s n raw) t →
    exec (.compactTwo o) s = .next { s with eu := t }) ∧
  (∀ (s : State) (o : CompactTwo) (n : TwoSrc) (a b : Nat → Int),
    o.op = 0x40#7 → expanded (expandTwo Config.srcIndexTable o) = .ok (.add n) →
    Reads2 s n (fun c => .int (a c)) (fun c => .int (b c)) →
    Gives2 s n (.compactTwo o) (fun c => .int (a c + b c))) ∧
  (∀ (s : State) (o : CompactThree) (n : ThreeSrc) (a b d : Nat → Nat),
    o.op = 0x5B#7 → expanded (expandThree o) = .ok (.mad n) → triFormat n = .ok .f →
    Reads3 s n (fun c => .flt .f (a c)) (fun c => .flt .f (b c)) (fun c => .flt .f (d c)) →
    Gives3 s n true (.compactThree o) (fun c => .flt .f (fmaNum s.eu.floatEnv .f (s.draw c drawResult)
      (operandNum s.eu.floatEnv .f (b c)) (operandNum s.eu.floatEnv .f (d c)) (operandNum s.eu.floatEnv .f (a c))))) ∧
  (∀ (o : CompactTwo) (i : Instr) (s t : State), o.wf = true → o.op ≠ 0#7 →
    expanded (expandTwo Config.srcIndexTable o) = .ok i → exec i s = .next t → exec (.compactTwo o) s = .next t) ∧
  (∀ (o : CompactThree) (i : Instr) (s t : State), o.wf = true →
    expanded (expandThree o) = .ok i → exec i s = .next t → exec (.compactThree o) s = .next t) ∧
  (∀ (o : CompactTwo) (s : State), o.op = 0#7 → s.eu.inRoutine = false →
    EuException.enabled .illegalOpcode s.eu = true →
    exec (.compactTwo o) s = .next { s with eu := s.eu.takeException s.ctx.sip .illegalOpcode })

/-! ## Control transfer -/

namespace Sys2Proof.Claims

open Sys2Proof.Machine

/-- The thread's instruction pointer has a following instruction at `next` (R9), and a branch's channels start at `off`. -/
def BranchAt (s : State) (k : Ctl) (off : Nat) (next : DWord) : Prop :=
  branchOffset k = .ok off ∧ nextIp s.eu.ip 16 = .ok next

/-- `a` is the address `d` bytes from the instruction (R99), where a channel goes there. -/
def Reaches99 (s : State) (goes : Bool) (d : Int) (a next : DWord) : Prop :=
  if goes then branchTarget s.eu.ip d = .ok a else a = next

/-- The predicate of channel `g` of the window fails; with Single Program Flow, it holds for no channel (R121, R99). -/
def ifFails (t : Thread) (k : Ctl) (off g : Nat) : Bool := (t.singleFlow || inWindow k off g) && !branching t k off g

/-- Some live channel waits at `ip + JIP` (R121). -/
def someFail (t : Thread) (k : Ctl) (off : Nat) : Bool := (List.range 32).any fun g => t.live g && ifFails t k off g

/-- Some live channel goes on (R121). -/
def someContinue (t : Thread) (k : Ctl) (off : Nat) : Bool := (List.range 32).any fun g => t.live g && !ifFails t k off g

end Sys2Proof.Claims



/-- `if` completes: the channels of its window whose predicate is false (with Single Program Flow, all live channels or none,
R99) wait at `ip + JIP`, the others continue, and the thread follows them, or jumps when none continues (R121). `else` completes: every live channel goes to `ip + UIP`, and the thread to
the next instruction if a channel waits there, else to `ip + JIP` (R123). -/
def Obligations.IfAndElseDivideTheirChannels : Prop :=
  (∀ (s : State) (o : BranchTwo) (off : Nat) (next other ip : DWord),
     o.ctl.pred ≠ .none → BranchAt s o.ctl off next →
     Reaches99 s (someFail s.eu o.ctl off) o.jip.toInt other next →
     (if someContinue s.eu o.ctl off then ip = next else branchTarget s.eu.ip o.jip.toInt = .ok ip) →
     exec (.ifOp o) s = .next (s.withPointers
       (movedPcip s.eu (ifFails s.eu o.ctl off) other next) ip)) ∧
  (∀ (s : State) (o : BranchTwo) (off : Nat) (next dest ip : DWord),
     channelOffset o.ctl false = .ok off → nextIp s.eu.ip 16 = .ok next →
     Reaches99 s ((List.range 32).any s.eu.live) o.uip.toInt dest next →
     defaultIp s.eu (movedPcip s.eu (fun _ => true) dest next) next o.jip = .ok ip →
     exec (.elseOp o) s = .next (s.withPointers (movedPcip s.eu (fun _ => true) dest next) ip))


/-- `break`, `cont`, forward `goto` and `halt` complete: the channels whose predicate holds go to their target (`break`: the
instruction after the `while` that UIP names), the other live channels to the next instruction, and the thread to the next
instruction if a channel is live there, else to `ip + JIP` (R126, R127, R132, R128, R99). `while` completes: the channels
whose predicate holds go back to `ip + JIP` and the thread with them; if there is none, all live channels go on (R125). -/
def Obligations.BranchesAndLoopsMoveTheirChannels : Prop :=
  (∀ (s : State) (o : BranchTwo) (off : Nat) (next dest ip : DWord) (i : Instr) (d : Int),
     BranchAt s o.ctl off next →
     (i = .breakOp o ∧ d = o.uip.toInt + 16 ∨ i = .cont o ∧ d = o.uip.toInt ∨
       i = .goto o ∧ d = o.uip.toInt ∧ 0 ≤ o.uip.toInt ∧ 0 ≤ o.jip.toInt ∨
       i = .halt o ∧ d = o.uip.toInt ∧ ¬ (o.jip = 0#32 ∧ o.uip = 0#32)) →
     Reaches99 s (anyBranch s.eu o.ctl off) d dest next →
     defaultIp s.eu (movedPcip s.eu (branching s.eu o.ctl off) dest next) next o.jip = .ok ip →
     exec i s = .next (s.withPointers (movedPcip s.eu (branching s.eu o.ctl off) dest next) ip)) ∧
  (∀ (s : State) (o : BranchOne) (v : BitVec 32) (off : Nat) (next back : DWord),
     o.off = .jip v → BranchAt s o.ctl off next →
     Reaches99 s (anyBranch s.eu o.ctl off) v.toInt back next →
     exec (.whileOp o) s = .next (s.withPointers (movedPcip s.eu (branching s.eu o.ctl off) back next) back))

/-- `jmpi` completes: the whole thread jumps from the incremented instruction pointer by the immediate, or by a `:d` register,
if its scalar predicate holds, else it goes on (R119); source 1 names no architecture register (R5, R589). The scalar predicate
is the bit of the first channel of the instruction's window (log 52). -/
def Obligations.JmpiJumpsTheThread : Prop :=
  ∀ (s : State) (o : BranchOne) (off : Nat) (next a : DWord) (d : Int),
    o.ctl.exec = .s1 → BranchOne.namesArch o = false → BranchAt s o.ctl off next →
    (o.off = .jip (BitVec.ofInt 32 d) ∧ d = (BitVec.ofInt 32 d).toInt ∨
      ∃ r, o.off = .reg r ∧ r.ty = .d ∧ sourceValue s (.reg r) drawSrc1 0 = .ok (.int d)) →
    (if predicateMask s.eu o.ctl off then branchTarget next d = .ok a else a = next) →
    exec (.jmpi o) s = .next { s with eu := s.eu.goto a }


namespace Sys2Proof.Claims

open Sys2Proof.Machine

/-- A call can be made (R129, R130): an immediate offset, a following instruction, and a destination pair at byte `p` of the
general registers. -/
def CallAt (s : State) (o : BranchOne) (v : BitVec 32) (off p : Nat) (next : DWord) : Prop :=
  o.off = .jip v ∧ BranchAt s o.ctl off next ∧
  dstPlace s.eu (.op { o.dst with ty := .ud }) 0 = .ok (.grf p) ∧ p + 8 ≤ grfBytes

/-- The state with the return address and the mask of the calling channels in the destination pair (R130). -/
def linked (s : State) (o : BranchOne) (off p : Nat) (next : DWord) : State :=
  { s with eu := { s.eu with
      grf := grfWrite (grfWrite s.eu.grf p next.toNat 4) (p + 4) (branchMask s.eu o.ctl off).toNat 4 } }

/-- Every channel of the thread's that is live goes on to the next instruction, and the thread with them. -/
def allGoOn (s s1 : State) (next : DWord) : State := s1.withPointers (movedPcip s.eu (fun _ => false) next next) next

end Sys2Proof.Claims

/-- `call` and `calla` complete: the destination's two DWords take the return address and the mask of the calling channels.
Where a channel calls, the calling channels go to the target and the thread with them, the other live channels wait at the
next instruction; where none does, all go on. The target of `call` is `ip + JIP`, that of `calla` the offset from the
Instruction Base Address (R129, R130). `ret` completes: all live channels return together to the address in source 0, and the
thread with them unless a channel waits at the next instruction; or the channels go on together where the predicate holds for
none (R131). -/
def Obligations.CallsSaveAndReturnsRestore : Prop :=
  (∀ (s : State) (o : BranchOne) (v : BitVec 32) (off p : Nat) (next dest : DWord), CallAt s o v off p next →
     anyBranch s.eu o.ctl off = true → branchTarget s.eu.ip v.toInt = .ok dest →
     exec (.call o) s = .next
       ((linked s o off p next).withPointers (movedPcip s.eu (branching s.eu o.ctl off) dest next) dest)) ∧
  (∀ (s : State) (o : BranchOne) (v : BitVec 32) (off p : Nat) (next : DWord), CallAt s o v off p next →
     anyBranch s.eu o.ctl off = false →
     exec (.call o) s = .next (allGoOn s (linked s o off p next) next)) ∧
  (∀ (s : State) (o : BranchOne) (v : BitVec 32) (off p : Nat) (next dest : DWord), CallAt s o v off p next →
     anyBranch s.eu o.ctl off = true → branchTarget 0#32 v.toInt = .ok dest →
     exec (.calla o) s = .next
       ((linked s o off p next).withPointers (movedPcip s.eu (branching s.eu o.ctl off) dest next) dest)) ∧
  (∀ (s : State) (o : BranchOne) (v : BitVec 32) (off p : Nat) (next : DWord), CallAt s o v off p next →
     anyBranch s.eu o.ctl off = false →
     exec (.calla o) s = .next (allGoOn s (linked s o off p next) next)) ∧
  (∀ (s : State) (o : BranchOne) (off : Nat) (next dest : DWord) (raw : QWord), BranchAt s o.ctl off next →
     readSrc s { o.src0 with ty := .ud } drawSrc0 0 = .ok raw → branchTarget 0#32 (raw.toNat : Int) = .ok dest →
     (∀ g, g < 32 → s.eu.live g = true → branching s.eu o.ctl off g = true) →
     exec (.ret o) s = .next (s.withPointers (movedPcip s.eu (fun _ => true) dest next)
       (if anyAt s.eu (movedPcip s.eu (fun _ => true) dest next) next then next else dest))) ∧
  (∀ (s : State) (o : BranchOne) (off : Nat) (next : DWord) (raw : QWord), BranchAt s o.ctl off next →
     readSrc s { o.src0 with ty := .ud } drawSrc0 0 = .ok raw → anyBranch s.eu o.ctl off = false →
     (∃ g, g < 32 ∧ s.eu.live g = true) →
     exec (.ret o) s = .next (allGoOn s s next))

/-- `wait` completes when its notification count is not zero: the count goes down by one; at zero the thread waits for
it and stays where it is (R134). That the source alone names the count, the destination being ignored (log 57), and
that n0 has four counts (log 3), are the model's choices. -/
def Obligations.WaitCountsNotifications : Prop :=
  ∀ (s : State) (o : OneSrc) (k : Fin 4), o.ctl.exec = .s1 → o.ctl.pred = .none → waitIndex o = .ok k →
    o.ctl.nib = false →
    (s.eu.n0.get k ≠ 0#32 → s.eu.ip.toNat + Ctl.bytes o.ctl < 2 ^ 32 →
      exec (.wait o) s = .next { s with eu :=
        { s.eu.goto (BitVec.ofNat 32 (s.eu.ip.toNat + Ctl.bytes o.ctl)) with
          n0 := s.eu.n0.set k.val (s.eu.n0.get k - 1#32) k.isLt } }) ∧
    (s.eu.n0.get k = 0#32 → exec (.wait o) s = .next { s with eu := { s.eu with run := .waiting k } })

/-- `endif`, `join`, and a `halt` with zero offsets complete: every live channel advances, and the thread with them
(R124, R133, R128). Where no channel is live at the next instruction, `endif` jumps to `ip + JIP`; `join` does where
none is live at the `join` itself, also when one already waits at the next instruction (R133, with "live" as R99
defines it). A `halt` with zero offsets goes on to the next instruction even where no channel is live there: the
model's choice (log 35). `nop` completes: the thread and its live channels advance by 16 bytes, and nothing else
changes (R88, R167). -/
def Obligations.NopAndReconvergencePointsAdvance : Prop :=
  ((∀ (s : State) (o : BranchOne) (v : BitVec 32) (off : Nat) (next ip : DWord),
     o.off = .jip v → channelOffset o.ctl false = .ok off → nextIp s.eu.ip 16 = .ok next →
     (defaultIp s.eu (movedPcip s.eu (fun _ => false) next next) next v = .ok ip →
       exec (.endif o) s = .next (s.withPointers (movedPcip s.eu (fun _ => false) next next) ip)) ∧
     ((if (List.range 32).any s.eu.live then ip = next else branchTarget s.eu.ip v.toInt = .ok ip) →
       exec (.join o) s = .next (s.withPointers (movedPcip s.eu (fun _ => false) next next) ip))) ∧
   (∀ (s : State) (o : BranchTwo) (off : Nat) (next : DWord), o.jip = 0#32 → o.uip = 0#32 →
     channelOffset o.ctl false = .ok off → nextIp s.eu.ip 16 = .ok next →
     exec (.halt o) s = .next (s.withPointers (movedPcip s.eu (fun _ => false) next next) next))) ∧
  (∀ (s : State) (debug : Bool), s.eu.ip.toNat + 16 < 2 ^ 32 →
     exec (.nop debug) s = .next { s with eu := s.eu.goto (s.eu.ip + 16#32) })

/-- `illegal` completes by its own effect, the illegal-opcode exception, where that is enabled and the thread is outside the
system routine; else it stops (R100, R544, R545). -/
def Obligations.IllegalTakesItsException : Prop :=
  ∀ s : State,
    (s.eu.inRoutine = false → EuException.enabled .illegalOpcode s.eu = true →
      exec .illegal s = .next { s with eu := s.eu.takeException s.ctx.sip .illegalOpcode }) ∧
    (s.eu.inRoutine = true ∨ EuException.enabled .illegalOpcode s.eu = false →
      exec .illegal s = .refused .illegalOpcode)

/-! ## EU exceptions -/

/-- Trap entry (R544): the status bit in `cr0.1` is set; outside the system routine `cr0.2` takes the instruction pointer,
`cr0.0[31]` is set and the thread goes to the System IP; inside it nothing else changes; nothing but `cr0` and `ip` ever
changes. -/
def Obligations.TrapEntrySavesAndJumps : Prop :=
  ∀ (t : Thread) (sip : DWord) (e : EuException) (r : Nat) (b : Nat), b < 32 →
    let u := t.takeException sip e
    u = { t with cr0 := u.cr0, ip := u.ip } ∧
    ((u.cr0.getD 1 0#32).getLsbD b = (decide (b = e.status) || (t.cr0.getD 1 0#32).getLsbD b)) ∧
    (t.inRoutine = false →
      u.ip = sip ∧ u.cr0.getD 2 0#32 = t.ip ∧ u.inRoutine = true ∧
      (b ≠ 31 → (u.cr0.getD 0 0#32).getLsbD b = (t.cr0.getD 0 0#32).getLsbD b)) ∧
    (t.inRoutine = true → u.ip = t.ip ∧ (r ≠ 1 → u.cr0.getD r 0#32 = t.cr0.getD r 0#32))

/-- A breakpoint is taken before the instruction (R52, R544, R545): a word with DebugCtrl, met outside the system routine and
not suppressed, has no effect but the trap entry, and time passes. -/
def Obligations.BreakpointTrapsBeforeTheInstruction : Prop :=
  ∀ (s u : State) (w : BitVec 128), ThreadActs s u → u.fetch = .ok w → debugBit w = true → u.eu.suppressed = false →
    u.eu.inRoutine = false →
    Machine.step s = .next (State.tick { u with eu := u.eu.takeException s.ctx.sip .breakpoint })

/-- Trap return (R545): the instruction that writes 0 to `cr0.0[31]` goes back to the address in `cr0.2`; with a
status bit still set the routine is entered again. Which status bits count as pending then, and that `cr0.2` is kept,
are the model's choices (log 37). -/
def Obligations.TrapReturnRestoresTheAddress : Prop :=
  ∀ (before t : Thread) (sip : DWord), before.inRoutine = true → t.inRoutine = false →
    (t.pendingException = false → before.afterControlWrite t sip = { t with ip := t.cr0.getD 2 0#32 }) ∧
    (t.pendingException = true →
      (before.afterControlWrite t sip).ip = sip ∧ (before.afterControlWrite t sip).inRoutine = true ∧
      (before.afterControlWrite t sip).cr0.getD 2 0#32 = t.cr0.getD 2 0#32 ∧
      (before.afterControlWrite t sip).cr0.getD 1 0#32 = t.cr0.getD 1 0#32)

/-! ## Messages -/

namespace Sys2Proof.Claims

open Sys2Proof.Machine

/-- R135 to R138: the send `f` issues the message `m`, whose response goes to register `base` on. It does not wait for a
dependency; its channel controls are legal and, if it is predicated, a channel is enabled; its descriptor is legal; its
payload and the response's registers exist; there is a next instruction. -/
structure Issues (f : SendForm) (s : State) (m : Msg) (base : Option Nat) : Prop where
  ready : sendWaits f = false ∨ s.eu.hasDependency = false
  channels : ∃ off, channelOffset (sendCtl f) false = .ok off ∧
    checkFlags (sendCtl f) false off (sendCtl f).exec.channels = .ok () ∧ m.slots = slotMask s.eu (sendCtl f) off
  some : (sendCtl f).pred = .none ∨ m.slots ≠ 0#32
  sfid : m.sfid = f.sfid
  desc : m.desc = descriptor s.eu f.desc
  ex : m.ex = sendEx s.eu f
  eot : m.eot = sendEot f
  width : m.channels = (sendCtl f).exec.channels
  legal : 1 ≤ m.bits 25 4 ∧ m.responseLength ≤ 16 ∧ m.desc.getLsbD 29 = false
  payload : sendPayload f s.eu (m.bits 25 4) = .ok m.payload
  place : responseBase f s.eu m.responseLength = .ok base
  fits : responseFits base m.responseLength = .ok ()
  next : s.eu.ip.toNat + Ctl.bytes (sendCtl f) < 2 ^ 32

/-- The state after a send whose shared function left `s1` and answered `data` (R135): the thread advances, the response is
pending, and with EOT the thread ends. -/
def sent (f : SendForm) (m : Msg) (base : Option Nat) (s1 : State) (data : Answer) : State :=
  let s2 := { s1 with eu := s1.eu.goto (BitVec.ofNat 32 (s1.eu.ip.toNat + Ctl.bytes (sendCtl f))) }
  let s3 :=
    match base, m.responseLength with
    | some r, n + 1 => { s2 with pending := s2.pending ++ [⟨s2.eu.tid, r, responseRegs s2 (n + 1) data, 0#4096⟩] }
    | _, _ => s2
  if m.eot then s3.endThread else s3

/-- The send opcodes' own constructors. -/
def opcodeOf (f : SendForm) : Instr := f.opcodeRow

end Sys2Proof.Claims

/-- Sends to the shared functions whose processing is not in the sources, and to Null, complete with a response that
is open, memory unchanged (R93, R201; results `Config.sharedFn`, for every such function); a sampling engine message
whose surface and sampler states are legal likewise, with zeros in the slots of a disabled sampler, of a null surface,
or of a LOD past the surface's levels (R23, R438, R448); a video motion estimation message whose media surface, if it
names one, is legal (R431). A memory fence completes with its response; memory is unchanged, memory effects being done
when a message is sent, and the thread's non-coherent stores race no more (R185, R27; log 6). That these functions
leave memory unchanged is the model's choice (log 41). -/
def Obligations.OpenSharedFunctionsComplete : Prop :=
  ∀ (f : SendForm) (s : State) (m : Msg) (base : Option Nat), Issues f s m base →
    exec (.sfidNull f) s = .next (sent f m base s []) ∧
    exec (.mt0Memfence f) s = .next (sent f m base s.fence []) ∧ s.fence.mem = s.mem ∧
    (∀ zero : ZeroSlots, samplerZeros m s = .ok zero →
      exec (.sfidSampler f) s = .next (sent f m base s (wholeRegs ((List.range m.responseLength).map (samplerRegister m s zero))))) ∧
    (∀ mk, mk ∈ [Instr.sfidPixelInterp, .sfidCre] ∨ mk = Instr.sfidVme ∧
        (0xF0 ≤ m.bits 0 8 ∧ m.bits 0 8 ≠ 0xFC ∨
          ∃ a u, surfaceStateAddress s m = .ok a ∧ readMediaSurface s a .motion = .ok u) →
      exec (mk f) s = .next (sent f m base s (wholeRegs ((List.range m.responseLength).map fun i =>
        Config.sharedFn m.sfid.code (m.desc.setWidth 32) m.ex m.payload s.draws i))))


/-- `send`, `sendc`, `sends` and `sendsc` complete as the message that their descriptor selects (R135 to R138, R93):
with no message (Null) only the thread advances, with a fence its stores become visible too, else with what the shared
function answers. One that must wait for a dependency (`sendc`, `sendsc`) leaves the machine as it is; a predicated
one with no channel enabled sends nothing and advances (R136, R138, R47). That a predicated-off send with EOT only
advances, and that a response is cut or filled to its length, are the model's choices (log 32). -/
def Obligations.SendOpcodesReachTheirFunction : Prop :=
  (∀ (f : SendForm) (s : State) (m : Msg) (base : Option Nat), Issues f s m base →
     (f.sfid = .null → exec (opcodeOf f) s = .next (sent f m base s [])) ∧
     (f.sfid = .dp0 → m.bits 18 1 = 0 → m.bits 14 4 = 7 → exec (opcodeOf f) s = .next (sent f m base s.fence [])) ∧
     (∀ s1 data, sharedFunction m s = .ok (s1, data) → s1.eu.ip = s.eu.ip →
       exec (opcodeOf f) s = .next (sent f m base s1 data))) ∧
  ((∀ (f : SendForm) (s : State), sendWaits f = true → s.eu.hasDependency = true →
     exec (opcodeOf f) s = .next s) ∧
   (∀ (f : SendForm) (s : State) (off : Nat), (sendWaits f = false ∨ s.eu.hasDependency = false) →
     channelOffset (sendCtl f) false = .ok off → checkFlags (sendCtl f) false off (sendCtl f).exec.channels = .ok () →
     (sendCtl f).pred ≠ .none → (∀ i, i < (sendCtl f).exec.channels → writeEnable s.eu (sendCtl f) (off + i) = false) →
     s.eu.ip.toNat + Ctl.bytes (sendCtl f) < 2 ^ 32 →
     exec (opcodeOf f) s =
       .next { s with eu := s.eu.goto (BitVec.ofNat 32 (s.eu.ip.toNat + Ctl.bytes (sendCtl f))) }))

/-- A message to the gateway completes; a barrier message is an arrival: the count goes up, and the arrival that fills
it notifies every thread of the group and sets it to 0 (R15, R134; which messages are arrivals is open). That the
notified count is n0.0 is the model's choice (log 25). -/
def Obligations.GatewayBarrierCountsArrivals : Prop :=
  ∀ (f : SendForm) (s : State) (m : Msg) (base : Option Nat), Issues f s m base →
    (Config.gatewayIsBarrier (m.desc.setWidth 32) = false →
      exec (.sfidGateway f) s = .next (sent f m base s [])) ∧
    (∀ g, Config.gatewayIsBarrier (m.desc.setWidth 32) = true → s.ownGroup = some g → g.barrier = true →
      (g.count + 1 < g.expected →
        exec (.sfidGateway f) s = .next (sent f m base
          { s with groups := s.groups.map fun h => if h.id == g.id then { h with count := h.count + 1 } else h } [])) ∧
      (g.expected ≤ g.count + 1 →
        exec (.sfidGateway f) s = .next (sent f m base
          { s with
            groups := s.groups.map fun h => if h.id == g.id then { h with count := 0 } else h
            eu := s.eu.notifyGroup s.eu.group
            parked := s.parked.map (Thread.notifyGroup · s.eu.group) } [])))

/-- A URB message completes: it writes its registers, or answers with those at the addresses that its descriptor and first
register select, one for each half of a register, in the 128-bit units of R16 (the addresses are open, log 42). -/
def Obligations.UrbMessagesWriteOrReadRows : Prop :=
  ∀ (f : SendForm) (s : State) (m : Msg) (base : Option Nat), Issues f s m base →
    (Config.urbIsWrite (m.desc.setWidth 32) = true →
      exec (.sfidUrb f) s = .next (sent f m base { s with urb := urbWrite m s.urb 0 (m.payload.drop 1) } [])) ∧
    (Config.urbIsWrite (m.desc.setWidth 32) = false →
      exec (.sfidUrb f) s = .next (sent f m base s (wholeRegs ((List.range m.responseLength).map fun i =>
        urbReadHalf m s i 1 ++ urbReadHalf m s i 0))) ∧
      ∀ i h a, urbRow m i h = some a →
        urbReadHalf m s i h = BitVec.ofNat 128 (Store.readLE Config.urbFill s.urb a 16) ∧ a + 16 ≤ Config.urbSize)

namespace Sys2Proof.Claims

open Sys2Proof.Machine

/-- The reserved fields of a thread spawner message are zero, and it has no header (R220, R221). -/
def SpawnerLegal (m : Msg) : Prop :=
  m.hasHeader = false ∧ m.bits 29 2 = 0 ∧ m.bits 5 14 = 0 ∧ m.bits 2 2 = 0

/-- A Dereference Resource message's lengths (R220, R221): one register, no response. -/
def DereferenceLegal (m : Msg) : Prop := SpawnerLegal m ∧ m.bits 25 4 = 1 ∧ m.responseLength = 0

/-- The state after a Dereference Resource (R221): the URB handle stays if the requester is a child thread or Resource Select
says so. -/
def dereferenced (s : State) (m : Msg) : State :=
  { s with eu := { s.eu with urbHandle := s.eu.urbHandle && (m.desc.getLsbD 1 || m.desc.getLsbD 4) } }

/-- The state after a Spawn Thread (R221): the thread spawner has the request. -/
def spawned (s : State) (m : Msg) : State :=
  { s with media := { s.media with
      spawns := s.media.spawns ++ [{ root := m.desc.getLsbD 4, payload := m.payload }] } }

end Sys2Proof.Claims

/-- Thread spawner messages complete (R220, R221): Dereference Resource, with whose EOT the thread ends and which
gives up the thread's URB handle or keeps it, and Spawn Thread, which cannot end its thread and leaves its request
with the thread spawner; neither changes memory. That a spawn request is kept in `media.spawns`, and what becomes of
the URB handle, are the model's choices (log 26). -/
def Obligations.ThreadSpawnerMessagesComplete : Prop :=
  ∀ (f : SendForm) (s : State) (m : Msg) (base : Option Nat), Issues f s m base →
    (DereferenceLegal m → exec (.tsDereference f) s = .next (sent f m base (dereferenced s m) [])) ∧
    (SpawnerLegal m → m.eot = false → exec (.tsSpawn f) s = .next (sent f m base (spawned s m) [])) ∧
    (DereferenceLegal m → m.desc.getLsbD 0 = false →
      exec (.sfidSpawner f) s = .next (sent f m base (dereferenced s m) [])) ∧
    (SpawnerLegal m → m.eot = false → m.desc.getLsbD 0 = true →
      exec (.sfidSpawner f) s = .next (sent f m base (spawned s m) []))

/-- A message with EOT ends its thread: the thread runs no more, nothing is delivered to it, its dependents go on, and its
group is gone with the group's last thread, none of the group's being resident or still to be dispatched (R13, R135, R494,
R14). -/
def Obligations.EndOfThreadEndsTheThread : Prop :=
  ∀ (f : SendForm) (s : State) (m : Msg) (base : Option Nat), Issues f s m base → m.eot = true → DereferenceLegal m →
    ∃ t, exec (.tsDereference f) s = .next t ∧ t.eu.run = .ended ∧ t.mem = s.mem ∧ t.urb = s.urb ∧
      (∀ r ∈ t.pending, r.tid ≠ s.eu.tid) ∧ (∀ e ∈ t.media.live, e.2.2 ≠ s.eu.tid) ∧
      (∀ g ∈ t.groups, g ∈ s.groups) ∧
      ((∀ u ∈ s.parked, u.group ≠ s.eu.group) → (∀ h ∈ s.media.waiting, h.group ≠ s.eu.group) →
        ∀ g ∈ t.groups, some g.id ≠ s.eu.group)



namespace Sys2Proof.Claims

open Sys2Proof.Machine

/-- The elements `(storage, offset, bytes, value)` are stored one after another, from `s` to `s1` (R23: one outside its
storage is dropped). -/
def Stores (s : State) : List (Space × Nat × Nat × Nat) → State → Prop
  | [], s1 => s1 = s
  | (sp, off, n, v) :: rest, s1 => ∃ t, Space.write s sp off n v = .ok t ∧ Stores t rest s1

end Sys2Proof.Claims

namespace Sys2Proof.Claims

open Sys2Proof.Machine

/-- The OWord block reads: constructor, what its index may name (R215, R176), the unit of its Global Offset, and what its
offset in bytes is a multiple of (R185, R205, R230). -/
def blockReads : List ((SendForm → Instr) × Index × Nat × Nat) :=
  [(.mt0rB, .shared, 16, 1), (.mt0rAb, .shared, 1, 4), (.mtCcOwb, .stateless, 16, 1), (.mtCcOwub, .stateless, 1, 4),
   (.mtScOwub, .stateless, 1, 4)]

end Sys2Proof.Claims

namespace Sys2Proof.Claims

open Sys2Proof.Machine

/-- The storage of slot `i`'s block of a dual block message: none if any of its bytes lies outside (R23). -/
def dualBlock (m : Msg) (sp : Space) (n i : Nat) : Space :=
  sp.block (16 * (m.globalOffset + (m.dw .s4x2 0 0 i).toNat)) (16 * n)

end Sys2Proof.Claims

/-- OWord block reads complete with the block's OWords, from the Global Offset in OWords, or in bytes (a multiple of
4) for the unaligned forms; the OWord block write completes, OWord `j` of the payload stored 16 * j bytes past the
Global Offset, in OWords (R185, R205, R203, R230, R276). Dual block messages complete: slot 0's OWords are in the low
half of each register and slot 1's in the high half, from the Global Offset plus each slot's offset, in OWords (R185,
R205, R204, R277, R280, R303). The positions of the control fields in the descriptor are the family's (log 23). -/
def Obligations.OWordBlockMessagesComplete : Prop :=
  ((∀ mk x unit align, (mk, x, unit, align) ∈ blockReads →
      ∀ (f : SendForm) (s : State) (m : Msg) (base : Option Nat) (n half : Nat) (sp : Space) (v : Nat → Nat),
      Issues f s m base → m.bits 13 1 = 0 → owordCount (m.bits 8 3) = .ok (n, half) →
      blockSpace s m x = .ok sp → m.globalOffset * unit % align = 0 →
      (∀ j, j < n → Space.read s (sp.block (m.globalOffset * unit) (16 * n)) (m.globalOffset * unit + 16 * j) 16 =
        .ok (v j)) →
      exec (mk f) s = .next (sent f m base s
        (responseFrom s ((n + half + 1) / 2) (blockPieces 0 half 0 ((List.range n).map v))))) ∧
   (∀ (f : SendForm) (s s1 : State) (m : Msg) (base : Option Nat) (n half : Nat) (sp : Space),
      Issues f s m base → owordCount (m.bits 8 3) = .ok (n, half) → blockSpace s m .shared = .ok sp →
      (n + half + 1) / 2 ≤ m.body.length →
      Stores s ((List.range n).map fun j =>
        (sp.block (m.globalOffset * 16) (16 * n), m.globalOffset * 16 + 16 * j, 16, (oword (m.reg ((half + j) / 2)) ((half + j) % 2)).toNat)) s1 →
      exec (.mt0wB f) s = .next (sent f m base s1 []))) ∧
  (∀ (f : SendForm) (s : State) (m : Msg) (base : Option Nat) (n : Nat) (sp : Space),
     Issues f s m base → dualCount (m.bits 8 2) = .ok n →
     (∀ mk x, (mk, x) ∈ [(Instr.mt0rOwdb, Index.shared), (.mtCcOwdb, .stateless)] → ∀ v : Nat → Nat → Nat,
       blockSpace s m x = .ok sp → 1 ≤ m.body.length → m.bits 13 1 = 0 →
       (∀ i ∈ plainActive m .s4x2, ∀ e, e < n →
         Space.read s (dualBlock m sp n i) (16 * (m.globalOffset + (m.dw .s4x2 0 0 i).toNat) + 16 * e) 16 = .ok (v i e)) →
       exec (mk f) s = .next (sent f m base s (responseFrom s n ((plainActive m .s4x2).flatMap fun i =>
         (List.range n).map fun e => (e, (128 * i, 128, v i e)))))) ∧
     (∀ s1, blockSpace s m .shared = .ok sp → 1 + n ≤ m.body.length →
       Stores s ((slotSequence s (16 * n) (plainActive m .s4x2) ((plainActive m .s4x2).map fun i =>
           16 * (m.globalOffset + (m.dw .s4x2 0 0 i).toNat))).flatMap fun i => (List.range n).map fun e =>
         (dualBlock m sp n i, 16 * (m.globalOffset + (m.dw .s4x2 0 0 i).toNat) + 16 * e, 16, (oword (m.reg (1 + e)) i).toNat)) s1 →
       exec (.mt0wOwdb f) s = .next (sent f m base s1 [])))

namespace Sys2Proof.Claims

open Sys2Proof.Machine

/-- The response of a scattered read: each active slot's element in the slot's DWord (R266, R268). -/
def scatteredAnswer (s : State) (mode : Simd) (n : Nat) (active : List Nat) (v : Nat → Nat) : Answer :=
  responseFrom s mode.regs (active.map fun i =>
    ((dwordPlace mode 0 0 i).1, (32 * (dwordPlace mode 0 0 i).2, 8 * n, v i)))

/-- The elements a scattered write stores, in the order of its slots (D12 where they overlap). -/
def scatteredStores (s : State) (m : Msg) (mode : Simd) (n k : Nat) (active : List Nat) (addr : Nat → Nat)
    (sp : Space) : List (Space × Nat × Nat × Nat) :=
  (slotSequence s n active (active.map addr)).map fun i => (sp, addr i, n, (m.dw mode k 0 i).toNat)

end Sys2Proof.Claims

namespace Sys2Proof.Claims

open Sys2Proof.Machine

/-- The response of a read of DWord channels (R183): channel `c` of slot `i`, the `j`-th channel of the mask, is in the slot's
DWord of the `j`-th part. -/
def channelAnswer (s : State) (mode : Simd) (mask : Nat) (active : List Nat) (v : Nat → Nat → Nat) : Answer :=
  responseFrom s (channelRegs mode (maskChannels mask).length) (active.flatMap fun i => (maskChannels mask).map fun jc =>
    ((dwordPlace mode (channelReg mode 0 jc.1) jc.2 i).1,
      (32 * (dwordPlace mode (channelReg mode 0 jc.1) jc.2 i).2, 32, v i jc.2)))

/-- The elements a write of DWord channels stores: channel `c` of slot `i`, 4 * c bytes past the slot's address. -/
def channelStores (s : State) (m : Msg) (mode : Simd) (mask k : Nat) (active : List Nat) (addr : Nat → Nat)
    (loc : Locator) : List (Space × Nat × Nat × Nat) :=
  (slotSequence s 16 active (active.map addr)).flatMap fun i => (maskChannels mask).map fun jc =>
    ((loc i (4 * jc.2) 4).1, (loc i (4 * jc.2) 4).2, 4, (m.dw mode (channelReg mode k jc.1) jc.2 i).toNat)

/-- The elements at a locator can be read: channel `c` of slot `i` is `v i c`. -/
def ReadsAt (s : State) (mask : Nat) (active : List Nat) (loc : Locator) (v : Nat → Nat → Nat) : Prop :=
  ∀ i ∈ active, ∀ jc ∈ maskChannels mask, readAt s loc i (4 * jc.2) 4 = .ok (v i jc.2)

/-- The masks an untyped write lists (R222). -/
def WriteMask (mask : Nat) : Prop := mask = 0 ∨ mask = 8 ∨ mask = 12 ∨ mask = 14

/-- How the untyped messages find their elements: the storage and each slot's byte offset. `A32` through the binding table
(R22, R300, R446), the scaled form of data port 2 (R259), and the 64-bit address of a slot (R20). -/
inductive UntypedForm (s : State) (m : Msg) (mode : Simd) : (SendForm → Instr) → (SendForm → Instr) → List Nat →
    (Nat → Nat) → Locator → Nat → Prop
  | a32 (sp : Space) (u : Option Surface) : untypedSpace s m = .ok (sp, u) →
      untypedAddressRegs mode u ≤ m.body.length →
      UntypedForm s m mode .mt1rUs .mt1wUs (untypedActive m mode) (untypedOffset m mode u)
        (offsetLocator sp (untypedOffset m mode u)) (untypedAddressRegs mode u)
  | scaled (sp : Space) (addr : Nat → Nat) : scaledA32 s m mode 4 = .ok (sp, addr) → mode.regs ≤ m.body.length →
      UntypedForm s m mode .mt2rUs .mt2wUs (untypedActive m mode) addr (offsetLocator sp addr) mode.regs
  | a64 (nc : Bool) : a64Index m = .ok nc → mode.qregs ≤ m.body.length →
      UntypedForm s m mode .mt1rA64Us .mt1wA64Us (plainActive m mode) (fun i => (m.qw mode 0 i).toNat)
        (a64Locator nc fun i => (m.qw mode 0 i).toNat) mode.qregs
  | scaledA64 (addr : Nat → Nat) (k : Nat) : scaledA64 m mode 4 = .ok (addr, k) → k ≤ m.body.length →
      UntypedForm s m mode .mt2rA64Us .mt2wA64Us (plainActive m mode) addr (a64Locator false addr) k

end Sys2Proof.Claims


/-- Untyped surface reads complete with the DWords of the mask's channels of every active slot, from DWord-aligned
addresses, and the writes store them there, 4 bytes apart, in the four ways the data ports address them (R183, R222,
R186, R187, R209, R25). The positions of the control fields in the descriptor are the family's (log 23). -/
def Obligations.UntypedMessagesComplete : Prop :=
  (∀ (f : SendForm) (s : State) (m : Msg) (base : Option Nat) (mode : Simd) (rd wr : SendForm → Instr) (active : List Nat)
     (addr : Nat → Nat) (loc : Locator) (k : Nat) (v : Nat → Nat → Nat),
     Issues f s m base → simd3 (m.bits 12 2) = .ok mode → UntypedForm s m mode rd wr active addr loc k →
     (∀ i ∈ active, addr i % 4 = 0) → m.bits 8 4 ≠ 15 → ReadsAt s (m.bits 8 4) active loc v →
     exec (rd f) s = .next (sent f m base s (channelAnswer s mode (m.bits 8 4) active v))) ∧
  (∀ (f : SendForm) (s s1 : State) (m : Msg) (base : Option Nat) (mode : Simd) (rd wr : SendForm → Instr)
     (active : List Nat) (addr : Nat → Nat) (loc : Locator) (k : Nat),
     Issues f s m base → simd3 (m.bits 12 2) = .ok mode → UntypedForm s m mode rd wr active addr loc k →
     (∀ i ∈ active, addr i % 4 = 0) → WriteMask (m.bits 8 4) →
     k + channelRegs mode (maskChannels (m.bits 8 4)).length ≤ m.body.length →
     Stores s (channelStores s m mode (m.bits 8 4) k active addr loc) s1 →
     exec (wr f) s = .next (sent f m base s1 []))

namespace Sys2Proof.Claims

open Sys2Proof.Machine

/-- R170: the element counts a scattered A64 message lists. -/
def ElementsLegal (z : ElementSize) (mode : Simd) (n : Nat) : Prop := (z = .byte → n ≤ 4) ∧ n * mode.slots * z.bytes ≤ 256

/-- The addresses of an A64 scattered message, and whether they are non-coherent (R22): its own 64-bit ones, or the scaled
ones of data port 2 (R170, R259). -/
inductive ElementForm (m : Msg) (z : ElementSize) :
    (SendForm → Instr) → (SendForm → Instr) → Bool → (Nat → Nat) → Nat → Prop
  | a64 (nc : Bool) : a64Index m = .ok nc → (simd2 (m.bits 12 1)).qregs ≤ m.body.length →
      ElementForm m z .mt1rA64Sb .mt1wA64Sb nc (fun i => (m.qw (simd2 (m.bits 12 1)) 0 i).toNat)
        (simd2 (m.bits 12 1)).qregs
  | scaled (addr : Nat → Nat) (k : Nat) : scaledA64 m (simd2 (m.bits 12 1)) z.bytes = .ok (addr, k) →
      k ≤ m.body.length → ElementForm m z .mt2rA64Sb .mt2wA64Sb false addr k

end Sys2Proof.Claims

/-- DWord and byte scattered reads complete with each slot's element, from the Global Offset plus the slot's offset,
in DWords or bytes, the scaled byte read of data port 2 from its own addresses; the writes store each slot's element
there (R185, R205, R190, R315, R317, R187, R259). A64 scattered messages complete: each active slot reads or stores
its consecutive elements (R170, R316, R318, R186, R187). The positions of the control fields in the descriptor are the
family's (log 23). -/
def Obligations.ScatteredMessagesComplete : Prop :=
  ((∀ (f : SendForm) (s : State) (m : Msg) (base : Option Nat) (v : Nat → Nat) (sp : Space), Issues f s m base →
      (∀ mk x, (mk, x) ∈ [(Instr.mt0rDws, Index.shared), (.mtCcDws, .stateless)] →
        blockSpace s m x = .ok sp → (simd2 (m.bits 8 1)).regs ≤ m.body.length →
        (∀ i ∈ plainActive m (simd2 (m.bits 8 1)),
          Space.read s sp (4 * (m.globalOffset + (m.dw (simd2 (m.bits 8 1)) 0 0 i).toNat)) 4 = .ok (v i)) →
        exec (mk f) s = .next (sent f m base s
          (scatteredAnswer s (simd2 (m.bits 8 1)) 4 (plainActive m (simd2 (m.bits 8 1))) v))) ∧
      (∀ n, blockSpace s m .shared = .ok sp → (simd2 (m.bits 8 1)).regs ≤ m.body.length →
        dataSize (m.bits 10 2) = .ok n →
        (∀ i ∈ plainActive m (simd2 (m.bits 8 1)),
          Space.read s sp (m.globalOffset + (m.dw (simd2 (m.bits 8 1)) 0 0 i).toNat) n = .ok (v i)) →
        exec (.mt0rBs f) s = .next (sent f m base s
          (scatteredAnswer s (simd2 (m.bits 8 1)) n (plainActive m (simd2 (m.bits 8 1))) v))) ∧
      (∀ n addr, dataSize (m.bits 10 2) = .ok n → scaledA32 s m (simd2 (m.bits 12 1)) 1 = .ok (sp, addr) →
        (simd2 (m.bits 12 1)).regs ≤ m.body.length →
        (∀ i ∈ plainActive m (simd2 (m.bits 12 1)), Space.read s sp (addr i) n = .ok (v i)) →
        exec (.mt2rBs f) s = .next (sent f m base s
          (scatteredAnswer s (simd2 (m.bits 12 1)) n (plainActive m (simd2 (m.bits 12 1))) v)))) ∧
   (∀ (f : SendForm) (s s1 : State) (m : Msg) (base : Option Nat) (sp : Space), Issues f s m base →
      (blockSpace s m .shared = .ok sp → 2 * (simd2 (m.bits 8 1)).regs ≤ m.body.length →
        Stores s (scatteredStores s m (simd2 (m.bits 8 1)) 4 (simd2 (m.bits 8 1)).regs
          (plainActive m (simd2 (m.bits 8 1)))
          (fun i => 4 * (m.globalOffset + (m.dw (simd2 (m.bits 8 1)) 0 0 i).toNat)) sp) s1 →
        exec (.mt0wDws f) s = .next (sent f m base s1 [])) ∧
      (∀ n, blockSpace s m .shared = .ok sp → 2 * (simd2 (m.bits 8 1)).regs ≤ m.body.length →
        dataSize (m.bits 10 2) = .ok n →
        Stores s (scatteredStores s m (simd2 (m.bits 8 1)) n (simd2 (m.bits 8 1)).regs
          (plainActive m (simd2 (m.bits 8 1)))
          (fun i => m.globalOffset + (m.dw (simd2 (m.bits 8 1)) 0 0 i).toNat) sp) s1 →
        exec (.mt0wBs f) s = .next (sent f m base s1 [])) ∧
      (∀ n addr, dataSize (m.bits 10 2) = .ok n → scaledA32 s m (simd2 (m.bits 12 1)) 1 = .ok (sp, addr) →
        2 * (simd2 (m.bits 12 1)).regs ≤ m.body.length →
        Stores s (scatteredStores s m (simd2 (m.bits 12 1)) n (simd2 (m.bits 12 1)).regs
          (plainActive m (simd2 (m.bits 12 1))) addr sp) s1 →
        exec (.mt2wBs f) s = .next (sent f m base s1 [])))) ∧
  (∀ (f : SendForm) (s : State) (m : Msg) (base : Option Nat) (z : ElementSize) (rd wr : SendForm → Instr)
     (nc : Bool) (addr : Nat → Nat) (k : Nat),
     let mode := simd2 (m.bits 12 1)
     let n := 2 ^ m.bits 10 2
     Issues f s m base → elementSize (m.bits 8 2) = .ok z → ElementForm m z rd wr nc addr k → ElementsLegal z mode n →
     (∀ v : Nat → Nat → Nat,
       (∀ i ∈ plainActive m mode, ∀ e, e < n → readAt s (a64Locator nc addr) i (e * z.bytes) z.bytes = .ok (v i e)) →
       exec (rd f) s = .next (sent f m base s (responseFrom s (elementRegs z mode n)
         ((plainActive m mode).flatMap fun i => (List.range n).map fun e =>
           ((elementPlace z mode 0 e i).1, ((elementPlace z mode 0 e i).2, 8 * z.bytes, v i e)))))) ∧
     (∀ s1, k + elementRegs z mode n ≤ m.body.length →
       Stores s ((slotSequence s (n * z.bytes) (plainActive m mode) ((plainActive m mode).map addr)).flatMap fun i =>
         (List.range n).map fun e =>
           ((a64Locator nc addr i (e * z.bytes) z.bytes).1, (a64Locator nc addr i (e * z.bytes) z.bytes).2, z.bytes,
             ((m.reg (elementPlace z mode k e i).1).extractLsb' (elementPlace z mode k e i).2 (8 * z.bytes)).toNat)) s1 →
       exec (wr f) s = .next (sent f m base s1 [])))

/-- A64 block messages complete (R171 to R173, R225 to R227, R236): OWords from a 16-byte-aligned offset (or,
unaligned, a DWord-aligned one) are read into the response, and the payload's OWords are stored; of a dual block each
active slot's OWords, from its own 16-byte-aligned offset, are in its half of each register; of HWord blocks, from a
32-byte-aligned offset, the DWords that the channel mode lets through (R184). The subtypes' codes and the control
fields' positions are the family's (log 23). -/
def Obligations.A64BlockMessagesComplete : Prop :=
  (∀ (f : SendForm) (s : State) (m : Msg) (base : Option Nat) (nc : Bool) (n half a : Nat),
     Issues f s m base → a64Index m = .ok nc → a = (qword m.first 0).toNat → owordCount (m.bits 8 3) = .ok (n, half) →
     (m.bits 11 2 = 0 ∧ a % 16 = 0 ∨ m.bits 11 2 = 1 ∧ a % 4 = 0) →
     (∀ v : Nat → Nat,
       (∀ j, j < n → Space.read s ((a64Space nc a (16 * n)).block 0 (16 * n)) (16 * j) 16 = .ok (v j)) →
       exec (.mt1rA64B f) s = .next (sent f m base s
         (responseFrom s ((n + half + 1) / 2) (blockPieces 0 half 0 ((List.range n).map v))))) ∧
     (∀ s1, (n + half + 1) / 2 ≤ m.afterFirst.body.length →
       Stores s ((List.range n).map fun j =>
         ((a64Space nc a (16 * n)).block 0 (16 * n), 16 * j, 16, (oword (m.afterFirst.reg ((half + j) / 2)) ((half + j) % 2)).toNat)) s1 →
       exec (.mt1wA64B f) s = .next (sent f m base s1 []))) ∧
  (∀ (f : SendForm) (s : State) (m : Msg) (base : Option Nat) (nc : Bool) (n : Nat),
     Issues f s m base → a64Index m = .ok nc → m.bits 11 2 = 2 → a64DualCount (m.bits 8 3) = .ok n →
     (∀ i ∈ plainActive m .s4x2, (qword m.first i).toNat % 16 = 0) →
     (∀ v : Nat → Nat → Nat,
       (∀ i ∈ plainActive m .s4x2, ∀ e, e < n →
         Space.read s (a64Space nc (qword m.first i).toNat (16 * n)) (16 * e) 16 = .ok (v i e)) →
       exec (.mt1rA64B f) s = .next (sent f m base s (responseFrom s n ((plainActive m .s4x2).flatMap fun i =>
         (List.range n).map fun e => (e, (128 * i, 128, v i e)))))) ∧
     (∀ s1, n ≤ m.afterFirst.body.length →
       Stores s ((slotSequence s (16 * n) (plainActive m .s4x2)
           ((plainActive m .s4x2).map fun i => (qword m.first i).toNat)).flatMap fun i => (List.range n).map fun e =>
         (a64Space nc (qword m.first i).toNat (16 * n), 16 * e, 16, (oword (m.afterFirst.reg e) i).toNat)) s1 →
       exec (.mt1wA64B f) s = .next (sent f m base s1 []))) ∧
  (∀ (f : SendForm) (s : State) (m : Msg) (base : Option Nat) (nc byDword : Bool) (n a : Nat),
     Issues f s m base → a64Index m = .ok nc → a = (qword m.first 0).toNat → m.bits 11 2 = 3 →
     a64HwordCount (m.bits 8 3) = .ok n → a % 32 = 0 → byDword = (dword m.first 5).getLsbD 31 →
     (∀ v : Nat → Nat → Nat,
       (∀ j, j < n → ∀ d ∈ hwordDwords m byDword j,
         Space.read s ((a64Space nc a (32 * n)).block 0 (32 * n)) (32 * j + 4 * d) 4 = .ok (v j d)) →
       exec (.mt1rA64B f) s = .next (sent f m base s (responseFrom s n ((List.range n).flatMap fun j =>
         (hwordDwords m byDword j).map fun d => (j, (32 * d, 32, v j d)))))) ∧
     (∀ s1, n ≤ m.afterFirst.body.length →
       Stores s ((List.range n).flatMap fun j => (hwordDwords m.afterFirst byDword j).map fun d =>
         ((a64Space nc a (32 * n)).block 0 (32 * n), 32 * j + 4 * d, 4, (dword (m.afterFirst.reg j) d).toNat)) s1 →
       exec (.mt1wA64B f) s = .next (sent f m base s1 [])))

namespace Sys2Proof.Claims

open Sys2Proof.Machine

/-- The slots of an atomic message performed in order (R26): for each, its old value, the state after it, and what it
returns. `addrs` are the addresses whose overlap decides whether the order is open (D12). -/
def Performs (m : Msg) (o : Atomic) (n : Nat) (l : AtomLayout) (mode : Simd) (k : Nat) (loc : Locator) :
    State → List Nat → State → List (Nat × Nat) → Prop
  | s, [], s1, vals => s1 = s ∧ vals = []
  | s, i :: rest, s1, vals =>
    ∃ old t tail,
      Space.read s (loc i 0 l.bytes).1 (loc i 0 l.bytes).2 l.bytes = .ok old ∧
      Space.write s (loc i 0 l.bytes).1 (loc i 0 l.bytes).2 l.bytes
        (o.result (s.draw i 7) (8 * l.bytes) old (if n ≥ 1 then gather m (l.place mode k 0 i) else 0)
          (if n ≥ 2 then gather m (l.place mode k 1 i) else 0)) = .ok t ∧
      Performs m o n l mode k loc t rest s1 tail ∧
      vals = (i, if (loc i 0 l.bytes).1.inside (loc i 0 l.bytes).2 l.bytes then
        o.returned (8 * l.bytes) old (if n ≥ 1 then gather m (l.place mode k 0 i) else 0)
          (if n ≥ 2 then gather m (l.place mode k 1 i) else 0) else 0) :: tail

/-- What an atomic message answers: the returned values, or nothing. -/
def atomicAnswer (s : State) (l : AtomLayout) (mode : Simd) (returns : Bool) (vals : List (Nat × Nat)) : Answer :=
  if returns then responseFrom s (l.regs mode) (vals.flatMap fun e => scatter (l.place mode 0 0 e.1) e.2) else []

/-- The untyped atomics: constructor, operation, mode (R180 to R182, R177, R179, R207). -/
def untypedAtomics : List ((SendForm → Instr) × (Msg → Atomic) × (Msg → Simd)) :=
  [(.mt1aUi, intOp, reversedMode), (.mt1aUi4x2, intOp, fourByTwo), (.mt1aUf, floatOp, reversedMode),
   (.mt1aUf4x2, floatOp, fourByTwo)]

/-- The A64 atomics: constructor, operation, mode, whether the data are 64 bits. -/
def a64Atomics : List ((SendForm → Instr) × (Msg → Atomic) × Simd × (Msg → Bool)) :=
  [(.mt1aA64Ui, intOp, .s8, wideData), (.mt1aA64Ui4x2, intOp, .s4x2, wideData), (.mt1aA64Uf, floatOp, .s8, narrowData),
   (.mt1aA64Uf4x2, floatOp, .s4x2, narrowData)]

/-- How wide an untyped atomic's values are: `CMPWR_2W` is a double DWord (R181). -/
def untypedLayout (o : Atomic) : AtomLayout := if o = .int 0 then .split else .dword

end Sys2Proof.Claims

/-- Untyped atomics complete: each active slot's read, operation and write in one step, the returned values the old
ones or, for `AOP_PREDEC`, the new ones (R26, R177 to R182, R186). A64 atomics complete likewise, on 4, 8 or 16 bytes
at each slot's 64-bit address (R26, R177 to R182, R186, R282 to R292). The positions of the control fields in the
descriptor are the family's (log 23). -/
def Obligations.UntypedAndA64AtomicsComplete : Prop :=
  (∀ mk op md, (mk, op, md) ∈ untypedAtomics →
     ∀ (f : SendForm) (s s1 : State) (m : Msg) (base : Option Nat) (sp : Space) (u : Option Surface) (n : Nat)
       (vals : List (Nat × Nat)),
       Issues f s m base → untypedSpace s m = .ok (sp, u) → (op m).sources = .ok n →
       untypedAddressRegs (md m) u + (untypedLayout (op m)).sourceRegs (md m) n ≤ m.body.length →
       (∀ i ∈ untypedActive m (md m), untypedOffset m (md m) u i % (untypedLayout (op m)).bytes = 0) →
       Performs m (op m) n (untypedLayout (op m)) (md m) (untypedAddressRegs (md m) u)
         (offsetLocator sp (untypedOffset m (md m) u)) s
         (slotSequence s (untypedLayout (op m)).bytes (untypedActive m (md m))
           ((untypedActive m (md m)).map (untypedOffset m (md m) u))) s1 vals →
       exec (mk f) s = .next (sent f m base s1
         (atomicAnswer s (untypedLayout (op m)) (md m) (m.bits 13 1 = 1) vals))) ∧
  (∀ mk op mode wide, (mk, op, mode, wide) ∈ a64Atomics →
     ∀ (f : SendForm) (s s1 : State) (m : Msg) (base : Option Nat) (nc : Bool) (n : Nat) (vals : List (Nat × Nat)),
       Issues f s m base → a64Index m = .ok nc → (op m).sources = .ok n →
       mode.qregs + (a64Layout (wide m) (op m)).sourceRegs mode n ≤ m.body.length →
       (∀ i ∈ plainActive m mode, (m.qw mode 0 i).toNat % (a64Layout (wide m) (op m)).bytes = 0) →
       Performs m (op m) n (a64Layout (wide m) (op m)) mode mode.qregs (a64Locator nc fun i => (m.qw mode 0 i).toNat) s
         (slotSequence s (a64Layout (wide m) (op m)).bytes (plainActive m mode)
           ((plainActive m mode).map fun i => (m.qw mode 0 i).toNat)) s1 vals →
       exec (mk f) s = .next (sent f m base s1
         (atomicAnswer s (a64Layout (wide m) (op m)) mode (m.bits 13 1 = 1) vals)))

namespace Sys2Proof.Claims

open Sys2Proof.Machine

/-- Where a typed atomic's slot has its element: inside its surface, else nowhere (R23). -/
def typedLocator (m : Msg) (u : Surface) (mode : Simd) : Locator := fun i d _ =>
  (if u.holds (typedAt m u mode i) then .memory (u.texelAddress (typedAt m u mode i)) 8 u.coherency else .zero, d)

/-- The address of a slot of a typed message. -/
def typedAddress (m : Msg) (u : Surface) (mode : Simd) (i : Nat) : Nat := u.texelAddress (typedAt m u mode i)

/-- The LODs of the slots of a typed message are in their range (R274, R306). -/
def LodsLegal (m : Msg) (u : Surface) (mode : Simd) (active : List Nat) : Prop :=
  ∀ i ∈ active, (typedAt m u mode i).lod ≤ 14

/-- The slot group of a typed or counter atomic (R210). -/
def atomicGroup (m : Msg) (mode : Simd) : Nat := if mode = .s4x2 then 0 else m.bits 12 1

end Sys2Proof.Claims

/-- Typed atomics and atomic counter messages complete: on the surface's element at each active slot's coordinates,
and on the surface's counter (R186, R210, R26, R450; that a counter message carries no address is log 22). The
positions of the control fields in the descriptor are the family's (log 23). -/
def Obligations.TypedAtomicsComplete : Prop :=
  ∀ (f : SendForm) (s s1 : State) (m : Msg) (base : Option Nat) (u : Surface) (n : Nat) (vals : List (Nat × Nat))
    (mode : Simd),
    Issues f s m base → surfaceTarget s m .typed = .ok u → (intOp m).sources = .ok n →
    (∀ mk, mk = Instr.mt1aTa ∧ mode = .s8 ∨ mk = Instr.mt1aTa4x2 ∧ mode = .s4x2 →
      typedRegs u mode + (untypedLayout (intOp m)).sourceRegs mode n ≤ m.body.length →
      LodsLegal m u mode (typedActive m mode (atomicGroup m mode)) →
      Performs m (intOp m) n (untypedLayout (intOp m)) mode (typedRegs u mode) (typedLocator m u mode) s
        (slotSequence s (untypedLayout (intOp m)).bytes (typedActive m mode (atomicGroup m mode))
          ((typedActive m mode (atomicGroup m mode)).map (typedAddress m u mode))) s1 vals →
      exec (mk f) s = .next (sent f m base s1
        (atomicAnswer s (untypedLayout (intOp m)) mode (m.bits 13 1 = 1) vals))) ∧
    (∀ mk, mk = Instr.mt1aTc ∧ mode = .s8 ∨ mk = Instr.mt1aTc4x2 ∧ mode = .s4x2 →
      (untypedLayout (intOp m)).sourceRegs mode n ≤ m.body.length →
      Performs m (intOp m) n (untypedLayout (intOp m)) mode 0
        (fun _ d _ => (if u.ty = surfNull then .zero else .memory (Machine.counterAddress u) 8 u.coherency, d)) s
        (slotSequence s (untypedLayout (intOp m)).bytes (typedActive m mode (atomicGroup m mode))
          ((typedActive m mode (atomicGroup m mode)).map fun _ => Machine.counterAddress u)) s1 vals →
      exec (mk f) s = .next (sent f m base s1
        (atomicAnswer s (untypedLayout (intOp m)) mode (m.bits 13 1 = 1) vals)))

namespace Sys2Proof.Claims

open Sys2Proof.Machine

/-- The response of a typed read (R183, R320, R452): channel `c` of slot `i` is what the shader channel selects in the slot's
texel, 0 outside the surface and on the null surface (R23, R438). -/
def typedAnswer (s : State) (m : Msg) (u : Surface) (mode : Simd) (mask : Nat) (active : List Nat)
    (texel : Nat → BitVec 128) : Answer :=
  responseFrom s (channelRegs mode (typedChannels u mode mask).length) (active.flatMap fun i =>
    (typedChannels u mode mask).map fun jc =>
      ((dwordPlace mode (channelReg mode 0 jc.1) jc.2 i).1,
        (32 * (dwordPlace mode (channelReg mode 0 jc.1) jc.2 i).2, typedWidth u mode,
          if u.holds (typedAt m u mode i) then
            (u.shaderValue ((s.draw (4 * i + jc.2) 30).setWidth 32) (texel i) jc.2).toNat
          else 0)))

/-- The slots of a typed write store their texels one after another, from `s` to `s1`. -/
def StoresTexels (m : Msg) (u : Surface) (mode : Simd) (mask : Nat) : State → List Nat → State → Prop
  | s, [], s1 => s1 = s
  | s, i :: rest, s1 =>
    ∃ old t,
      u.readTexel s (typedAt m u mode i).x (typedAt m u mode i).y (typedAt m u mode i).r (typedAt m u mode i).lod
        (typedAt m u mode i).sample = .ok old ∧
      u.writeTexel s (typedAt m u mode i).x (typedAt m u mode i).y (typedAt m u mode i).r (typedAt m u mode i).lod
        (typedAt m u mode i).sample (typedTexel m u mode mask i old) = .ok t ∧
      StoresTexels m u mode mask t rest s1

end Sys2Proof.Claims

/-- Typed surface messages complete. A read answers with the mask's channels of each active slot's element, zeros
outside the surface and on the null surface. A write stores each active slot's element with the channels of the mask
replaced, in the order of its slots, open where they overlap; of the null surface, or with no active slot, nothing.
Both for every number of active slots (R183, R186, R211, R23, R438, R452; the formats are open). The positions of the
control fields in the descriptor are the family's (log 23). -/
def Obligations.TypedSurfaceMessagesComplete : Prop :=
  (∀ (f : SendForm) (s : State) (m : Msg) (base : Option Nat) (u : Surface) (mode : Simd) (group : Nat)
     (texel : Nat → BitVec 128),
     Issues f s m base → slotGroup3 m = .ok (mode, group) → surfaceTarget s m .typed = .ok u → m.bits 8 4 ≠ 15 →
     typedRegs u mode ≤ m.body.length → LodsLegal m u mode (typedActive m mode group) →
     (∀ i ∈ typedActive m mode group,
       u.readTexel s (typedAt m u mode i).x (typedAt m u mode i).y (typedAt m u mode i).r (typedAt m u mode i).lod
         (typedAt m u mode i).sample = .ok (texel i)) →
     exec (.mt1rTs f) s = .next (sent f m base s
       (typedAnswer s m u mode (m.bits 8 4) (typedActive m mode group) texel))) ∧
  (∀ (f : SendForm) (s s1 : State) (m : Msg) (base : Option Nat) (u : Surface) (mode : Simd) (group : Nat),
     Issues f s m base → slotGroup3 m = .ok (mode, group) → surfaceTarget s m .typed = .ok u → m.bits 8 4 ≠ 15 →
     typedRegs u mode + channelRegs mode (typedChannels u mode (m.bits 8 4)).length ≤ m.body.length →
     LodsLegal m u mode (typedActive m mode group) →
     StoresTexels m u mode (m.bits 8 4) s
       (slotSequence s 16 (typedActive m mode group) ((typedActive m mode group).map (typedAddress m u mode))) s1 →
     exec (.mt1wTs f) s = .next (sent f m base s1 [])) ∧
  (∀ (f : SendForm) (s : State) (m : Msg) (base : Option Nat) (u : Surface) (mode : Simd) (group : Nat),
     Issues f s m base → slotGroup3 m = .ok (mode, group) → surfaceTarget s m .typed = .ok u → m.bits 8 4 ≠ 15 →
     typedRegs u mode + channelRegs mode (typedChannels u mode (m.bits 8 4)).length ≤ m.body.length →
     LodsLegal m u mode (typedActive m mode group) → typedActive m mode group = [] ∨ u.ty = surfNull →
     exec (.mt1wTs f) s = .next (sent f m base s []))

/-- The DWords of Read Surface Info (R296, R297): the instruction base in canonical form, and the surface's width, height,
depth, mip count, type and format at the LOD asked for. -/
def Obligations.ReadSurfaceInfoAnswers : Prop :=
  ∀ (f : SendForm) (s : State) (m : Msg) (base : Option Nat) (u : Surface),
    Issues f s m base → 1 ≤ m.body.length → surfaceTarget s m .info = .ok u →
    (dword (m.reg 0) 3).extractLsb' 0 4 ≠ 15#4 →
    exec (.mtRsi f) s = .next (sent f m base s (responseFrom s 2
      ((0, (192, 64, (canonicalForm s.ctx.instructionBase).toNat)) ::
        surfaceInfo u ((dword (m.reg 0) 3).extractLsb' 0 4).toNat)))

namespace Sys2Proof.Claims

open Sys2Proof.Machine

/-- The bytes of a block of `w` bytes by `h` rows, row by row. -/
def blockCells (w h : Nat) : List (Nat × Nat) := (List.range h).flatMap fun r => (List.range w).map fun b => (r, b)

/-- The response of a media block read (R239): row `r` starts `r` row pitches from the sub-register offset. -/
def mediaAnswer (c : BlockControl) (v : Nat → Nat → Nat) : Answer :=
  responseOver ((c.sro + (c.h - 1) * (c.rpc * basePitch c.w) + c.w + 31) / 32)
    ((blockCells c.w c.h).map fun e =>
      ((c.sro + e.1 * (c.rpc * basePitch c.w) + e.2) / 32,
        (8 * ((c.sro + e.1 * (c.rpc * basePitch c.w) + e.2) % 32), 8, v e.1 e.2)))

/-- The bytes are written one after another, from `s` to `s1` (R231, R240). -/
def StoresBytes (u : Surface) (vlso : Nat) (x y : Int) (byte : Nat → Nat → Byte) : State → List (Nat × Nat) → State → Prop
  | s, [], s1 => s1 = s
  | s, e :: rest, s1 =>
    ∃ t, mediaWrite s u vlso (x + e.2) (y + e.1) (byte e.1 e.2) = .ok t ∧ StoresBytes u vlso x y byte t rest s1

/-- A register pitch and a sub-register offset that a merged read may have (R239): a pitch of 1, 2 or 4 blocks, the offset a
multiple of the row pitch. -/
def MergeLegal (c : BlockControl) : Prop :=
  c.rpc ≠ 3 ∧ c.sro % basePitch c.w = 0 ∧ (c.sro = 0 ∨ c.rpc * basePitch c.w + c.sro ≤ 32) ∧
  (c.rpc = 1 → c.sro % (basePitch c.w * c.h) = 0) ∧ (c.rpc ≠ 1 → c.w % 4 = 0 ∧ c.rpc * basePitch c.w ≤ 32)

/-- Which bytes a media block write stores, and of how large a block, by its mode (R231, R232, R240, R241, R243): all of the
block; those of the pixels of the mask, of a block of 32 bytes by 4 rows; the columns of the byte mask. -/
inductive MediaWriteForm (m : Msg) (c : BlockControl) : Nat → Nat → (Nat → Nat → Bool) → Prop
  | plain : c.mode = 0 → (dword m.header 0).toInt % 4 = 0 → c.w % 4 = 0 → c.w / 4 * c.h ≤ 64 →
      MediaWriteForm m c c.w c.h fun _ _ => true
  | pixelMasked : c.mode = 1 → (dword m.header 0).toInt % 32 = 0 → (dword m.header 1).toInt % 4 = 0 → c.sro = 0 →
      c.rpc = 1 → MediaWriteForm m c 32 4 fun r b => (dword m.header 3).getLsbD (pixelMaskBit (b / 4) r)
  | byteMasked : c.mode = 2 → (dword m.header 0).toInt % 4 = 0 → c.w % 4 = 0 → c.w ≤ 32 → c.w / 4 * c.h ≤ 64 →
      MediaWriteForm m c c.w c.h fun _ b => (dword m.header 3).getLsbD b

end Sys2Proof.Claims


/-- Media block reads complete with the block's bytes, merged into the response at the register pitch and sub-register
offset of the header where the message admits them, and the transpose read with its DWords by columns (R239, R240,
R205, R186, R229, R260; block sizes and alignments as R244 and R260 list them); media block writes complete, plain,
pixel masked and byte masked, byte `b` of row `r` of the payload stored at the block's column and row (R231, R232,
R240, R241, R243, R244; bytes outside the surface are dropped, R23). That the line stride control is in descriptor
bits 10:8, of the transpose read too, is the family's (log 23). -/
def Obligations.MediaBlockMessagesComplete : Prop :=
  (∀ (f : SendForm) (s : State) (m : Msg) (base : Option Nat) (u : Surface) (v : Nat → Nat → Nat) (c : BlockControl),
     Issues f s m base → m.hasHeader = true → surfaceTarget s m .media = .ok u → c = blockControl m →
     (c.w ≤ 32 → (c.w + 3) / 4 * c.h ≤ 64 →
       (∀ e ∈ blockCells c.w c.h,
         mediaByte s u (m.bits 8 3) ((dword m.header 0).toInt + e.2) ((dword m.header 1).toInt + e.1) = .ok (v e.1 e.2)) →
       (c.mode = 0 → MergeLegal c → exec (.mt1rMb f) s = .next (sent f m base s (mediaAnswer c v))) ∧
       (c.rpc = 1 → c.sro = 0 → exec (.mtScMb f) s = .next (sent f m base s (mediaAnswer c v)))) ∧
     (∀ w h : Nat, w = 2 ^ ((dword m.header 2).extractLsb' 0 2).toNat → h = 2 ^ ((dword m.header 2).extractLsb' 20 2).toNat →
       (dword m.header 0).toInt % (4 * w) = 0 → (dword m.header 1).toInt % h = 0 →
       (∀ r b, r < h → b < 4 * w →
         mediaByte s u (m.bits 8 3) ((dword m.header 0).toInt + b) ((dword m.header 1).toInt + r) = .ok (v r b)) →
       exec (.mt1rT f) s = .next (sent f m base s (responseFrom s w
         ((List.range w).flatMap fun c => (List.range h).flatMap fun r => (List.range 4).map fun b =>
           (c, (32 * r + 8 * b, 8, v r (4 * c + b)))))))) ∧
  (∀ (f : SendForm) (s s1 : State) (m : Msg) (base : Option Nat) (u : Surface) (w h : Nat) (keep : Nat → Nat → Bool),
     Issues f s m base → m.hasHeader = true → surfaceTarget s m .media = .ok u →
     MediaWriteForm m (blockControl m) w h keep →
     ((h - 1) * basePitch w + w + 31) / 32 ≤ m.body.length →
     StoresBytes u (m.bits 8 3) (dword m.header 0).toInt (dword m.header 1).toInt
       (fun r b => regByte (m.reg ((r * basePitch w + b) / 32)) ((r * basePitch w + b) % 32)) s
       ((blockCells w h).filter fun e => keep e.1 e.2) s1 →
     exec (.mt1wMb f) s = .next (sent f m base s1 []))

namespace Sys2Proof.Claims

open Sys2Proof.Machine

/-- The enabled slots and samples of a render target write (R200, R246, R361). -/
def renderSamples (s : State) (m : Msg) (u : Surface) (r : RtMessage) (en : BitVec 16) : List (Nat × Nat) :=
  (activeSlots r.kind.slots fun i => m.slot i && en.getLsbD (r.kind.pixel i)).flatMap fun i =>
    (rtSamples s u m r i).map fun k => (i, k)

/-- The samples are written one after another, from `s` to `s1` (R200, R405). -/
def RendersSamples (color : Nat) (u : Surface) (m : Msg) (r : RtMessage) : State → List (Nat × Nat) → State → Prop
  | s, [], s1 => s1 = s
  | s, e :: rest, s1 => ∃ t, rtStore color s u m r e.1 e.2 = .ok t ∧ RendersSamples color u m r t rest s1

/-- A render target message meets its surface (R200, R249, R438, R448): a per-sample message a multisampled or a null one; the
array index is 0 of a buffer and of a surface with a Y Offset, at most 511 of a one- or two-dimensional one. -/
def RenderLegal (u : Surface) (m : Msg) (perSample : Bool) : Prop :=
  (perSample = true → 1 < u.samples ∨ u.ty = surfNull) ∧ checkSamplePair m = .ok () ∧
  (u.ty = surfBuffer ∨ u.yOffset ≠ 0 → m.rtControl.extractLsb' 16 11 = 0#11) ∧
  (u.ty = surf1D ∨ u.ty = surf2D → (m.rtControl.extractLsb' 16 11).toNat ≤ 511)

/-- A render target write can be made: a message `r` to the surface `u`, the enables `en` of its pixel slots, and the colour
calculator's state (R200, R206, R246, R248, R249, R410). -/
structure Renders (s : State) (m : Msg) (u : Surface) (r : RtMessage) (en : BitVec 16) (color : Nat) : Prop where
  message : rtMessage m = .ok r
  surface : rtSurface s m = .ok u
  legal : RenderLegal u m r.perSample
  rate : Config.psPerSample = true → r.perSample = true ∨ u.samples = 1
  tiled : r.kind = .replicated true → u.tile ≠ 0 ∨ u.ty = surfNull
  payload : (if m.hasHeader then 2 else 0) + r.regs ≤ m.payload.length
  enables : rtEnables s m r.group = .ok en
  colorCalc : rtColorCalc s m = .ok color

/-- The constructors of a render target write: the message type's own and its subtypes'. -/
def renderWrites : List (SendForm → Instr) :=
  [.mtRtw, .mtRtwSimd16, .mtRtwSimd16Repdata, .mtRtwSimd8DualsrcLo, .mtRtwSimd8DualsrcHi, .mtRtwSimd8Lo,
   .mtRtwSimd16RepdataTm]

end Sys2Proof.Claims


/-- Render target writes complete: every enabled sample of every enabled pixel takes the texel that the colour
calculator gives (R200, R206, R233, R246, R248, R249, R322; the texel is open, `Config.renderTexel`). Render target
reads complete: the four colours of each enabled pixel's texel, each as the channel selects give it (R452), zero
outside the surface; the other lanes are not written (R206, R246, R249). Bits 8, 11 and 13 of the read's descriptor,
and that the colour calculator's part is one function of what R249 lists, are the model's choices (log 24). -/
def Obligations.RenderTargetMessagesComplete : Prop :=
  (∀ mk ∈ renderWrites, ∀ (f : SendForm) (s s1 : State) (m : Msg) (base : Option Nat) (u : Surface) (r : RtMessage)
     (en : BitVec 16) (color : Nat),
     Issues f s m base → Renders s m u r en color →
     RendersSamples color u m r s (renderSamples s m u r en) s1 →
     exec (mk f) s = .next (sent f m base s1 [])) ∧
  (∀ (f : SendForm) (s : State) (m : Msg) (base : Option Nat) (u : Surface) (en : BitVec 16) (n : Nat) (k : Nat → Nat)
     (t : Nat → BitVec 128),
     Issues f s m base → m.rtControl.extractLsb' 11 4 = 0#4 → rtSurface s m = .ok u →
     RenderLegal u m (m.desc.getLsbD 13) → (if m.hasHeader then 2 else 0) ≤ m.payload.length →
     rtEnables s m (m.bits 11 1) = .ok en →
     n = (if m.desc.getLsbD 8 then 8 else 16) →
     (∀ i, k i = if m.desc.getLsbD 13 then rtSample u m i else 0) →
     let at_ (i : Nat) : Nat × Nat × Nat :=
       rtCoords u (rtPosition s m (m.bits 11 1) i).1 (rtPosition s m (m.bits 11 1) i).2 (rtArrayIndex u m.rtControl)
     let active := activeSlots n fun i => m.slot i && en.getLsbD i
     (∀ i ∈ active, u.readTexel s (at_ i).1 (at_ i).2.1 (at_ i).2.2 u.mip (k i) = .ok (t i)) →
     exec (.mtRtr f) s = .next (sent f m base s (responseOver (4 * (n / 8)) (active.flatMap fun i =>
       (List.range 4).map fun ch => (ch * (n / 8) + i / 8, (32 * (i % 8), 32,
         if u.ty ≠ surfNull ∧ u.contains (at_ i).1 (at_ i).2.1 (at_ i).2.2 u.mip (k i) = true then
           (u.shaderValue ((s.draw (4 * i + ch) 31).setWidth 32) (t i) ch).toNat else 0))))))

namespace Sys2Proof.Claims

open Sys2Proof.Machine

/-- The message types of data port 0, descriptor bits 17:14 with bit 18 clear (R185). -/
def types0 : List (Nat × (SendForm → Instr)) :=
  [(0x0, .mt0rB), (0x1, .mt0rAb), (0x2, .mt0rOwdb), (0x3, .mt0rDws), (0x4, .mt0rBs), (0x7, .mt0Memfence), (0x8, .mt0wB),
   (0xA, .mt0wOwdb), (0xB, .mt0wDws), (0xC, .mt0wBs)]

/-- The message types of data port 1, descriptor bits 18:14 (R186). -/
def types1 : List (Nat × (SendForm → Instr)) :=
  [(0x00, .mt1rT), (0x01, .mt1rUs), (0x02, .mt1aUi), (0x03, .mt1aUi4x2), (0x04, .mt1rMb), (0x05, .mt1rTs),
   (0x06, .mt1aTa), (0x07, .mt1aTa4x2), (0x09, .mt1wUs), (0x0A, .mt1wMb), (0x0B, .mt1aTc), (0x0C, .mt1aTc4x2),
   (0x0D, .mt1wTs), (0x10, .mt1rA64Sb), (0x11, .mt1rA64Us), (0x12, .mt1aA64Ui), (0x13, .mt1aA64Ui4x2)] ++
  [(0x14, .mt1rA64B), (0x15, .mt1wA64B), (0x19, .mt1wA64Us), (0x1A, .mt1wA64Sb), (0x1B, .mt1aUf), (0x1C, .mt1aUf4x2),
   (0x1D, .mt1aA64Uf), (0x1E, .mt1aA64Uf4x2)]

/-- The message types of data port 2, descriptor bits 18:15 (R187). -/
def types2 : List (Nat × (SendForm → Instr)) :=
  [(0x1, .mt2rUs), (0x2, .mt2rA64Sb), (0x3, .mt2rA64Us), (0x4, .mt2rBs), (0x9, .mt2wUs), (0xA, .mt2wA64Us),
   (0xB, .mt2wA64Sb), (0xC, .mt2wBs)]

/-- The message types of the read-only data port, descriptor bits 17:14 (R205). -/
def typesReadOnly : List (Nat × (SendForm → Instr)) :=
  [(0x0, .mtCcOwb), (0x1, .mtCcOwub), (0x2, .mtCcOwdb), (0x3, .mtCcDws), (0x4, .mtScOwub), (0x5, .mtScMb), (0x6, .mtRsi)]

/-- The message types of the render cache data port, descriptor bits 17:14 (R206). -/
def typesRender : List (Nat × (SendForm → Instr)) := [(0xC, .mtRtw), (0xD, .mtRtr)]

/-- The DWords of a scratch block, as positions in it: those its channel mode lets through (R184, R250). -/
def scratchCells (m : Msg) : List (Nat × Nat) :=
  (List.range (2 ^ m.bits 12 2)).flatMap fun j => (hwordDwords m (decide (m.bits 16 1 = 1)) j).map fun d => (j, d)

/-- The storage of a scratch block, none if any of its bytes lies outside (R185, R250, R23). -/
def scratchBlockOf (m : Msg) (sp : Space) : Space := sp.block (32 * m.bits 0 12) (32 * 2 ^ m.bits 12 2)

end Sys2Proof.Claims

/-- A send to a data port whose message type stands in a register descriptor has the outcome of the message its port
lists under that type (R185 to R187, R205, R206). So it completes: for each port one message is stated in full: the
memory fence and the scratch block messages of port 0, an untyped read of port 1, a scaled untyped read of port 2,
Read Surface Info of the read-only port, and the render target write. The control fields' positions are the family's
(log 23), and a data port 2 or scratch block access is coherent by the model's choice (log 55). -/
def Obligations.PortsDispatchOnTheMessageType : Prop :=
  (∀ (f : SendForm) (s : State) (m : Msg) (base : Option Nat), Issues f s m base → m.bits 18 1 = 0 → m.bits 14 4 = 7 →
     exec (.sfidDp0 f) s = .next (sent f m base s.fence [])) ∧
  (∀ (f : SendForm) (s : State) (m : Msg) (base : Option Nat) (sp : Space) (v : Nat → Nat → Nat), Issues f s m base →
     m.bits 17 2 = 2 → m.bits 15 1 = 0 → m.hasHeader = true → statelessSpace s false m.bufferBase m.scratch 0 = .ok sp →
     (∀ e ∈ scratchCells m,
       Space.read s (scratchBlockOf m sp) (32 * m.bits 0 12 + 32 * e.1 + 4 * e.2) 4 = .ok (v e.1 e.2)) →
     exec (.sfidDp0 f) s = .next (sent f m base s (responseFrom s (2 ^ m.bits 12 2)
       ((scratchCells m).map fun e => (e.1, (32 * e.2, 32, v e.1 e.2)))))) ∧
  (∀ (f : SendForm) (s s1 : State) (m : Msg) (base : Option Nat) (sp : Space), Issues f s m base →
     m.bits 17 2 = 3 → m.bits 15 1 = 0 → m.hasHeader = true → statelessSpace s false m.bufferBase m.scratch 0 = .ok sp →
     2 ^ m.bits 12 2 ≤ m.body.length →
     Stores s ((scratchCells m).map fun e =>
       (scratchBlockOf m sp, 32 * m.bits 0 12 + 32 * e.1 + 4 * e.2, 4, (dword (m.reg e.1) e.2).toNat)) s1 →
     exec (.sfidDp0 f) s = .next (sent f m base s1 [])) ∧
  (∀ (f : SendForm) (s : State) (m : Msg) (base : Option Nat) (mode : Simd) (sp : Space) (u : Option Surface)
     (v : Nat → Nat → Nat), Issues f s m base →
     m.bits 14 5 = 1 → simd3 (m.bits 12 2) = .ok mode → untypedSpace s m = .ok (sp, u) →
     untypedAddressRegs mode u ≤ m.body.length →
     (∀ i ∈ untypedActive m mode, untypedOffset m mode u i % 4 = 0) → m.bits 8 4 ≠ 15 →
     ReadsAt s (m.bits 8 4) (untypedActive m mode) (offsetLocator sp (untypedOffset m mode u)) v →
     exec (.sfidDp1 f) s = .next (sent f m base s (channelAnswer s mode (m.bits 8 4) (untypedActive m mode) v))) ∧
  (∀ (f : SendForm) (s : State) (m : Msg) (base : Option Nat) (mode : Simd) (sp : Space) (addr : Nat → Nat)
     (v : Nat → Nat → Nat), Issues f s m base →
     m.bits 15 4 = 1 → simd3 (m.bits 12 2) = .ok mode → scaledA32 s m mode 4 = .ok (sp, addr) →
     mode.regs ≤ m.body.length →
     (∀ i ∈ untypedActive m mode, addr i % 4 = 0) → m.bits 8 4 ≠ 15 →
     ReadsAt s (m.bits 8 4) (untypedActive m mode) (offsetLocator sp addr) v →
     exec (.sfidDp2 f) s = .next (sent f m base s (channelAnswer s mode (m.bits 8 4) (untypedActive m mode) v))) ∧
  (∀ (f : SendForm) (s : State) (m : Msg) (base : Option Nat) (u : Surface), Issues f s m base →
     m.bits 14 4 = 6 → 1 ≤ m.body.length → surfaceTarget s m .info = .ok u →
     (dword (m.reg 0) 3).extractLsb' 0 4 ≠ 15#4 →
     exec (.sfidReadOnly f) s = .next (sent f m base s (responseFrom s 2
       ((0, (192, 64, (canonicalForm s.ctx.instructionBase).toNat)) ::
         surfaceInfo u ((dword (m.reg 0) 3).extractLsb' 0 4).toNat)))) ∧
  (∀ (f : SendForm) (s s1 : State) (m : Msg) (base : Option Nat) (u : Surface) (r : RtMessage) (en : BitVec 16)
     (color : Nat), Issues f s m base →
     m.bits 14 4 = 12 → Renders s m u r en color → RendersSamples color u m r s (renderSamples s m u r en) s1 →
     exec (.sfidRenderCache f) s = .next (sent f m base s1 [])) ∧
  (∀ (f : SendForm) (s : State),
     let d := descriptor s.eu f.desc
     (∀ e ∈ types0, (d.extractLsb' 18 1).toNat = 0 → (d.extractLsb' 14 4).toNat = e.1 →
       exec (.sfidDp0 f) s = exec (e.2 f) s) ∧
     (∀ e ∈ types1, (d.extractLsb' 14 5).toNat = e.1 → exec (.sfidDp1 f) s = exec (e.2 f) s) ∧
     (∀ e ∈ types2, (d.extractLsb' 15 4).toNat = e.1 → exec (.sfidDp2 f) s = exec (e.2 f) s) ∧
     (∀ e ∈ typesReadOnly, (d.extractLsb' 14 4).toNat = e.1 → exec (.sfidReadOnly f) s = exec (e.2 f) s) ∧
     (∀ e ∈ typesRender, (d.extractLsb' 14 4).toNat = e.1 → exec (.sfidRenderCache f) s = exec (e.2 f) s))

/-! ## Frames -/

namespace Sys2Proof.Claims

open Sys2Proof.Machine

/-- The native instruction of a compact one (R72, R76); any other instruction itself. -/
def native (i : Instr) : Instr :=
  match i with
  | .compactTwo o =>
    match expanded (expandTwo Config.srcIndexTable o) with
    | .ok j => j
    | .error _ => i
  | .compactThree o =>
    match expanded (expandThree o) with
    | .ok j => j
    | .error _ => i
  | _ => i

/-- How a computing instruction writes: controls, destination, whether its condition goes to the flag register (R98; not of
`sel`, R102, and `csel`, R114), whether its predicate gates the write (not of `sel`), and the byte distances from a
channel's destination at which it writes (0; for INT DIV with remainder also the registers after the region, R139). -/
structure Writes where
  ctl : Ctl
  dst : Dest
  toFlags : Bool
  gated : Bool
  shifts : List Nat

/-- The writes of a computing instruction; none of the others. -/
def computing (i : Instr) : Option Writes :=
  match i, i.shape with
  | .wait _, _ => none
  | .sel _, .two _ o => some ⟨o.ctl, .op o.dst, false, false, [0]⟩
  | .csel _, .three _ o => some ⟨o.ctl, triDest o, false, true, [0]⟩
  | .mathIntDivQr _, .math _ o => some ⟨o.ctl, .op o.dst, false, true, [0, 32 * regsSpanned o]⟩
  | _, .one _ o => some ⟨o.ctl, .op o.dst, o.cond != .none, true, [0]⟩
  | _, .two _ o => some ⟨o.ctl, .op o.dst, o.cond != .none, true, [0]⟩
  | _, .three _ o => some ⟨o.ctl, triDest o, o.cond != .none, true, [0]⟩
  | _, .math _ o => some ⟨o.ctl, .op o.dst, false, true, [0]⟩
  | _, _ => none

/-- Channel `c` of a computing instruction writes (R11, R60; R57: NoMask overrides a three-source instruction's ChanEn). -/
def Writes.enabled (w : Writes) (t : Thread) (off c : Nat) : Bool :=
  w.dst.enables w.ctl c && (if w.gated then writeEnable t w.ctl (off + c) else maskEnable t w.ctl (off + c))

/-- Byte `b` of the register file is in the destination of a channel that writes. -/
def Writes.covers (w : Writes) (t : Thread) (off b : Nat) : Prop :=
  ∃ c p z, c < w.ctl.exec.channels ∧ w.enabled t off c = true ∧ dstPlace t w.dst c = .ok (.grf p) ∧ z ∈ w.shifts ∧
    p + z ≤ b ∧ b < p + z + w.dst.ty.size

end Sys2Proof.Claims

/-- A computing instruction changes only the resident thread, and of it only (R96): bytes of general registers in the
destination of a channel that writes; the flag bits of those channels, if it has a condition that goes to the flag register;
the accumulator, with AccWrCtrl; the architecture register that is its destination (with `cr0`, what R545 sets off); and the
instruction pointers. -/
def Obligations.ComputingInstructionsWriteOnlyTheirDestination : Prop :=
  ∀ (i : Instr) (w : Writes) (s s' : State), computing (native i) = some w → exec i s = .next s' →
    ∃ off, channelOffset w.ctl true = .ok off ∧
      s' = { s with eu := s'.eu } ∧
      s'.eu = { s.eu with
        grf := s'.eu.grf, a0 := s'.eu.a0, acc := s'.eu.acc, flag := s'.eu.flag, sp := s'.eu.sp, sr0 := s'.eu.sr0
        cr0 := s'.eu.cr0, n0 := s'.eu.n0, ip := s'.eu.ip, tdr0 := s'.eu.tdr0, tm0 := s'.eu.tm0, dbg0 := s'.eu.dbg0
        pcip := s'.eu.pcip } ∧
      (∀ b, b < grfBytes → ¬ w.covers s.eu off b → grfByte s'.eu.grf b = grfByte s.eu.grf b) ∧
      (w.dst.archReg ≠ some 3 → ∀ r b,
        ¬ (w.toFlags = true ∧ r = w.ctl.flagReg.toNat ∧
          ∃ c, c < w.ctl.exec.channels ∧ w.enabled s.eu off c = true ∧ b = flagBase w.ctl + off + c) →
        (s'.eu.flag.getD r 0#32).getLsbD b = (s.eu.flag.getD r 0#32).getLsbD b) ∧
      (w.dst.archReg ≠ some 2 → w.ctl.accWr = false → s'.eu.acc = s.eu.acc) ∧
      (w.dst.archReg ≠ some 1 → s'.eu.a0 = s.eu.a0) ∧ (w.dst.archReg ≠ some 6 → s'.eu.sp = s.eu.sp) ∧
      (w.dst.archReg ≠ some 7 → s'.eu.sr0 = s.eu.sr0) ∧ (w.dst.archReg ≠ some 8 → s'.eu.cr0 = s.eu.cr0) ∧
      (w.dst.archReg ≠ some 9 → s'.eu.n0 = s.eu.n0) ∧ (w.dst.archReg ≠ some 0xB → s'.eu.tdr0 = s.eu.tdr0) ∧
      (w.dst.archReg ≠ some 0xC → s'.eu.tm0 = s.eu.tm0) ∧ (w.dst.archReg ≠ some 0xF → s'.eu.dbg0 = s.eu.dbg0)

namespace Sys2Proof.Claims

open Sys2Proof.Machine

/-- The bytes a `call` writes start here, if its destination is a general register (R129, R130). -/
def returnPlace (t : Thread) : Instr → Option Nat
  | .call o | .calla o =>
    match dstPlace t (.op { o.dst with ty := .ud }) 0 with
    | .ok (.grf p) => some p
    | _ => none
  | _ => none

/-- The instructions that transfer control, wait, do nothing or are illegal. -/
def transfers (i : Instr) : Bool :=
  match i, i.shape with
  | .wait _, _ => true
  | _, .br1 _ _ | _, .br2 _ _ | _, .nop _ | _, .illegal => true
  | _, _ => false

end Sys2Proof.Claims

/-- An instruction that transfers control changes only the thread's instruction pointers, but for: the two DWords of a
call's destination (R129, R130), the notification count and run state of `wait` (R134), and `cr0` of the illegal-opcode
exception (R544). -/
def Obligations.ControlTransfersMoveOnlyPointers : Prop :=
  ∀ (i : Instr) (s s' : State), transfers i = true → exec i s = .next s' →
    s' = { s with eu := { s.eu with
      ip := s'.eu.ip, pcip := s'.eu.pcip, grf := s'.eu.grf, cr0 := s'.eu.cr0, n0 := s'.eu.n0, run := s'.eu.run } } ∧
    (∀ b, b < grfBytes → (∀ p, returnPlace s.eu i = some p → b < p ∨ p + 8 ≤ b) →
      grfByte s'.eu.grf b = grfByte s.eu.grf b) ∧
    (i ≠ .illegal → s'.eu.cr0 = s.eu.cr0) ∧
    ((∀ o, i ≠ .wait o) → s'.eu.n0 = s.eu.n0 ∧ s'.eu.run = s.eu.run)

namespace Sys2Proof.Claims

open Sys2Proof.Machine

/-- The messages that store nothing: reads, the fence, Null, the shared functions whose processing is open, the thread
spawner's. -/
def storesNothing : List (SendForm → Instr) :=
  [.sfidNull, .sfidSampler, .sfidVme, .sfidPixelInterp, .sfidCre, .sfidSpawner, .sfidReadOnly, .tsDereference, .tsSpawn,
   .mt0rB, .mt0rAb, .mt0rOwdb, .mt0rDws, .mt0rBs, .mt0Memfence, .mt1rT, .mt1rUs, .mt1rMb, .mt1rTs, .mt1rA64Sb,
   .mt1rA64Us, .mt1rA64B] ++
  [.mt2rUs, .mt2rA64Sb, .mt2rA64Us, .mt2rBs, .mtCcOwb, .mtCcOwub, .mtCcOwdb, .mtCcDws, .mtScOwub, .mtScMb, .mtRsi,
   .mtRtr]

end Sys2Proof.Claims

/-- A send changes of its thread only the instruction pointers, the run state and the group it leaves at its end, the count a
barrier notifies, and the URB handle it gives up; of the machine only memory (and what the model remembers of its stores), the
on-chip stores, groups, the other threads' counts and dependencies, the pending responses, the live media threads and the
threads to be spawned. A message that stores nothing leaves memory and the stores as they were, and one that does not end its
thread only adds its response (R135, R12: registers change when the response arrives), but for the fence, the spawn request and
the URB handle (R27, R221). -/
def Obligations.MessagesChangeOnlyWhatTheySend : Prop :=
  (∀ (i : Instr) (f : SendForm) (s s' : State), i.shape = .send f → exec i s = .next s' →
    s' = { s with
      eu := { s.eu with
        ip := s'.eu.ip, pcip := s'.eu.pcip, run := s'.eu.run, group := s'.eu.group, n0 := s'.eu.n0
        urbHandle := s'.eu.urbHandle }
      parked := s'.parked, groups := s'.groups, mem := s'.mem, urb := s'.urb, pending := s'.pending
      stores := s'.stores, media := { s.media with live := s'.media.live, spawns := s'.media.spawns } } ∧
    s'.parked.map (fun t => (t.tid, t.grf, t.flag, t.acc, t.ip, t.cr0)) =
      s.parked.map (fun t => (t.tid, t.grf, t.flag, t.acc, t.ip, t.cr0)) ∧
    (s'.urb = s.urb ∨ f.sfid = .urb ∨ i = .sfidUrb f) ∧
    ((s'.media.spawns = s.media.spawns ∧ s'.eu.urbHandle = s.eu.urbHandle) ∨ f.sfid = .spawner ∨
      i = .sfidSpawner f ∨ i = .tsSpawn f ∨ i = .tsDereference f)) ∧
  (∀ mk ∈ storesNothing, ∀ (f : SendForm) (s s' : State), exec (mk f) s = .next s' →
    s'.mem = s.mem ∧ s'.urb = s.urb ∧ (∀ g ∈ s'.groups, g ∈ s.groups) ∧
    (mk f ≠ .mt0Memfence f → s'.stores = s.stores) ∧
    (sendEot f = false →
      s' = { s with
        eu := { s.eu with ip := s'.eu.ip, pcip := s'.eu.pcip, urbHandle := s'.eu.urbHandle }
        pending := s'.pending, stores := s'.stores, media := { s.media with spawns := s'.media.spawns } } ∧
      ∃ l, s'.pending = s.pending ++ l ∧ l.length ≤ 1))

namespace Sys2Proof.Claims

open Sys2Proof.Machine

/-- An element of a storage: its offset and its bytes. -/
abbrev Element := Space × Nat × Nat

/-- Byte `b` of graphics memory is a byte of an element that lies inside its storage. -/
def InMemory (e : Element) (b : Nat) : Prop :=
  match e.1 with
  | .memory base size _ => e.2.1 + e.2.2 ≤ size ∧ base + e.2.1 ≤ b ∧ b < base + e.2.1 + e.2.2
  | .tiled u => e.2.1 + e.2.2 ≤ u.bytes ∧ ∃ k, k < e.2.2 ∧ b = tiledAddress u (e.2.1 + k)
  | .slm _ _ | .zero => False

/-- Byte `b` of the shared memory of group `id` is a byte of an element that lies inside it. -/
def InShared (e : Element) (id b : Nat) : Prop :=
  ∃ size, e.1 = .slm id size ∧ e.2.1 + e.2.2 ≤ size ∧ e.2.1 ≤ b ∧ b < e.2.1 + e.2.2

/-- The element of a surface at coordinates, if it is inside (R23, R438). -/
def texelElement (u : Surface) (x y r lod k : Nat) : Element :=
  if u.ty ≠ surfNull ∧ u.contains x y r lod k = true then
    (.memory (u.address x y r lod k) (min 16 (Config.texelSize u.format)) u.coherency, 0,
      min 16 (Config.texelSize u.format))
  else (.zero, 0, 0)

/-- The byte of a media block at (`x`, `y`), if it is inside the surface (R23, R238). -/
def mediaElement (u : Surface) (vlso : Nat) (x y : Int) : Element :=
  if u.ty = surfNull ∨ x < 0 ∨ x ≥ (u.rowBytes : Int) ∨ y < 0 ∨ y > (u.height : Int) then (.zero, 0, 0)
  else
    (.memory (u.byteAddress x.toNat
      (if (lineStride u vlso).1 = 0 then y.toNat else 2 * y.toNat + (lineStride u vlso).2)) 1 u.coherency, 0, 1)

/-- The DWords of the channels of a mask at each slot's address. -/
def channelElements (mask : Nat) (active : List Nat) (loc : Locator) : List Element :=
  active.flatMap fun i => (maskChannels mask).map fun jc =>
    ((loc i (4 * jc.2) 4).1, (loc i (4 * jc.2) 4).2, 4)

/-- One element of `n` bytes at each slot's address. -/
def slotElements (n : Nat) (active : List Nat) (loc : Locator) : List Element :=
  active.map fun i => ((loc i 0 n).1, (loc i 0 n).2, n)

/-- The storing messages and the elements each stores to: constructor, elements. -/
inductive StoreForm (s : State) (m : Msg) : (SendForm → Instr) → List Element → Prop
  | block (n half : Nat) (sp : Space) : owordCount (m.bits 8 3) = .ok (n, half) → blockSpace s m .shared = .ok sp →
      StoreForm s m .mt0wB ((List.range n).map fun j =>
        (sp.block (m.globalOffset * 16) (16 * n), m.globalOffset * 16 + 16 * j, 16))
  | dual (n : Nat) (sp : Space) : dualCount (m.bits 8 2) = .ok n → blockSpace s m .shared = .ok sp →
      StoreForm s m .mt0wOwdb ((plainActive m .s4x2).flatMap fun i => (List.range n).map fun e =>
        (dualBlock m sp n i, 16 * (m.globalOffset + (m.dw .s4x2 0 0 i).toNat) + 16 * e, 16))
  | dwords (sp : Space) : blockSpace s m .shared = .ok sp →
      StoreForm s m .mt0wDws (slotElements 4 (plainActive m (simd2 (m.bits 8 1)))
        (offsetLocator sp fun i => 4 * (m.globalOffset + (m.dw (simd2 (m.bits 8 1)) 0 0 i).toNat)))
  | bytes (n : Nat) (sp : Space) : dataSize (m.bits 10 2) = .ok n → blockSpace s m .shared = .ok sp →
      StoreForm s m .mt0wBs (slotElements n (plainActive m (simd2 (m.bits 8 1)))
        (offsetLocator sp fun i => m.globalOffset + (m.dw (simd2 (m.bits 8 1)) 0 0 i).toNat))
  | scaledBytes (n : Nat) (sp : Space) (addr : Nat → Nat) : dataSize (m.bits 10 2) = .ok n →
      scaledA32 s m (simd2 (m.bits 12 1)) 1 = .ok (sp, addr) →
      StoreForm s m .mt2wBs (slotElements n (plainActive m (simd2 (m.bits 12 1))) (offsetLocator sp addr))
  | untyped (mode : Simd) (rd wr : SendForm → Instr) (active : List Nat) (addr : Nat → Nat) (loc : Locator) (k : Nat) :
      simd3 (m.bits 12 2) = .ok mode → UntypedForm s m mode rd wr active addr loc k →
      StoreForm s m wr (channelElements (m.bits 8 4) active loc)
  | elements (z : ElementSize) (rd wr : SendForm → Instr) (nc : Bool) (addr : Nat → Nat) (k : Nat) :
      elementSize (m.bits 8 2) = .ok z → ElementForm m z rd wr nc addr k →
      StoreForm s m wr ((plainActive m (simd2 (m.bits 12 1))).flatMap fun i => (List.range (2 ^ m.bits 10 2)).map fun e =>
        ((a64Locator nc addr i (e * z.bytes) z.bytes).1, (a64Locator nc addr i (e * z.bytes) z.bytes).2, z.bytes))
  | scratch (sp : Space) : m.bits 17 2 = 3 → statelessSpace s false m.bufferBase m.scratch 0 = .ok sp →
      StoreForm s m .sfidDp0 ((scratchCells m).map fun e =>
        (scratchBlockOf m sp, 32 * m.bits 0 12 + 32 * e.1 + 4 * e.2, 4))
  | a64Block (nc : Bool) (n half : Nat) : m.bits 11 2 ≤ 1 → a64Index m = .ok nc → owordCount (m.bits 8 3) = .ok (n, half) →
      StoreForm s m .mt1wA64B ((List.range n).map fun j =>
        (a64Space nc (qword m.first 0).toNat (16 * n), 16 * j, 16))
  | a64Dual (nc : Bool) (n : Nat) : m.bits 11 2 = 2 → a64Index m = .ok nc → a64DualCount (m.bits 8 3) = .ok n →
      StoreForm s m .mt1wA64B ((plainActive m .s4x2).flatMap fun i => (List.range n).map fun e =>
        (a64Space nc (qword m.first i).toNat (16 * n), 16 * e, 16))
  | a64Hwords (nc : Bool) (n : Nat) : m.bits 11 2 = 3 → a64Index m = .ok nc → a64HwordCount (m.bits 8 3) = .ok n →
      StoreForm s m .mt1wA64B [(a64Space nc (qword m.first 0).toNat (32 * n), 0, 32 * n)]
  | untypedAtomic (mk : SendForm → Instr) (op : Msg → Atomic) (md : Msg → Simd) (sp : Space) (u : Option Surface) :
      (mk, op, md) ∈ untypedAtomics → untypedSpace s m = .ok (sp, u) →
      StoreForm s m mk (slotElements (untypedLayout (op m)).bytes (untypedActive m (md m))
        (offsetLocator sp (untypedOffset m (md m) u)))
  | a64Atomic (mk : SendForm → Instr) (op : Msg → Atomic) (mode : Simd) (wide : Msg → Bool) (nc : Bool) :
      (mk, op, mode, wide) ∈ a64Atomics → a64Index m = .ok nc →
      StoreForm s m mk (slotElements (a64Layout (wide m) (op m)).bytes (plainActive m mode)
        (a64Locator nc fun i => (m.qw mode 0 i).toNat))
  | typedAtomic (mk : SendForm → Instr) (mode : Simd) (u : Surface) :
      mk = Instr.mt1aTa ∧ mode = .s8 ∨ mk = Instr.mt1aTa4x2 ∧ mode = .s4x2 → surfaceTarget s m .typed = .ok u →
      StoreForm s m mk (slotElements (untypedLayout (intOp m)).bytes (typedActive m mode (atomicGroup m mode))
        (typedLocator m u mode))
  | counter (mk : SendForm → Instr) (mode : Simd) (u : Surface) :
      mk = Instr.mt1aTc ∧ mode = .s8 ∨ mk = Instr.mt1aTc4x2 ∧ mode = .s4x2 → surfaceTarget s m .typed = .ok u →
      StoreForm s m mk (if u.ty = surfNull then [] else [(.memory (Machine.counterAddress u) 8 u.coherency, 0,
        (untypedLayout (intOp m)).bytes)])
  | typed (mode : Simd) (group : Nat) (u : Surface) : slotGroup3 m = .ok (mode, group) →
      surfaceTarget s m .typed = .ok u →
      StoreForm s m .mt1wTs ((typedActive m mode group).map fun i =>
        texelElement u (typedAt m u mode i).x (typedAt m u mode i).y (typedAt m u mode i).r (typedAt m u mode i).lod
          (typedAt m u mode i).sample)
  | media (u : Surface) (c : BlockControl) (w h : Nat) : surfaceTarget s m .media = .ok u → c = blockControl m →
      (c.mode = 1 ∧ w = 32 ∧ h = 4 ∨ c.mode ≠ 1 ∧ w = c.w ∧ h = c.h) →
      StoreForm s m .mt1wMb ((blockCells w h).map fun e =>
        mediaElement u (m.bits 8 3) ((dword m.header 0).toInt + e.2) ((dword m.header 1).toInt + e.1))
  | renderTarget (mk : SendForm → Instr) (u : Surface) (r : RtMessage) (en : BitVec 16) : mk ∈ renderWrites →
      rtMessage m = .ok r → rtSurface s m = .ok u → rtEnables s m r.group = .ok en →
      StoreForm s m mk ((renderSamples s m u r en).map fun e =>
        let p := rtPosition s m r.group (r.kind.pixel e.1)
        let at_ := rtCoords u p.1 p.2 (rtArrayIndex u m.rtControl)
        texelElement u at_.1 at_.2.1 at_.2.2 u.mip e.2)

end Sys2Proof.Claims

/-- A storing message changes no byte of graphics memory, and no byte of shared memory, outside the elements that its
descriptor, header and address payload select, each as far as it lies inside its storage (R20 to R25, R183, R230,
R436); the addresses are those the message's meaning computes. The control fields' positions are the family's (log
23), and that a render target write leaves all other memory alone, depth and stencil buffers too, is the model's
choice (log 24). -/
def Obligations.StoresChangeOnlyTheirElements : Prop :=
  ∀ (f : SendForm) (s s' : State) (m : Msg) (base : Option Nat) (mk : SendForm → Instr) (es : List Element),
    Issues f s m base → StoreForm s m mk es → exec (mk f) s = .next s' →
    (∀ b, (∀ e ∈ es, ¬ InMemory e b) → Memory.read s'.mem b = Memory.read s.mem b) ∧
    (sendEot f = false → ∀ id b, (∀ e ∈ es, ¬ InShared e id b) →
      Store.read (Config.slmFill id) (s'.slmOf id) b = Store.read (Config.slmFill id) (s.slmOf id) b)

/-! ## Printed tables -/

/-- The integer atomic operations compute and return what R181 and R182 print: increment, the two decrements (one of which
returns the new value), and compare-and-write, on one data element or on two taken together; other codes are none of these
(reserved in those tables). What an increment past the last value or a decrement below 0 stores is not in those rules (D21:
modulo 2^w) and not part of this. -/
def Obligations.AtomicOperationsFollowTheirTables : Prop :=
  ∀ w old a b : Nat, old < 2 ^ w →
    (old + 1 < 2 ^ w → intResult 0x5 w old a b = old + 1) ∧ intReturn 0x5 w old a b = old ∧
    (0 < old → intResult 0x6 w old a b = old - 1) ∧ intReturn 0x6 w old a b = old ∧
    (0 < old → intResult 0xF w old a b = old - 1) ∧ intReturn 0xF w old a b = intResult 0xF w old a b ∧
    intResult 0x0 w old a b = (if a = old then b else old) ∧ intReturn 0x0 w old a b = old ∧
    (untypedLayout (.int 0x0)).bytes = 2 * (untypedLayout (.int 0xE)).bytes ∧
    (∀ wide, (a64Layout wide (.int 0x0)).bytes = 2 * (a64Layout wide (.int 0xE)).bytes) ∧
    intResult 0xE w old a b = (if a = old then b else old) ∧ intReturn 0xE w old a b = old ∧
    (∀ op, (Atomic.int op).sources = .ok 0 ↔ op = 0x5 ∨ op = 0x6 ∨ op = 0xF) ∧
    (∀ op, (Atomic.int op).sources = .ok 2 ↔ op = 0x0 ∨ op = 0xE)

/-- The fields of a message descriptor select what their rules list: data size (R190), SIMD mode (R207 to R209),
blocks of an A64 HWord message (R171) and the channels of an untyped write (R222); the fields for fewer modes list
those only (R217 to R219). A value those rules print as reserved stops the message (R1); R216 to R219 are fields of no
message the sources list (log 31). -/
def Obligations.ControlFieldsSelectWhatTheyList : Prop :=
  (dataSize 0 = .ok 1 ∧ dataSize 1 = .ok 2 ∧ dataSize 2 = .ok 4 ∧ ∃ r, dataSize 3 = .error (.refuse r)) ∧
  (simd2 0 = .s8 ∧ simd2 1 = .s16 ∧ simd2R 0 = .s16 ∧ simd2R 1 = .s8 ∧ Simd.slots .s8 = 8 ∧ Simd.slots .s16 = 16) ∧
  (simd2RS 1 = .ok .s8 ∧ (∃ r, simd2RS 0 = .error (.refuse r)) ∧ simd2S 0 = .ok .s8 ∧ (∃ r, simd2S 1 = .error (.refuse r)) ∧
    simd3S 0 = .ok .s4x2 ∧ simd3S 2 = .ok .s8 ∧ ∀ c, c = 1 ∨ c = 3 → ∃ r, simd3S c = .error (.refuse r)) ∧
  (simd3 0 = .ok .s4x2 ∧ simd3 1 = .ok .s16 ∧ simd3 2 = .ok .s8 ∧ ∃ r, simd3 3 = .error (.refuse r)) ∧
  (a64HwordCount 1 = .ok 1 ∧ a64HwordCount 2 = .ok 2 ∧ a64HwordCount 3 = .ok 4 ∧ a64HwordCount 4 = .ok 8 ∧
    ∀ c, c = 0 ∨ 4 < c → ∃ r, a64HwordCount c = .error (.refuse r)) ∧
  ((maskChannels 0).map (·.2) = [0, 1, 2, 3] ∧ (maskChannels 8).map (·.2) = [0, 1, 2] ∧
    (maskChannels 12).map (·.2) = [0, 1] ∧ (maskChannels 14).map (·.2) = [0] ∧
    ∀ c, (∃ u, checkWriteMask c = .ok u) ↔ c = 0 ∨ c = 8 ∨ c = 12 ∨ c = 14)

/-- The integer operations with one source compute and return what R180 prints, on values of the operation's width; what a sum
or difference out of range stores (D21: modulo 2^w), and that the first two of the four maxima and minima compare signed values,
which is an inference of the spec's, are not part of this: they are stated where signed and unsigned agree. Other codes are none
of these. -/
def Obligations.BinaryAtomicsFollowTheirTable : Prop :=
  ∀ w old a b : Nat, old < 2 ^ w → a < 2 ^ w →
    intResult 0x1 w old a b = old &&& a ∧ intResult 0x2 w old a b = old ||| a ∧ intResult 0x3 w old a b = old ^^^ a ∧
    intResult 0x4 w old a b = a ∧ (old + a < 2 ^ w → intResult 0x7 w old a b = old + a) ∧
    (a ≤ old → intResult 0x8 w old a b = old - a) ∧ (old ≤ a → intResult 0x9 w old a b = a - old) ∧
    (old < 2 ^ (w - 1) → a < 2 ^ (w - 1) →
      intResult 0xA w old a b = max old a ∧ intResult 0xB w old a b = min old a) ∧
    intResult 0xC w old a b = max old a ∧ intResult 0xD w old a b = min old a ∧
    (∀ op, (Atomic.int op).sources = .ok 1 ↔ op ∈ [0x1, 0x2, 0x3, 0x4, 0x7, 0x8, 0x9, 0xA, 0xB, 0xC, 0xD]) ∧
    (∀ op, (Atomic.int op).sources = .ok 1 → intReturn op w old a b = old)

/-! ## Interrupts, engines, blitter, dispatch -/

namespace Sys2Proof.Claims

open Sys2Proof.Machine

/-- It is the outside world's turn (R593) and `e` is the input at the head of the row; `u` is the machine without it. -/
def EventActs (s u : State) (e : HostEvent) : Prop :=
  s.turn = some .input ∧ ∃ rest, s.inputs = e :: rest ∧ u = { s with inputs := rest }

/-- The registers of an interrupt group (R575). -/
def groupOf (s : State) : IrqGroup → Irq
  | .engine e => (s.engine e).irq
  | .display u => s.dev.group u

/-- The state with the registers of an interrupt group replaced. -/
def withGroup (s : State) (g : IrqGroup) (q : Irq) : State :=
  match g with
  | .engine e => s.setEngine e { s.engine e with irq := q }
  | .display u => { s with dev := s.dev.setGroup u q }

/-- The conditions that a group sees of those the outside world reports: those of its sources, which an engine's own mask lets
out (R549). -/
def seenBy (s : State) (g : IrqGroup) (c : DWord) : DWord :=
  match g with
  | .engine e => c &&& g.sources &&& ~~~(s.engine e).engineMask
  | .display _ => c &&& g.sources

/-- `t` is `s` with new registers of a group; if a status bit of an engine changes that HWSTAM does not mask, the hardware status
page's first DWord takes the status (R574). -/
def Published (s t : State) (g : IrqGroup) (q : Irq) : Prop :=
  match g with
  | .display _ => t = withGroup s g q
  | .engine e =>
    if ((s.engine e).irq.isr ^^^ q.isr) &&& ~~~(s.engine e).hwstam = 0#32 then t = withGroup s g q
    else
      t = { withGroup s g q with mem := t.mem, stores := t.stores } ∧
      (Memory.wf s.mem = true → Memory.readLE t.mem (s.engine e).hwsPga.toNat 4 = q.isr.toNat) ∧
      ∀ a, a < (s.engine e).hwsPga.toNat ∨ (s.engine e).hwsPga.toNat + 4 ≤ a → Memory.read t.mem a = Memory.read s.mem a

end Sys2Proof.Claims

/-- The registers of an interrupt group, an engine's or a display unit's, follow the step of R576 bit by bit. A condition's
rising edge latches where it is not masked, a second one in the hidden bit; its end changes the status alone, which goes to the
status page (R574). A write of 1 to IIR clears, or uses up the second; IMR and IER take what is written, but for the bits of
future steppings (93 section 1.2; which bits these are, and which conditions the outside world can raise, is log 58's reading of
the tables). Nothing else of the machine changes but by the passing of time. The host is interrupted exactly when the master
enable lets out a bit that is latched and enabled (R549, R576). -/
def Obligations.InterruptGroupsLatchAndClear : Prop :=
  (∀ (s u : State) (g : IrqGroup) (r : IrqReg) (v : DWord) (q : Irq),
    EventActs s u (.writeIrq g r v) → q = groupOf u g → ∃ q',
      Machine.step s = .next (withGroup u g q').tick ∧ q'.isr = q.isr ∧
      (r = .imr → q' = { q with imr := q'.imr } ∧ ∀ b, b < 32 →
        q'.imr.getLsbD b = if g.futureBits.getLsbD b then q.imr.getLsbD b else v.getLsbD b) ∧
      (r = .ier → q' = { q with ier := q'.ier } ∧ ∀ b, b < 32 →
        q'.ier.getLsbD b = if g.futureBits.getLsbD b then q.ier.getLsbD b else v.getLsbD b) ∧
      (r = .iir → q'.imr = q.imr ∧ q'.ier = q.ier ∧ ∀ b, b < 32 → g.futureBits.getLsbD b = false →
        q'.iir.getLsbD b = (q.iir.getLsbD b && (!v.getLsbD b || q.iir2.getLsbD b)) ∧
        q'.iir2.getLsbD b = (q.iir2.getLsbD b && !v.getLsbD b))) ∧
  (∀ (s u : State) (g : IrqGroup) (v : DWord) (q : Irq), EventActs s u (.raise g v) → q = groupOf u g → ∃ q' t,
      Machine.step s = .next (State.tick t) ∧ Published u t g q' ∧ q'.imr = q.imr ∧ q'.ier = q.ier ∧ ∀ b, b < 32 →
        q'.isr.getLsbD b = (q.isr.getLsbD b || (seenBy u g v).getLsbD b) ∧
        q'.iir.getLsbD b =
          (q.iir.getLsbD b || ((seenBy u g v).getLsbD b && !q.isr.getLsbD b && !q.imr.getLsbD b)) ∧
        q'.iir2.getLsbD b =
          (q.iir2.getLsbD b || ((seenBy u g v).getLsbD b && !q.isr.getLsbD b && !q.imr.getLsbD b && q.iir.getLsbD b))) ∧
  (∀ (s u : State) (g : IrqGroup) (v : DWord), EventActs s u (.lower g v) → ∃ t,
      Machine.step s = .next (State.tick t) ∧
      Published u t g { groupOf u g with isr := (groupOf u g).isr &&& ~~~(v &&& g.sources) }) ∧
  (∀ s : State, s.hostInterrupt = true ↔ s.dev.masterEnable = true ∧
    ∃ g b, b < 32 ∧ (groupOf s g).iir.getLsbD b = true ∧ (groupOf s g).ier.getLsbD b = true)

namespace Sys2Proof.Claims

open Sys2Proof.Machine

/-- The inputs that a command brings to an engine's command streamer, and those the render and the blitter engine alone have
(R547, R585). -/
inductive CommandOf : EngineId → HostEvent → Prop
  | parse (e : EngineId) (h : DWord) (p : Bool) : CommandOf e (.parse e h p)
  | batch (e : EngineId) (p : Bool) : CommandOf e (.batch e p)
  | loadRegister (e : EngineId) (entry : QWord) (p : Bool) : CommandOf e (.loadRegister e entry p)
  | userInterrupt (e : EngineId) : CommandOf e (.userInterrupt e)
  | semaphoreWait (e : EngineId) : CommandOf e (.semaphoreWait e)
  | reportHead (e : EngineId) : CommandOf e (.reportHead e)
  | flushNotify (e : EngineId) (store : Option (Nat × QWord)) : CommandOf e (.flushNotify e store)
  | setContext (c : Context) : CommandOf .rcs (.setContext c)
  | vfeState (v : Vector DWord 8) : CommandOf .rcs (.vfeState v)
  | vertexBuffer (v : Vector DWord 4) : CommandOf .rcs (.vertexBuffer v)
  | dispatch (q : DispatchRequest) : q.child = false → CommandOf .rcs (.dispatch q)
  | writeBlitter (n : Fin 31) (v : DWord) : CommandOf .bcs (.writeBlitter n v)
  | blitImmediate (n : Fin 31) (v : DWord) (data : List Byte) : CommandOf .bcs (.blitImmediate n v data)

/-- The Client ID of a command header (R547). -/
def clientOf (h : DWord) : Nat := (h.extractLsb' 29 3).toNat

/-- Whether a faulting access waits for its translation (R548, R567): under Fault and Halt, and a recoverable one of a thread
under Fault and Stream; else the engine is stuck. -/
def FaultWaits (v : Engine) (source : FaultSource) (recoverable : Bool) : Prop :=
  v.faultMode = 1 ∨ v.faultMode = 2 ∧ recoverable = true ∧ ∃ tid, source = .thread tid

end Sys2Proof.Claims

/-- An engine without a context, and one that is stuck or waits, does nothing with a command (R547, R548, R585). A command of an
unsupported client is an Instruction Error: the engine is stuck; a privileged one in a non-privileged batch sets error bit 2 and
has no effect (R550). An error sets its status bit, and where the error mask lets it, its error bit and the Master Error
condition; a write of 1 clears all but the Instruction Error (R547, R557, R573, R582, R583). An access that faults waits for its
translation, or its engine is stuck and the Page Fault interrupt is latched (R548, R561, R567); a thread whose access waits does
not run. The masks' order is log 43's, and that a stuck engine does nothing log 58's. -/
def Obligations.EnginesReportErrorsAndFaults : Prop :=
  (∀ (s u : State) (e : EngineId) (ev : HostEvent), CommandOf e ev → EventActs s u ev →
    ((u.engine e).ccid = none ∨ (u.engine e).stuck = true ∨ (u.engine e).semaphoreWaiting = true ∨
      ∃ f ∈ (u.engine e).faults, f.source = .streamer) →
    Machine.step s = .next u.tick) ∧
  (∀ (s u : State) (e : EngineId) (h : DWord) (p : Bool), EventActs s u (.parse e h p) → (u.engine e).parses = true →
    (clientOf h ∉ [0, 2, 3] → ∃ t, Machine.step s = .next (State.tick t) ∧
      (t.engine e).stuck = true ∧ (t.engine e).esr = (u.engine e).esr ||| 1#32 ∧
      (t.engine e).eir = (u.engine e).eir ||| (1#32 &&& ~~~(u.engine e).emr) ∧
      ((u.engine e).emr.getLsbD 0 = true → t = u.setEngine e (t.engine e) ∧ (t.engine e).irq = (u.engine e).irq) ∧
      ((u.engine e).emr.getLsbD 0 = false → (u.engine e).engineMask &&& e.errorBit = 0#32 →
        (t.engine e).irq.isr = (u.engine e).irq.isr ||| e.errorBit)) ∧
    (clientOf h = 0 → p = true → (u.engine e).batchPrivileged = false → ∃ t, Machine.step s = .next (State.tick t) ∧
      (t.engine e).stuck = false ∧ (t.engine e).esr = (u.engine e).esr ||| 4#32 ∧
      (t.engine e).eir = (u.engine e).eir ||| (4#32 &&& ~~~(u.engine e).emr))) ∧
  (∀ (s u : State) (e : EngineId) (v : QWord), EventActs s u (.writeEngine e .eir v) →
    (v.setWidth 32 &&& ~~~e.errorBits = 0#32 → ∃ t, Machine.step s = .next (State.tick t) ∧
      (∀ b, b < 32 → (t.engine e).eir.getLsbD b = ((u.engine e).eir.getLsbD b && (b == 0 || !v.getLsbD b)) ∧
        (t.engine e).esr.getLsbD b = ((u.engine e).esr.getLsbD b && (b == 0 || !v.getLsbD b))) ∧
      (t.engine e).emr = (u.engine e).emr ∧ (t.engine e).stuck = (u.engine e).stuck ∧
      ((t.engine e).eir = 0#32 → (t.engine e).irq.isr = (u.engine e).irq.isr &&& ~~~e.errorBit)) ∧
    (v.setWidth 32 &&& ~~~e.errorBits ≠ 0#32 → ∃ r, Machine.step s = .refused r)) ∧
  (∀ (s u : State) (e : EngineId) (source : FaultSource) (recoverable : Bool),
    EventActs s u (.pageFault e source recoverable) → e = .rcs ∨ source = .streamer →
    ∃ t, Machine.step s = .next (State.tick t) ∧
      (t.engine e).faults = (u.engine e).faults ++ [⟨((u.engine e).ccid.map contextId).getD 0#32, source⟩] ∧
      (FaultWaits (u.engine e) source recoverable → t = u.setEngine e { u.engine e with faults := (t.engine e).faults }) ∧
      (¬ FaultWaits (u.engine e) source recoverable → (t.engine e).stuck = true ∧
        (u.rcs.irq.isr.getLsbD 7 = false →
          u.dev.faultRepair = true ∨ u.rcs.engineMask.getLsbD 7 = false ∧ u.rcs.irq.imr.getLsbD 7 = false →
          t.rcs.irq.iir.getLsbD 7 = true))) ∧
  (∀ (s u : State) (e : EngineId) (f : PendingFault), EventActs s u (.faultFixed e f) →
    ((u.engine e).stuck = true → Machine.step s = .next u.tick) ∧
    ((u.engine e).stuck = false →
      Machine.step s = .next (State.tick (u.setEngine e { u.engine e with faults := (u.engine e).faults.erase f })))) ∧
  (∀ (s : State) (t : Thread), t.run = .running → (∃ f ∈ s.rcs.faults, f.source = .thread t.tid) → s.canAct t = false)

namespace Sys2Proof.Claims

open Sys2Proof.Machine

/-- The valid descriptors of a submission (R555, R565). -/
def submitted (d0 d1 : QWord) : List QWord := [d0, d1].filter fun d => d.getLsbD 0

/-- The contexts that follow a switch (R569): after a preemption the pending execlist; else the second element, else the
pending execlist. -/
def following (v : Engine) (why : SwitchReason) : List QWord :=
  if why = .preempted then v.pendingList
  else
    match v.execlist with
    | _ :: d :: _ => [d]
    | _ => v.pendingList

/-- The pages of a context and of an engine's status do not overlap. -/
def Apart (v : Engine) (d : QWord) : Prop :=
  v.hwsPga.toNat + 4096 ≤ contextPage d ∨ contextPage d + 4096 ≤ v.hwsPga.toNat

/-- The next of the six context status entries of the status page holds a low and a high DWord, and the page its index (R569,
R574). -/
def Reported (v : Engine) (m : Memory) (low high : DWord) : Prop :=
  let k := (v.csbLast + 1) % 6
  Memory.readLE m (v.hwsPga.toNat + 4 * (16 + 2 * k)) 4 = low.toNat ∧
  Memory.readLE m (v.hwsPga.toNat + 4 * (17 + 2 * k)) 4 = high.toNat ∧ Memory.readLE m (v.hwsPga.toNat + 124) 4 = k

/-- No agent but the outside world and the clock: no thread, response or group. -/
def NoThreads (t : State) : Prop :=
  t.eu.run = .absent ∧ t.parked = [] ∧ t.pending = [] ∧ t.groups = [] ∧ t.media.waiting = []

end Sys2Proof.Claims

/-- An execlist submitted to an idle engine starts its first context and is reported as a switch from idle; to a busy or a stuck
one it is pending (R555, R565, R569). A context switch saves the context that leaves, reports its ID and the reason, and makes the
next one current: the second element, else the pending execlist, after a preemption that (R18, R565, R569, R574); one that the
engine cannot make, or for which there is no reason, does nothing (R547, R567). A context is restored unless its address is the
last one's and Force Restore is not set (R565). A reset leaves an engine its reset values and no context, of the render engine no
thread, and memory as it was (R584, R585). The order of the entries (log 27), that a busy render engine is not switched before its
flush (log 58), what the saved state is and where it lies (log 54), and what a reset keeps (log 51), are the model's choices. -/
def Obligations.ExeclistsSwitchContexts : Prop :=
  (∀ (s u : State) (e : EngineId) (d0 d1 d : QWord) (rest : List QWord), EventActs s u (.submit e d0 d1) →
    submitted d0 d1 = d :: rest → (∀ x ∈ submitted d0 d1, checkDescriptor x = .ok ()) →
    ((u.engine e).stuck = false → (u.engine e).ccid = none → u.flushed e = true →
      ∃ t, Machine.step s = .next (State.tick t) ∧
        (t.engine e).ccid = some d ∧ (t.engine e).execlist = d :: rest ∧ (t.engine e).lrca = some (contextLrca d) ∧
        (t.engine e).csbLast = ((u.engine e).csbLast + 1) % 6 ∧
        (Memory.wf u.mem = true → Apart (u.engine e) d → Reported (u.engine e) t.mem 1#32 0#32) ∧
        ((u.engine e).restores d = false → (t.engine e).ringHead = (u.engine e).ringHead ∧ t.ctx = u.ctx) ∧
        (∀ i, (u.engine e).restores d = true → (u.engine e).images.find? (fun x => x.lrca == contextLrca d) = some i →
          (t.engine e).ringHead = i.ringHead ∧ (t.engine e).ringTail = i.ringTail ∧ (t.engine e).pdp = i.pdp ∧
          (e = .rcs → t.ctx = i.ctx))) ∧
    ((u.engine e).stuck = true ∨ (u.engine e).ccid ≠ none ∨ u.flushed e = false →
      ∃ t, Machine.step s = .next (State.tick t) ∧ (t.engine e).pendingList = d :: rest ∧
        (t.engine e).ccid = (u.engine e).ccid ∧ (t.engine e).execlist = (u.engine e).execlist)) ∧
  (∀ (s u : State) (e : EngineId) (why : SwitchReason), EventActs s u (.switchOut e why) → checkReason why = .ok () →
    (∀ cur, (u.engine e).ccid = some cur → (u.engine e).switches = true → (u.engine e).mayLeave why = true →
      u.flushed e = true →
      ∃ t, Machine.step s = .next (State.tick t) ∧
        (t.engine e).ccid = (following (u.engine e) why).head? ∧ (t.engine e).execlist = following (u.engine e) why ∧
        (t.engine e).csbLast = ((u.engine e).csbLast + 1) % 6 ∧ (t.engine e).semaphoreWaiting = false ∧
        (t.engine e).images.find? (fun x => x.lrca == contextLrca cur) = some (u.contextImage e (contextLrca cur)) ∧
        (Memory.wf u.mem = true → Apart (u.engine e) cur → (∀ d ∈ following (u.engine e) why, Apart (u.engine e) d) →
          ∃ low : DWord, low &&& why.bits = why.bits ∧ Reported (u.engine e) t.mem low (contextId cur))) ∧
    ((u.engine e).ccid = none ∨ (u.engine e).switches = false ∨ (u.engine e).mayLeave why = false ∨ u.flushed e = false →
      Machine.step s = .next u.tick)) ∧
  (∀ (s u : State) (e : EngineId), EventActs s u (.reset e) → ∃ t, Machine.step s = .next (State.tick t) ∧
    t.engine e = { Engine.reset e with images := (u.engine e).images } ∧ t.mem = u.mem ∧ t.urb = u.urb ∧
    (e = .rcs → NoThreads t) ∧ (e = .bcs → t.blt = Blitter.reset)) ∧
  (∀ s u : State, EventActs s u .resetAll → ∃ t, Machine.step s = .next (State.tick t) ∧ NoThreads t ∧
    (∀ e, t.engine e = { Engine.reset e with images := (u.engine e).images }) ∧ t.mem = u.mem ∧ t.urb = u.urb ∧
    t.blt = Blitter.reset ∧ t.ctx = Context.reset)

namespace Sys2Proof.Claims

open Sys2Proof.Machine

/-- `y` is the thread `x` after a response arrives (R135, R239, R246, R587): byte `b` of its `j`-th register is the response's, but
stays where the response does not write it, and may stay where an instruction has written it while the response was
pending; all else stays. -/
def Received (r : Response) (x y : Thread) : Prop :=
  y = { x with grf := y.grf } ∧
  (∀ g, g < 128 → g < r.base ∨ r.base + r.data.length ≤ g → y.reg g = x.reg g) ∧
  ∀ j v, r.data[j]? = some v → r.base + j < 128 → ∀ b, b < 32 →
    (v.keeps.getLsbD b = true → regByte (y.reg (r.base + j)) b = regByte (x.reg (r.base + j)) b) ∧
    (v.keeps.getLsbD b = false → r.raced.getLsbD (32 * (r.base + j) + b) = false →
      regByte (y.reg (r.base + j)) b = regByte v.value b) ∧
    (regByte (y.reg (r.base + j)) b = regByte v.value b ∨
      regByte (y.reg (r.base + j)) b = regByte (x.reg (r.base + j)) b)

/-- The threads of a state after a response arrives: its thread receives it, the others stay. -/
def Arrives (s t : State) (r : Response) : Prop :=
  t = { s with eu := t.eu, parked := t.parked, pending := t.pending } ∧
  (r.tid = s.eu.tid → t.parked = s.parked ∧ Received r s.eu t.eu) ∧
  (r.tid ≠ s.eu.tid → t.eu = s.eu ∧ t.parked.length = s.parked.length ∧
    ∀ (i : Nat) (x : Thread), s.parked[i]? = some x → ∃ y, t.parked[i]? = some y ∧
      (x.tid = r.tid → Received r x y) ∧ (x.tid ≠ r.tid → y = x))

end Sys2Proof.Claims

/-- When it is a response's turn, it writes its registers and is pending no more (R135). A thread whose instruction's registers
are busy does not execute it (R12, R50): a pending response of its own arrives, or another thread becomes the resident one. An
instruction waits only for a register it reads, or, without NoDDChk, writes, that is in the scoreboard or awaits a response (R12,
R50, R587). A thread that waits for a notification goes on when it has come (R134). That these are steps of their own, in an
order that a free choice gives, is the model's choice (log 38). -/
def Obligations.ResponsesArriveAndBlockedThreadsWait : Prop :=
  (∀ (s : State) (tid base : Nat), s.turn = some (.response tid base) →
    ∃ k r t, s.pending[k]? = some r ∧ r.tid = tid ∧ r.base = base ∧ Machine.step s = .next (State.tick t) ∧
      t.pending = s.pending.eraseIdx k ∧ Arrives s t r) ∧
  (∀ (s u : State) (w : BitVec 128) (i : Instr),
    ThreadActs s u → u.fetch = .ok w → decode w = .ok i → (debugBit w = false ∨ u.eu.suppressed = true) →
    u.blocked i = true →
    ∃ t, Machine.step s = .next (State.tick t) ∧
      ((∃ r ∈ u.pending, r.tid = u.eu.tid) → ∃ k r, u.pending[k]? = some r ∧ r.tid = u.eu.tid ∧
        t.pending = u.pending.eraseIdx k ∧ Arrives u t r) ∧
      ((∀ r ∈ u.pending, r.tid ≠ u.eu.tid) →
        (u.parked = [] → t = u) ∧
        ∀ x rest, u.parked = x :: rest → t = { u with eu := x, parked := rest ++ [u.eu] })) ∧
  (∀ (s : State) (i : Instr), s.blocked i = true → ∃ g, g < 128 ∧
    (s.eu.sb.getLsbD g = true ∨ ∃ r ∈ s.pending, r.tid = s.eu.tid ∧ r.base ≤ g ∧ g < r.base + r.data.length) ∧
    ((instrUse s.eu i).reads.getLsbD g = true ∨
      (depCtrl (operandShape i)).2 = false ∧ (instrUse s.eu i).writes.getLsbD g = true)) ∧
  (∀ (s u : State) (tid : Nat) (k : Fin 4), s.turn = some (.thread tid) → u = s.withThread tid →
    u.eu.run = .waiting k → u.eu.n0.get k ≠ 0#32 →
    Machine.step s = .next (State.tick { u with eu := { u.eu with run := .running } }))

/-- A write to BR27 of a blit of a solid colour at 32 bits per pixel, raster operation F0h (the pattern, R507), fills the
rectangle that the registers describe with the pattern's colour, changes no other byte, and leaves the blitter idle (R496,
R498, R499, R503, R506, R515); the destination of an X, Y blit is 64-byte aligned. The conventions the registers leave open are
log 29's. -/
def Obligations.SolidBlitFillsItsRectangle : Prop :=
  ∀ (s : State) (v : DWord) (b : Blit),
    v &&& blitterReserved 27 = 0#32 → s.blt.stuck = false →
    b = Blitter.blit { s.blt with br := s.blt.br.set 27 v } →
    b.bytes = 4 → b.depth = 3 → b.rop = 0xF0#8 → b.solid = true → b.clip = false → b.writeAlpha = true → b.writeRgb = true →
    b.dstTiled = false → b.colorSource = false → b.monoSource = false → b.colorPattern = false → b.monoPattern = false →
    b.transparency = 0 → 4 * (b.width : Int) ≤ b.dstPitch → b.dst + b.height * b.dstPitch.toNat ≤ s.bcs.limit →
    (b.isXy = true → b.dst % 64 = 0) →
    ∃ t, State.writeBr s 27 v [] = .ok t ∧
      (∀ x y k, x < b.width → y < b.height → k < 4 →
        Memory.read t.mem (b.dst + y * b.dstPitch.toNat + 4 * x + k) = b.patternBack.extractLsb' (8 * k) 8) ∧
      (∀ a, (∀ x y k, x < b.width → y < b.height → k < 4 → a ≠ b.dst + y * b.dstPitch.toNat + 4 * x + k) →
        Memory.read t.mem a = Memory.read s.mem a) ∧
      (t.blt.reg 0).getLsbD 31 = false ∧ t.blt.stuck = false ∧
      t = { s with mem := t.mem, stores := t.stores, blt := t.blt }

namespace Sys2Proof.Claims

open Sys2Proof.Machine

/-- A thread of a dispatch as it starts (R4, R10, R11, R484): running at the kernel, with the masks and the header of the
request, nothing busy, and `cr0` as the descriptor's controls say: Single Program Flow, the rounding mode, the denormal controls,
no ALT mode (R97), outside the system routine, and the three exception enables. -/
structure StartsAs (q : DispatchRequest) (d : Descriptor) (t : Thread) : Prop where
  run : t.run = .running
  ip : t.ip = d.kernel ∧ t.codeHigh = d.codeHigh ∧ ∀ g, g < 32 → t.pcip.getD g 0#32 = d.kernel
  masks : t.dmask = q.dmask ∧ t.vmask = q.vmask
  scoreboard : t.sb = 0#128
  header : t.reg 0 = q.header
  singleFlow : (t.cr0.getD 0 0#32).getLsbD 2 = d.singleFlow
  rounding : (t.cr0.getD 0 0#32).extractLsb' 4 2 = d.rounding
  denorm : (t.cr0.getD 0 0#32).getLsbD 7 = d.denorm
  alt : t.alt = false
  routine : t.inRoutine = false
  maskStack : (t.cr0.getD 1 0#32).getLsbD 11 = d.maskEnable
  illegalOpcode : (t.cr0.getD 1 0#32).getLsbD 12 = d.illegalEnable
  software : (t.cr0.getD 1 0#32).getLsbD 13 = d.softwareEnable

end Sys2Proof.Claims

/-- A media dispatch that nothing holds back adds one thread at the kernel its interface descriptor names, as the descriptor and
the request say (R10, R484), the header in r0 and the constants after it (R485). The dispatch of a group adds as many threads as
there is room for (R554), the first of them with a new group of its shared memory and barrier (R14, R15, R484), and the others
wait; later ones join the group. Of a group with a barrier all threads are dispatched together, or all wait. Every thread of a
group has the constants of all of them and those of its own (R485). That every thread of a request gets the same r0, the order of
the payload, the number of threads there is room for, and that a barrier group waits as a whole, are the model's choices
(log 39). -/
def Obligations.DispatchStartsItsThreads : Prop :=
  ∀ (s : State) (h : HeldDispatch) (q : DispatchRequest) (d : Descriptor), q = h.request → readDescriptor s h = .ok d →
    (q.gpgpu = false → 1 + d.readLength + q.payload.length ≤ 128 →
      ∃ t, s.dispatchNow h = .ok { s with
          parked := s.parked ++ [t], nextTid := s.nextTid + 1
          media := { s.media with live := s.media.live ++ [(q.x, q.y, s.nextTid)] } } ∧
        t.tid = s.nextTid ∧ t.group = none ∧ StartsAs q d t ∧
        (∀ k, k < d.readLength → t.reg (1 + k) = urbRowAt s (q.curbe + d.readOffset + k)) ∧
        (∀ k, k < q.payload.length → t.reg (1 + d.readLength + k) = q.payload.getD k 0#256)) ∧
    (q.gpgpu = true → 1 ≤ d.threads → (d.barrier = true → d.threads ≤ Config.threadsPerSubslice) →
      1 + d.crossLength + d.readLength + q.payload.length ≤ 128 →
      (d.barrier = false ∨ d.threads - h.first ≤ s.room →
        ∃ ts : List Thread, s.dispatchNow h = .ok { s with
            parked := s.parked ++ ts, nextTid := s.nextTid + ts.length
            groups := if h.group = none then s.groups ++ [⟨s.nextTid, d.slmSize, [], d.barrier, 0, d.threads⟩]
              else s.groups
            media := { s.media with waiting :=
              (if ts.length < d.threads - h.first then
                [⟨q, h.asked, h.first + ts.length, some (h.group.getD s.nextTid)⟩] else []) ++ s.media.waiting } } ∧
          ts.length = min (d.threads - h.first) s.room ∧
          ∀ n t, ts[n]? = some t →
            t.tid = s.nextTid + n ∧ t.group = some (h.group.getD s.nextTid) ∧ StartsAs q d t ∧
            (∀ k, k < d.crossLength → t.reg (1 + k) = urbRowAt s (q.curbe + d.readOffset + k)) ∧
            ∀ k, k < d.readLength → t.reg (1 + d.crossLength + k) =
              urbRowAt s (q.curbe + (d.readOffset + d.crossLength + d.readLength * (h.first + n)) + k)) ∧
      (d.barrier = true → s.room < d.threads - h.first →
        s.dispatchNow h = .ok { s with media := { s.media with waiting := h :: s.media.waiting } }))
end

