-- ==== Sys2Proof/Laws/Exec.lean ====
section
/-! SUPPORT. What a part of an instruction's meaning can answer: the inversion of `require`, `bind`, `outcome`, `sequence`
and of the address checks. -/

namespace Sys2Proof.Machine

/-- A condition that is required holds when the instruction goes on. -/
theorem require_eq_ok {b : Bool} {r : Refusal} {u : Unit} : require b r = .ok u ↔ b = true := by
  cases b <;> simp [require]

/-- Two parts in a row go on exactly when both do. -/
theorem Exec.bind_eq_ok {α β : Type} {x : Exec α} {f : α → Exec β} {b : β} :
    (x >>= f) = .ok b ↔ ∃ a, x = .ok a ∧ f a = .ok b := by
  cases x <;> simp [bind, Except.bind]

/-- A part that answers hands its answer on. -/
@[simp] theorem Exec.ok_bind {α β : Type} (a : α) (f : α → Exec β) : ((Except.ok a : Exec α) >>= f) = f a := rfl

/-- A part that stops stops what follows. -/
@[simp] theorem Exec.error_bind {α β : Type} (e : Stop) (f : α → Exec β) :
    ((Except.error e : Exec α) >>= f) = .error e := rfl

/-- The answer of a part. -/
@[simp] theorem Exec.pure_eq {α : Type} (a : α) : (pure a : Exec α) = .ok a := rfl

/-- A part whose answer is changed. -/
@[simp] theorem Exec.map_ok {α β : Type} (f : α → β) (a : α) : f <$> (Except.ok a : Exec α) = .ok (f a) := rfl

/-- A whole instruction has a next state exactly when its parts went on to it. -/
theorem Exec.outcome_eq_next {x : Exec State} {s : State} : x.outcome = .next s ↔ x = .ok s := by
  cases x with
  | ok a => simp [Exec.outcome]
  | error e => cases e <;> simp [Exec.outcome]

/-- The outcome of an answer. -/
@[simp] theorem Exec.outcome_ok (s : State) : Exec.outcome (.ok s) = .next s := rfl

/-- A list of parts that all answer. -/
theorem sequence_map_ok {α β : Type} (f : α → Exec β) (g : α → β) :
    ∀ l : List α, (∀ a ∈ l, f a = .ok (g a)) → sequence (l.map f) = .ok (l.map g)
  | [], _ => rfl
  | a :: l, h => by
    have ha := h a (by simp)
    have ih := sequence_map_ok f g l fun b hb => h b (by simp [hb])
    simp [sequence, ha, ih]

/-- The answers of a list of parts, one by one. -/
theorem sequence_eq_ok {α : Type} : ∀ {l : List (Exec α)} {as : List α}, sequence l = .ok as →
    l = as.map .ok
  | [], as, h => by
    simp [sequence] at h
    simp [← h]
  | x :: xs, as, h => by
    cases x with
    | error e => simp [sequence] at h
    | ok a =>
      cases hs : sequence xs with
      | error e => simp [sequence, hs] at h
      | ok bs =>
        simp [sequence, hs] at h
        simp [← h, ← sequence_eq_ok hs]

/-- As many answers as parts. -/
theorem sequence_length {α : Type} {l : List (Exec α)} {as : List α} (h : sequence l = .ok as) :
    as.length = l.length := by
  rw [sequence_eq_ok h, List.length_map]

/-- R38, R568: an access that goes on is below its limit. -/
theorem checkBelow_eq_ok {limit a n : Nat} {u : Unit} : checkBelow limit a n = .ok u ↔ a + n ≤ limit := by
  by_cases h : a + n ≤ limit <;> simp [checkBelow, h]

/-- R38: an access that goes on is inside the address space. -/
theorem checkAddress_eq_ok {a n : Nat} {u : Unit} : checkAddress a n = .ok u ↔ a + n ≤ addressLimit :=
  checkBelow_eq_ok

/-- R9: the next instruction's address, when there is one. -/
theorem nextIp_eq_ok {ip a : DWord} {len : Nat} :
    nextIp ip len = .ok a ↔ ip.toNat + len < 2 ^ 32 ∧ a = BitVec.ofNat 32 (ip.toNat + len) := by
  simp [nextIp, Exec.bind_eq_ok, require_eq_ok, @eq_comm _ a]

/-- R9, R99: a branch target, when there is one, is inside the 2^32 space and a multiple of 8. -/
theorem branchTarget_eq_ok {base a : DWord} {off : Int} :
    branchTarget base off = .ok a ↔
      (0 ≤ (base.toNat : Int) + off ∧ (base.toNat : Int) + off < 2 ^ 32 ∧ ((base.toNat : Int) + off) % 8 = 0) ∧
        a = BitVec.ofInt 32 ((base.toNat : Int) + off) := by
  simp [branchTarget, Exec.bind_eq_ok, require_eq_ok, @eq_comm _ a, and_assoc]

/-- R96: a thread that goes past its instruction. -/
theorem Thread.advance_eq_ok {t u : Thread} {len : Nat} :
    t.advance len = .ok u ↔
      t.ip.toNat + len < 2 ^ 32 ∧ u = t.goto (BitVec.ofNat 32 (t.ip.toNat + len)) := by
  simp [Thread.advance, Exec.bind_eq_ok, nextIp_eq_ok, @eq_comm _ u, and_assoc]

end Sys2Proof.Machine
end

