-- ==== Sys2Proof/Laws/Memory.lean ====
section
/-! SUPPORT. Graphics memory and the on-chip stores: a read after a write, the canonical form kept by every write, and the
numbers read back after they are stored. -/

namespace Sys2Proof.Machine

/-! ### Graphics memory -/

/-- The canonical form from an address is the canonical form from a lower one. -/
theorem Memory.wfFrom_mono {lo lo' : Nat} (h : lo' ≤ lo) : ∀ {m : Memory}, Memory.wfFrom lo m = true →
    Memory.wfFrom lo' m = true
  | [], _ => rfl
  | (k, v) :: t, hm => by
    simp only [Memory.wfFrom, Bool.and_eq_true, decide_eq_true_eq] at hm ⊢
    exact ⟨⟨⟨by omega, hm.1.1.2⟩, hm.1.2⟩, hm.2⟩

/-- Below its first possible address a canonical memory lists nothing. -/
theorem Memory.read_below {a : Nat} : ∀ {lo : Nat} {m : Memory}, Memory.wfFrom lo m = true → a < lo →
    Memory.read m a = memoryFill
  | _, [], _, _ => rfl
  | lo, (k, v) :: t, hm, h => by
    simp only [Memory.wfFrom, Bool.and_eq_true, decide_eq_true_eq] at hm
    have : a ≠ k := by omega
    simp [Memory.read, this, Memory.read_below (a := a) hm.2 (by omega)]

/-- A write keeps the canonical form. -/
theorem Memory.wfFrom_write {a : Nat} {v : Byte} (ha : a < addressLimit) : ∀ {lo : Nat} {m : Memory},
    lo ≤ a → Memory.wfFrom lo m = true → Memory.wfFrom lo (Memory.write m a v) = true
  | lo, [], hl, _ => by
    by_cases hv : v = memoryFill <;> simp [Memory.write, hv, Memory.wfFrom, hl, ha]
  | lo, (k, w) :: t, hl, hm => by
    simp only [Memory.wfFrom, Bool.and_eq_true, decide_eq_true_eq] at hm
    obtain ⟨⟨⟨h1, h2⟩, h3⟩, h4⟩ := hm
    unfold Memory.write
    split
    · rename_i hk
      split
      · simp [Memory.wfFrom, h1, h2, h3, h4]
      · rename_i hv
        have : a + 1 ≤ k := hk
        simp [Memory.wfFrom, hl, ha, hv, this, h2, h3, h4]
    · split
      · rename_i hk
        subst hk
        split
        · exact Memory.wfFrom_mono (by omega) h4
        · rename_i hv
          simp [Memory.wfFrom, h1, h2, hv, h4]
      · rename_i hlt hne
        have : k + 1 ≤ a := by omega
        simp [Memory.wfFrom, h1, h2, h3, Memory.wfFrom_write ha this h4]

/-- A write keeps the canonical form of graphics memory. -/
theorem Memory.wf_write {m : Memory} {a : Nat} {v : Byte} (hm : Memory.wf m = true) (ha : a < addressLimit) :
    Memory.wf (Memory.write m a v) = true :=
  Memory.wfFrom_write ha (Nat.zero_le a) hm

/-- Storing a number keeps the canonical form. -/
theorem Memory.wf_writeLE : ∀ {n : Nat} {m : Memory} {a v : Nat}, Memory.wf m = true → a + n ≤ addressLimit →
    Memory.wf (Memory.writeLE m a v n) = true
  | 0, _, _, _, hm, _ => hm
  | n + 1, m, a, v, hm, ha =>
    Memory.wf_writeLE (n := n) (Memory.wf_write hm (by omega)) (by omega)

/-- Storing bytes keeps the canonical form. -/
theorem Memory.wf_writeBytes : ∀ {bs : List Byte} {m : Memory} {a : Nat}, Memory.wf m = true →
    a + bs.length ≤ addressLimit → Memory.wf (Memory.writeBytes m a bs) = true
  | [], _, _, hm, _ => hm
  | b :: bs, m, a, hm, ha => by
    simp only [List.length_cons] at ha
    exact Memory.wf_writeBytes (bs := bs) (Memory.wf_write hm (by omega)) (by omega)

/-- Memory after a write, read where it was written. -/
theorem Memory.read_write_same {a : Nat} {v : Byte} : ∀ {lo : Nat} {m : Memory}, Memory.wfFrom lo m = true →
    Memory.read (Memory.write m a v) a = v
  | _, [], _ => by
    by_cases hv : v = memoryFill <;> simp [Memory.write, hv, Memory.read]
  | lo, (k, w) :: t, hm => by
    simp only [Memory.wfFrom, Bool.and_eq_true, decide_eq_true_eq] at hm
    obtain ⟨⟨⟨h1, h2⟩, h3⟩, h4⟩ := hm
    unfold Memory.write
    split
    · rename_i hk
      have hne : a ≠ k := by omega
      split
      · rename_i hv
        simp [Memory.read, hne, hv, Memory.read_below h4 (show a < k + 1 by omega)]
      · simp [Memory.read]
    · split
      · rename_i hk
        split
        · rename_i hv
          rw [hv]
          exact Memory.read_below h4 (by omega)
        · simp [Memory.read]
      · rename_i hlt hne
        simp [Memory.read, hne, Memory.read_write_same h4]

/-- Memory after a write, read elsewhere. -/
theorem Memory.read_write_other {a b : Nat} {v : Byte} (h : b ≠ a) : ∀ m : Memory,
    Memory.read (Memory.write m a v) b = Memory.read m b
  | [] => by
    by_cases hv : v = memoryFill <;> simp [Memory.write, hv, Memory.read, h]
  | (k, w) :: t => by
    unfold Memory.write
    split
    · split <;> simp [Memory.read, h]
    · split
      · rename_i hk
        have hb : b ≠ k := by omega
        split <;> simp [Memory.read, h, hb]
      · by_cases hb : b = k
        · simp [Memory.read, hb]
        · simp [Memory.read, hb, Memory.read_write_other h t]

/-- Memory after a number is stored, read outside it. -/
theorem Memory.read_writeLE_other : ∀ {n : Nat} {m : Memory} {a v b : Nat}, b < a ∨ a + n ≤ b →
    Memory.read (Memory.writeLE m a v n) b = Memory.read m b
  | 0, _, _, _, _, _ => rfl
  | n + 1, m, a, v, b, h => by
    rw [Memory.writeLE, Memory.read_writeLE_other (by omega), Memory.read_write_other (by omega)]

/-- Memory after bytes are stored, read outside them. -/
theorem Memory.read_writeBytes_other : ∀ {bs : List Byte} {m : Memory} {a b : Nat}, b < a ∨ a + bs.length ≤ b →
    Memory.read (Memory.writeBytes m a bs) b = Memory.read m b
  | [], _, _, _, _ => rfl
  | c :: bs, m, a, b, h => by
    simp only [List.length_cons] at h
    rw [Memory.writeBytes, Memory.read_writeBytes_other (by omega), Memory.read_write_other (by omega)]

/-- A number read reads only its own bytes. -/
theorem Memory.readLE_congr : ∀ {n : Nat} {m m' : Memory} {a : Nat},
    (∀ b, a ≤ b → b < a + n → Memory.read m b = Memory.read m' b) → Memory.readLE m a n = Memory.readLE m' a n
  | 0, _, _, _, _ => rfl
  | n + 1, m, m', a, h => by
    simp only [Memory.readLE]
    rw [h a (by omega) (by omega), Memory.readLE_congr (n := n) fun b h1 h2 => h b (by omega) (by omega)]

/-- R24: a number stored reads back, at its width. -/
theorem Memory.readLE_writeLE : ∀ {n : Nat} {m : Memory} {a v : Nat}, Memory.wf m = true → a + n ≤ addressLimit →
    Memory.readLE (Memory.writeLE m a v n) a n = v % 256 ^ n
  | 0, _, _, _, _, _ => by simp [Memory.readLE, Nat.mod_one]
  | n + 1, m, a, v, hm, ha => by
    have hw := Memory.wf_write (a := a) (v := BitVec.ofNat 8 v) hm (by omega)
    have ih := Memory.readLE_writeLE (n := n) (a := a + 1) (v := v / 256) hw (by omega)
    have h0 : Memory.read (Memory.writeLE m a v (n + 1)) a = BitVec.ofNat 8 v := by
      rw [Memory.writeLE, Memory.read_writeLE_other (by omega)]
      exact Memory.read_write_same hm
    rw [Memory.readLE, h0, Memory.writeLE, ih, pow_succ, Nat.mul_comm (256 ^ n) 256, Nat.mod_mul]
    simp

/-! ### On-chip stores -/

/-- Addresses that rise from an address rise from a lower one. -/
theorem Store.wfFrom_mono {lo lo' : Nat} (h : lo' ≤ lo) : ∀ {m : Store}, Store.wfFrom lo m = true →
    Store.wfFrom lo' m = true
  | [], _ => rfl
  | (k, v) :: t, hm => by
    simp only [Store.wfFrom, Bool.and_eq_true, decide_eq_true_eq] at hm ⊢
    exact ⟨by omega, hm.2⟩

/-- A write keeps the addresses rising. -/
theorem Store.wfFrom_write {a : Nat} {v : Byte} : ∀ {lo : Nat} {m : Store}, lo ≤ a →
    Store.wfFrom lo m = true → Store.wfFrom lo (Store.write m a v) = true
  | lo, [], hl, _ => by simp [Store.write, Store.wfFrom, hl]
  | lo, (k, w) :: t, hl, hm => by
    simp only [Store.wfFrom, Bool.and_eq_true, decide_eq_true_eq] at hm
    unfold Store.write
    split
    · rename_i hk
      have : a + 1 ≤ k := hk
      simp [Store.wfFrom, hl, this, hm.2]
    · split
      · rename_i hk
        subst hk
        simp [Store.wfFrom, hl, hm.2]
      · rename_i h1 h2
        have : k + 1 ≤ a := by omega
        simp [Store.wfFrom, hm.1, Store.wfFrom_write this hm.2]

/-- A write keeps an on-chip store's form. -/
theorem Store.wf_write {m : Store} {a : Nat} {v : Byte} (hm : Store.wf m = true) :
    Store.wf (Store.write m a v) = true :=
  Store.wfFrom_write (Nat.zero_le a) hm

/-- Storing a number keeps an on-chip store's form. -/
theorem Store.wf_writeLE : ∀ {n : Nat} {m : Store} {a v : Nat}, Store.wf m = true →
    Store.wf (Store.writeLE m a v n) = true
  | 0, _, _, _, hm => hm
  | n + 1, _, _, _, hm => Store.wf_writeLE (n := n) (Store.wf_write hm)

/-- A store after a write, read where it was written. -/
theorem Store.read_write_same {fill : Nat → Byte} {a : Nat} {v : Byte} : ∀ m : Store,
    Store.read fill (Store.write m a v) a = v
  | [] => by simp [Store.write, Store.read]
  | (k, w) :: t => by
    unfold Store.write
    split
    · simp [Store.read]
    · split
      · simp [Store.read]
      · rename_i h1 h2
        simp [Store.read, h2, Store.read_write_same t]

/-- A store after a write, read elsewhere. -/
theorem Store.read_write_other {fill : Nat → Byte} {a b : Nat} {v : Byte} (h : b ≠ a) : ∀ m : Store,
    Store.read fill (Store.write m a v) b = Store.read fill m b
  | [] => by simp [Store.write, Store.read, h]
  | (k, w) :: t => by
    unfold Store.write
    split
    · simp [Store.read, h]
    · split
      · rename_i hk
        have hb : b ≠ k := by omega
        simp [Store.read, h, hb]
      · by_cases hb : b = k
        · simp [Store.read, hb]
        · simp [Store.read, hb, Store.read_write_other h t]

/-- A store after a number is written, read outside it. -/
theorem Store.read_writeLE_other {fill : Nat → Byte} : ∀ {n : Nat} {m : Store} {a v b : Nat},
    b < a ∨ a + n ≤ b → Store.read fill (Store.writeLE m a v n) b = Store.read fill m b
  | 0, _, _, _, _, _ => rfl
  | n + 1, m, a, v, b, h => by
    rw [Store.writeLE, Store.read_writeLE_other (by omega), Store.read_write_other (by omega)]

end Sys2Proof.Machine
end

