-- ==== Sys2Proof/Laws/PerInstr.lean ====
section
/-! SUPPORT. What is true of every instruction, one lemma for each constructor. `WordLength` (R44, R55): bit 29 of an
instruction's word says whether it is compact; the forms first. -/

namespace Sys2Proof.Laws

/-- Bit 29 of a native word built from a header is 0. -/
theorem isCompact_assemble (hi : BitVec 64) (oc : BitVec 32) (op : BitVec 7) (x : BitVec 4) (c : Ctl) :
    isCompact (assemble hi oc (encodeHeader op x c)) = false := by
  have h : (encodeHeader op x c).getLsbD 29 = false := by
    unfold encodeHeader
    simp only [BitVec.getLsbD_append]
    rfl
  unfold isCompact assemble
  rw [BitVec.getLsbD_append]
  exact h

/-- One-source forms are native. -/
theorem isCompact_one (op : BitVec 7) (o : OneSrc) : isCompact (encodeOne op o) = false := by
  unfold encodeOne
  split <;> exact isCompact_assemble _ _ _ _ _

/-- Two-source forms are native. -/
theorem isCompact_two (op : BitVec 7) (o : TwoSrc) : isCompact (encodeTwo op o) = false := by
  unfold encodeTwo
  dsimp only
  split <;> exact isCompact_assemble _ _ _ _ _

/-- Three-source forms are native. -/
theorem isCompact_three (op : BitVec 7) (o : ThreeSrc) : isCompact (encodeThree op o) = false :=
  isCompact_assemble _ _ _ _ _

/-- One-source branches are native. -/
theorem isCompact_br1 (op : BitVec 7) (o : BranchOne) : isCompact (encodeBranchOne op o) = false := by
  unfold encodeBranchOne
  dsimp only
  split <;> exact isCompact_assemble _ _ _ _ _

/-- Two-source branches are native. -/
theorem isCompact_br2 (op : BitVec 7) (o : BranchTwo) : isCompact (encodeBranchTwo op o) = false :=
  isCompact_assemble _ _ _ _ _

/-- Math forms are native. -/
theorem isCompact_math (fc : BitVec 4) (o : MathOp) : isCompact (encodeMath fc o) = false :=
  isCompact_assemble _ _ _ _ _

/-- Sends are native. -/
theorem isCompact_send (f : SendForm) : isCompact (encodeShape (.send f)) = false := by
  cases f <;> exact isCompact_assemble _ _ _ _ _

/-- Compact one- and two-source words have bit 29 set. -/
theorem isCompact_compact2 (o : CompactTwo) : isCompact (encodeShape (.compact2 o)) = true := by
  unfold isCompact encodeShape encodeCompactTwo
  simp only [BitVec.getLsbD_append]
  rfl

/-- Compact three-source words have bit 29 set. -/
theorem isCompact_compact3 (o : CompactThree) : isCompact (encodeShape (.compact3 o)) = true := by
  unfold isCompact encodeShape encodeCompactThree
  simp only [BitVec.getLsbD_append]
  rfl

/-- Whether an instruction is one of the two compact formats. -/
def compactInstr (i : Instr) : Bool :=
  match i.shape with
  | .compact2 _ | .compact3 _ => true
  | _ => false

/-- The statement of the family: bit 29 of the word says whether the instruction is compact. -/
def WordLength.Statement (i : Instr) : Prop := isCompact (encode i) = compactInstr i

/-- `WordLength` of `illegal`. -/
theorem WordLength.illegal : WordLength.Statement .illegal := rfl

/-- `WordLength` of `mov`. -/
theorem WordLength.mov (o : OneSrc) : WordLength.Statement (.mov o) := isCompact_one _ o

/-- `WordLength` of `sel`. -/
theorem WordLength.sel (o : TwoSrc) : WordLength.Statement (.sel o) := isCompact_two _ o

/-- `WordLength` of `movi`. -/
theorem WordLength.movi (o : OneSrc) : WordLength.Statement (.movi o) := isCompact_one _ o

/-- `WordLength` of `not`. -/
theorem WordLength.not (o : OneSrc) : WordLength.Statement (.not o) := isCompact_one _ o

/-- `WordLength` of `and`. -/
theorem WordLength.and (o : TwoSrc) : WordLength.Statement (.and o) := isCompact_two _ o

/-- `WordLength` of `or`. -/
theorem WordLength.or (o : TwoSrc) : WordLength.Statement (.or o) := isCompact_two _ o

/-- `WordLength` of `xor`. -/
theorem WordLength.xor (o : TwoSrc) : WordLength.Statement (.xor o) := isCompact_two _ o

/-- `WordLength` of `shr`. -/
theorem WordLength.shr (o : TwoSrc) : WordLength.Statement (.shr o) := isCompact_two _ o

/-- `WordLength` of `shl`. -/
theorem WordLength.shl (o : TwoSrc) : WordLength.Statement (.shl o) := isCompact_two _ o

/-- `WordLength` of `smov`. -/
theorem WordLength.smov (o : OneSrc) : WordLength.Statement (.smov o) := isCompact_one _ o

/-- `WordLength` of `asr`. -/
theorem WordLength.asr (o : TwoSrc) : WordLength.Statement (.asr o) := isCompact_two _ o

/-- `WordLength` of `cmp`. -/
theorem WordLength.cmp (o : TwoSrc) : WordLength.Statement (.cmp o) := isCompact_two _ o

/-- `WordLength` of `cmpn`. -/
theorem WordLength.cmpn (o : TwoSrc) : WordLength.Statement (.cmpn o) := isCompact_two _ o

/-- `WordLength` of `csel`. -/
theorem WordLength.csel (o : ThreeSrc) : WordLength.Statement (.csel o) := isCompact_three _ o

/-- `WordLength` of `bfrev`. -/
theorem WordLength.bfrev (o : OneSrc) : WordLength.Statement (.bfrev o) := isCompact_one _ o

/-- `WordLength` of `bfe`. -/
theorem WordLength.bfe (o : ThreeSrc) : WordLength.Statement (.bfe o) := isCompact_three _ o

/-- `WordLength` of `bfi1`. -/
theorem WordLength.bfi1 (o : TwoSrc) : WordLength.Statement (.bfi1 o) := isCompact_two _ o

/-- `WordLength` of `bfi2`. -/
theorem WordLength.bfi2 (o : ThreeSrc) : WordLength.Statement (.bfi2 o) := isCompact_three _ o

/-- `WordLength` of `jmpi`. -/
theorem WordLength.jmpi (o : BranchOne) : WordLength.Statement (.jmpi o) := isCompact_br1 _ o

/-- `WordLength` of `brd`. -/
theorem WordLength.brd (o : BranchOne) : WordLength.Statement (.brd o) := isCompact_br1 _ o

/-- `WordLength` of `ifOp`. -/
theorem WordLength.ifOp (o : BranchTwo) : WordLength.Statement (.ifOp o) := isCompact_br2 _ o

/-- `WordLength` of `brc`. -/
theorem WordLength.brc (o : BranchTwo) : WordLength.Statement (.brc o) := isCompact_br2 _ o

/-- `WordLength` of `elseOp`. -/
theorem WordLength.elseOp (o : BranchTwo) : WordLength.Statement (.elseOp o) := isCompact_br2 _ o

/-- `WordLength` of `endif`. -/
theorem WordLength.endif (o : BranchOne) : WordLength.Statement (.endif o) := isCompact_br1 _ o

/-- `WordLength` of `whileOp`. -/
theorem WordLength.whileOp (o : BranchOne) : WordLength.Statement (.whileOp o) := isCompact_br1 _ o

/-- `WordLength` of `breakOp`. -/
theorem WordLength.breakOp (o : BranchTwo) : WordLength.Statement (.breakOp o) := isCompact_br2 _ o

/-- `WordLength` of `cont`. -/
theorem WordLength.cont (o : BranchTwo) : WordLength.Statement (.cont o) := isCompact_br2 _ o

/-- `WordLength` of `halt`. -/
theorem WordLength.halt (o : BranchTwo) : WordLength.Statement (.halt o) := isCompact_br2 _ o

/-- `WordLength` of `calla`. -/
theorem WordLength.calla (o : BranchOne) : WordLength.Statement (.calla o) := isCompact_br1 _ o

/-- `WordLength` of `call`. -/
theorem WordLength.call (o : BranchOne) : WordLength.Statement (.call o) := isCompact_br1 _ o

/-- `WordLength` of `ret`. -/
theorem WordLength.ret (o : BranchOne) : WordLength.Statement (.ret o) := isCompact_br1 _ o

/-- `WordLength` of `goto`. -/
theorem WordLength.goto (o : BranchTwo) : WordLength.Statement (.goto o) := isCompact_br2 _ o

/-- `WordLength` of `join`. -/
theorem WordLength.join (o : BranchOne) : WordLength.Statement (.join o) := isCompact_br1 _ o

/-- `WordLength` of `wait`. -/
theorem WordLength.wait (o : OneSrc) : WordLength.Statement (.wait o) := isCompact_one _ o

/-- `WordLength` of `send`. -/
theorem WordLength.send (o : SendOp) : WordLength.Statement (.send o) := isCompact_send _

/-- `WordLength` of `sendc`. -/
theorem WordLength.sendc (o : SendOp) : WordLength.Statement (.sendc o) := isCompact_send _

/-- `WordLength` of `sends`. -/
theorem WordLength.sends (o : SendsOp) : WordLength.Statement (.sends o) := isCompact_send _

/-- `WordLength` of `sendsc`. -/
theorem WordLength.sendsc (o : SendsOp) : WordLength.Statement (.sendsc o) := isCompact_send _

/-- `WordLength` of `math`. -/
theorem WordLength.math (o : MathReserved) : WordLength.Statement (.math o) := isCompact_math _ _

/-- `WordLength` of `add`. -/
theorem WordLength.add (o : TwoSrc) : WordLength.Statement (.add o) := isCompact_two _ o

/-- `WordLength` of `mul`. -/
theorem WordLength.mul (o : TwoSrc) : WordLength.Statement (.mul o) := isCompact_two _ o

/-- `WordLength` of `avg`. -/
theorem WordLength.avg (o : TwoSrc) : WordLength.Statement (.avg o) := isCompact_two _ o

/-- `WordLength` of `frc`. -/
theorem WordLength.frc (o : OneSrc) : WordLength.Statement (.frc o) := isCompact_one _ o

/-- `WordLength` of `rndu`. -/
theorem WordLength.rndu (o : OneSrc) : WordLength.Statement (.rndu o) := isCompact_one _ o

/-- `WordLength` of `rndd`. -/
theorem WordLength.rndd (o : OneSrc) : WordLength.Statement (.rndd o) := isCompact_one _ o

/-- `WordLength` of `rnde`. -/
theorem WordLength.rnde (o : OneSrc) : WordLength.Statement (.rnde o) := isCompact_one _ o

/-- `WordLength` of `rndz`. -/
theorem WordLength.rndz (o : OneSrc) : WordLength.Statement (.rndz o) := isCompact_one _ o

/-- `WordLength` of `mac`. -/
theorem WordLength.mac (o : TwoSrc) : WordLength.Statement (.mac o) := isCompact_two _ o

/-- `WordLength` of `mach`. -/
theorem WordLength.mach (o : TwoSrc) : WordLength.Statement (.mach o) := isCompact_two _ o

/-- `WordLength` of `lzd`. -/
theorem WordLength.lzd (o : OneSrc) : WordLength.Statement (.lzd o) := isCompact_one _ o

/-- `WordLength` of `fbh`. -/
theorem WordLength.fbh (o : OneSrc) : WordLength.Statement (.fbh o) := isCompact_one _ o

/-- `WordLength` of `fbl`. -/
theorem WordLength.fbl (o : OneSrc) : WordLength.Statement (.fbl o) := isCompact_one _ o

/-- `WordLength` of `cbit`. -/
theorem WordLength.cbit (o : OneSrc) : WordLength.Statement (.cbit o) := isCompact_one _ o

/-- `WordLength` of `addc`. -/
theorem WordLength.addc (o : TwoSrc) : WordLength.Statement (.addc o) := isCompact_two _ o

/-- `WordLength` of `subb`. -/
theorem WordLength.subb (o : TwoSrc) : WordLength.Statement (.subb o) := isCompact_two _ o

/-- `WordLength` of `sad2`. -/
theorem WordLength.sad2 (o : TwoSrc) : WordLength.Statement (.sad2 o) := isCompact_two _ o

/-- `WordLength` of `sada2`. -/
theorem WordLength.sada2 (o : TwoSrc) : WordLength.Statement (.sada2 o) := isCompact_two _ o

/-- `WordLength` of `dp4`. -/
theorem WordLength.dp4 (o : TwoSrc) : WordLength.Statement (.dp4 o) := isCompact_two _ o

/-- `WordLength` of `dph`. -/
theorem WordLength.dph (o : TwoSrc) : WordLength.Statement (.dph o) := isCompact_two _ o

/-- `WordLength` of `dp3`. -/
theorem WordLength.dp3 (o : TwoSrc) : WordLength.Statement (.dp3 o) := isCompact_two _ o

/-- `WordLength` of `dp2`. -/
theorem WordLength.dp2 (o : TwoSrc) : WordLength.Statement (.dp2 o) := isCompact_two _ o

/-- `WordLength` of `line`. -/
theorem WordLength.line (o : TwoSrc) : WordLength.Statement (.line o) := isCompact_two _ o

/-- `WordLength` of `pln`. -/
theorem WordLength.pln (o : TwoSrc) : WordLength.Statement (.pln o) := isCompact_two _ o

/-- `WordLength` of `mad`. -/
theorem WordLength.mad (o : ThreeSrc) : WordLength.Statement (.mad o) := isCompact_three _ o

/-- `WordLength` of `lrp`. -/
theorem WordLength.lrp (o : ThreeSrc) : WordLength.Statement (.lrp o) := isCompact_three _ o

/-- `WordLength` of `madm`. -/
theorem WordLength.madm (o : ThreeSrc) : WordLength.Statement (.madm o) := isCompact_three _ o

/-- `WordLength` of `nop`. -/
theorem WordLength.nop (debug : Bool) : WordLength.Statement (.nop debug) := by cases debug <;> rfl

/-- `WordLength` of `mathInv`. -/
theorem WordLength.mathInv (o : MathOp) : WordLength.Statement (.mathInv o) := isCompact_math _ _

/-- `WordLength` of `mathLog`. -/
theorem WordLength.mathLog (o : MathOp) : WordLength.Statement (.mathLog o) := isCompact_math _ _

/-- `WordLength` of `mathExp`. -/
theorem WordLength.mathExp (o : MathOp) : WordLength.Statement (.mathExp o) := isCompact_math _ _

/-- `WordLength` of `mathSqrt`. -/
theorem WordLength.mathSqrt (o : MathOp) : WordLength.Statement (.mathSqrt o) := isCompact_math _ _

/-- `WordLength` of `mathRsq`. -/
theorem WordLength.mathRsq (o : MathOp) : WordLength.Statement (.mathRsq o) := isCompact_math _ _

/-- `WordLength` of `mathSin`. -/
theorem WordLength.mathSin (o : MathOp) : WordLength.Statement (.mathSin o) := isCompact_math _ _

/-- `WordLength` of `mathCos`. -/
theorem WordLength.mathCos (o : MathOp) : WordLength.Statement (.mathCos o) := isCompact_math _ _

/-- `WordLength` of `mathFdiv`. -/
theorem WordLength.mathFdiv (o : MathOp) : WordLength.Statement (.mathFdiv o) := isCompact_math _ _

/-- `WordLength` of `mathPow`. -/
theorem WordLength.mathPow (o : MathOp) : WordLength.Statement (.mathPow o) := isCompact_math _ _

/-- `WordLength` of `mathIntDivQr`. -/
theorem WordLength.mathIntDivQr (o : MathOp) : WordLength.Statement (.mathIntDivQr o) := isCompact_math _ _

/-- `WordLength` of `mathIntDivQ`. -/
theorem WordLength.mathIntDivQ (o : MathOp) : WordLength.Statement (.mathIntDivQ o) := isCompact_math _ _

/-- `WordLength` of `mathIntDivR`. -/
theorem WordLength.mathIntDivR (o : MathOp) : WordLength.Statement (.mathIntDivR o) := isCompact_math _ _

/-- `WordLength` of `mathInvm`. -/
theorem WordLength.mathInvm (o : MathOp) : WordLength.Statement (.mathInvm o) := isCompact_math _ _

/-- `WordLength` of `mathRsqrtm`. -/
theorem WordLength.mathRsqrtm (o : MathOp) : WordLength.Statement (.mathRsqrtm o) := isCompact_math _ _

/-- `WordLength` of `sfidNull`. -/
theorem WordLength.sfidNull (o : SendForm) : WordLength.Statement (.sfidNull o) := isCompact_send _

/-- `WordLength` of `sfidSampler`. -/
theorem WordLength.sfidSampler (o : SendForm) : WordLength.Statement (.sfidSampler o) := isCompact_send _

/-- `WordLength` of `sfidGateway`. -/
theorem WordLength.sfidGateway (o : SendForm) : WordLength.Statement (.sfidGateway o) := isCompact_send _

/-- `WordLength` of `sfidDp2`. -/
theorem WordLength.sfidDp2 (o : SendForm) : WordLength.Statement (.sfidDp2 o) := isCompact_send _

/-- `WordLength` of `sfidRenderCache`. -/
theorem WordLength.sfidRenderCache (o : SendForm) : WordLength.Statement (.sfidRenderCache o) := isCompact_send _

/-- `WordLength` of `sfidUrb`. -/
theorem WordLength.sfidUrb (o : SendForm) : WordLength.Statement (.sfidUrb o) := isCompact_send _

/-- `WordLength` of `sfidSpawner`. -/
theorem WordLength.sfidSpawner (o : SendForm) : WordLength.Statement (.sfidSpawner o) := isCompact_send _

/-- `WordLength` of `sfidVme`. -/
theorem WordLength.sfidVme (o : SendForm) : WordLength.Statement (.sfidVme o) := isCompact_send _

/-- `WordLength` of `sfidReadOnly`. -/
theorem WordLength.sfidReadOnly (o : SendForm) : WordLength.Statement (.sfidReadOnly o) := isCompact_send _

/-- `WordLength` of `sfidDp0`. -/
theorem WordLength.sfidDp0 (o : SendForm) : WordLength.Statement (.sfidDp0 o) := isCompact_send _

/-- `WordLength` of `sfidPixelInterp`. -/
theorem WordLength.sfidPixelInterp (o : SendForm) : WordLength.Statement (.sfidPixelInterp o) := isCompact_send _

/-- `WordLength` of `sfidDp1`. -/
theorem WordLength.sfidDp1 (o : SendForm) : WordLength.Statement (.sfidDp1 o) := isCompact_send _

/-- `WordLength` of `sfidCre`. -/
theorem WordLength.sfidCre (o : SendForm) : WordLength.Statement (.sfidCre o) := isCompact_send _

/-- `WordLength` of `mt0rB`. -/
theorem WordLength.mt0rB (o : SendForm) : WordLength.Statement (.mt0rB o) := isCompact_send _

/-- `WordLength` of `mt0rAb`. -/
theorem WordLength.mt0rAb (o : SendForm) : WordLength.Statement (.mt0rAb o) := isCompact_send _

/-- `WordLength` of `mt0rOwdb`. -/
theorem WordLength.mt0rOwdb (o : SendForm) : WordLength.Statement (.mt0rOwdb o) := isCompact_send _

/-- `WordLength` of `mt0rDws`. -/
theorem WordLength.mt0rDws (o : SendForm) : WordLength.Statement (.mt0rDws o) := isCompact_send _

/-- `WordLength` of `mt0rBs`. -/
theorem WordLength.mt0rBs (o : SendForm) : WordLength.Statement (.mt0rBs o) := isCompact_send _

/-- `WordLength` of `mt0Memfence`. -/
theorem WordLength.mt0Memfence (o : SendForm) : WordLength.Statement (.mt0Memfence o) := isCompact_send _

/-- `WordLength` of `mt0wB`. -/
theorem WordLength.mt0wB (o : SendForm) : WordLength.Statement (.mt0wB o) := isCompact_send _

/-- `WordLength` of `mt0wOwdb`. -/
theorem WordLength.mt0wOwdb (o : SendForm) : WordLength.Statement (.mt0wOwdb o) := isCompact_send _

/-- `WordLength` of `mt0wDws`. -/
theorem WordLength.mt0wDws (o : SendForm) : WordLength.Statement (.mt0wDws o) := isCompact_send _

/-- `WordLength` of `mt0wBs`. -/
theorem WordLength.mt0wBs (o : SendForm) : WordLength.Statement (.mt0wBs o) := isCompact_send _

/-- `WordLength` of `mt1rT`. -/
theorem WordLength.mt1rT (o : SendForm) : WordLength.Statement (.mt1rT o) := isCompact_send _

/-- `WordLength` of `mt1rUs`. -/
theorem WordLength.mt1rUs (o : SendForm) : WordLength.Statement (.mt1rUs o) := isCompact_send _

/-- `WordLength` of `mt1aUi`. -/
theorem WordLength.mt1aUi (o : SendForm) : WordLength.Statement (.mt1aUi o) := isCompact_send _

/-- `WordLength` of `mt1aUi4x2`. -/
theorem WordLength.mt1aUi4x2 (o : SendForm) : WordLength.Statement (.mt1aUi4x2 o) := isCompact_send _

/-- `WordLength` of `mt1rMb`. -/
theorem WordLength.mt1rMb (o : SendForm) : WordLength.Statement (.mt1rMb o) := isCompact_send _

/-- `WordLength` of `mt1rTs`. -/
theorem WordLength.mt1rTs (o : SendForm) : WordLength.Statement (.mt1rTs o) := isCompact_send _

/-- `WordLength` of `mt1aTa`. -/
theorem WordLength.mt1aTa (o : SendForm) : WordLength.Statement (.mt1aTa o) := isCompact_send _

/-- `WordLength` of `mt1aTa4x2`. -/
theorem WordLength.mt1aTa4x2 (o : SendForm) : WordLength.Statement (.mt1aTa4x2 o) := isCompact_send _

/-- `WordLength` of `mt1wUs`. -/
theorem WordLength.mt1wUs (o : SendForm) : WordLength.Statement (.mt1wUs o) := isCompact_send _

/-- `WordLength` of `mt1wMb`. -/
theorem WordLength.mt1wMb (o : SendForm) : WordLength.Statement (.mt1wMb o) := isCompact_send _

/-- `WordLength` of `mt1aTc`. -/
theorem WordLength.mt1aTc (o : SendForm) : WordLength.Statement (.mt1aTc o) := isCompact_send _

/-- `WordLength` of `mt1aTc4x2`. -/
theorem WordLength.mt1aTc4x2 (o : SendForm) : WordLength.Statement (.mt1aTc4x2 o) := isCompact_send _

/-- `WordLength` of `mt1wTs`. -/
theorem WordLength.mt1wTs (o : SendForm) : WordLength.Statement (.mt1wTs o) := isCompact_send _

/-- `WordLength` of `mt1rA64Sb`. -/
theorem WordLength.mt1rA64Sb (o : SendForm) : WordLength.Statement (.mt1rA64Sb o) := isCompact_send _

/-- `WordLength` of `mt1rA64Us`. -/
theorem WordLength.mt1rA64Us (o : SendForm) : WordLength.Statement (.mt1rA64Us o) := isCompact_send _

/-- `WordLength` of `mt1aA64Ui`. -/
theorem WordLength.mt1aA64Ui (o : SendForm) : WordLength.Statement (.mt1aA64Ui o) := isCompact_send _

/-- `WordLength` of `mt1aA64Ui4x2`. -/
theorem WordLength.mt1aA64Ui4x2 (o : SendForm) : WordLength.Statement (.mt1aA64Ui4x2 o) := isCompact_send _

/-- `WordLength` of `mt1rA64B`. -/
theorem WordLength.mt1rA64B (o : SendForm) : WordLength.Statement (.mt1rA64B o) := isCompact_send _

/-- `WordLength` of `mt1wA64B`. -/
theorem WordLength.mt1wA64B (o : SendForm) : WordLength.Statement (.mt1wA64B o) := isCompact_send _

/-- `WordLength` of `mt1wA64Us`. -/
theorem WordLength.mt1wA64Us (o : SendForm) : WordLength.Statement (.mt1wA64Us o) := isCompact_send _

/-- `WordLength` of `mt1wA64Sb`. -/
theorem WordLength.mt1wA64Sb (o : SendForm) : WordLength.Statement (.mt1wA64Sb o) := isCompact_send _

/-- `WordLength` of `mt1aUf`. -/
theorem WordLength.mt1aUf (o : SendForm) : WordLength.Statement (.mt1aUf o) := isCompact_send _

/-- `WordLength` of `mt1aUf4x2`. -/
theorem WordLength.mt1aUf4x2 (o : SendForm) : WordLength.Statement (.mt1aUf4x2 o) := isCompact_send _

/-- `WordLength` of `mt1aA64Uf`. -/
theorem WordLength.mt1aA64Uf (o : SendForm) : WordLength.Statement (.mt1aA64Uf o) := isCompact_send _

/-- `WordLength` of `mt1aA64Uf4x2`. -/
theorem WordLength.mt1aA64Uf4x2 (o : SendForm) : WordLength.Statement (.mt1aA64Uf4x2 o) := isCompact_send _

/-- `WordLength` of `mt2rUs`. -/
theorem WordLength.mt2rUs (o : SendForm) : WordLength.Statement (.mt2rUs o) := isCompact_send _

/-- `WordLength` of `mt2rA64Sb`. -/
theorem WordLength.mt2rA64Sb (o : SendForm) : WordLength.Statement (.mt2rA64Sb o) := isCompact_send _

/-- `WordLength` of `mt2rA64Us`. -/
theorem WordLength.mt2rA64Us (o : SendForm) : WordLength.Statement (.mt2rA64Us o) := isCompact_send _

/-- `WordLength` of `mt2rBs`. -/
theorem WordLength.mt2rBs (o : SendForm) : WordLength.Statement (.mt2rBs o) := isCompact_send _

/-- `WordLength` of `mt2wUs`. -/
theorem WordLength.mt2wUs (o : SendForm) : WordLength.Statement (.mt2wUs o) := isCompact_send _

/-- `WordLength` of `mt2wA64Us`. -/
theorem WordLength.mt2wA64Us (o : SendForm) : WordLength.Statement (.mt2wA64Us o) := isCompact_send _

/-- `WordLength` of `mt2wA64Sb`. -/
theorem WordLength.mt2wA64Sb (o : SendForm) : WordLength.Statement (.mt2wA64Sb o) := isCompact_send _

/-- `WordLength` of `mt2wBs`. -/
theorem WordLength.mt2wBs (o : SendForm) : WordLength.Statement (.mt2wBs o) := isCompact_send _

/-- `WordLength` of `mtCcOwb`. -/
theorem WordLength.mtCcOwb (o : SendForm) : WordLength.Statement (.mtCcOwb o) := isCompact_send _

/-- `WordLength` of `mtCcOwub`. -/
theorem WordLength.mtCcOwub (o : SendForm) : WordLength.Statement (.mtCcOwub o) := isCompact_send _

/-- `WordLength` of `mtCcOwdb`. -/
theorem WordLength.mtCcOwdb (o : SendForm) : WordLength.Statement (.mtCcOwdb o) := isCompact_send _

/-- `WordLength` of `mtCcDws`. -/
theorem WordLength.mtCcDws (o : SendForm) : WordLength.Statement (.mtCcDws o) := isCompact_send _

/-- `WordLength` of `mtScOwub`. -/
theorem WordLength.mtScOwub (o : SendForm) : WordLength.Statement (.mtScOwub o) := isCompact_send _

/-- `WordLength` of `mtScMb`. -/
theorem WordLength.mtScMb (o : SendForm) : WordLength.Statement (.mtScMb o) := isCompact_send _

/-- `WordLength` of `mtRsi`. -/
theorem WordLength.mtRsi (o : SendForm) : WordLength.Statement (.mtRsi o) := isCompact_send _

/-- `WordLength` of `mtRtw`. -/
theorem WordLength.mtRtw (o : SendForm) : WordLength.Statement (.mtRtw o) := isCompact_send _

/-- `WordLength` of `mtRtr`. -/
theorem WordLength.mtRtr (o : SendForm) : WordLength.Statement (.mtRtr o) := isCompact_send _

/-- `WordLength` of `mtRtwSimd16`. -/
theorem WordLength.mtRtwSimd16 (o : SendForm) : WordLength.Statement (.mtRtwSimd16 o) := isCompact_send _

/-- `WordLength` of `mtRtwSimd16Repdata`. -/
theorem WordLength.mtRtwSimd16Repdata (o : SendForm) : WordLength.Statement (.mtRtwSimd16Repdata o) := isCompact_send _

/-- `WordLength` of `mtRtwSimd8DualsrcLo`. -/
theorem WordLength.mtRtwSimd8DualsrcLo (o : SendForm) : WordLength.Statement (.mtRtwSimd8DualsrcLo o) := isCompact_send _

/-- `WordLength` of `mtRtwSimd8DualsrcHi`. -/
theorem WordLength.mtRtwSimd8DualsrcHi (o : SendForm) : WordLength.Statement (.mtRtwSimd8DualsrcHi o) := isCompact_send _

/-- `WordLength` of `mtRtwSimd8Lo`. -/
theorem WordLength.mtRtwSimd8Lo (o : SendForm) : WordLength.Statement (.mtRtwSimd8Lo o) := isCompact_send _

/-- `WordLength` of `mtRtwSimd16RepdataTm`. -/
theorem WordLength.mtRtwSimd16RepdataTm (o : SendForm) : WordLength.Statement (.mtRtwSimd16RepdataTm o) := isCompact_send _

/-- `WordLength` of `tsDereference`. -/
theorem WordLength.tsDereference (o : SendForm) : WordLength.Statement (.tsDereference o) := isCompact_send _

/-- `WordLength` of `tsSpawn`. -/
theorem WordLength.tsSpawn (o : SendForm) : WordLength.Statement (.tsSpawn o) := isCompact_send _

/-- `WordLength` of `compactTwo`. -/
theorem WordLength.compactTwo (o : CompactTwo) : WordLength.Statement (.compactTwo o) := isCompact_compact2 o

/-- `WordLength` of `compactThree`. -/
theorem WordLength.compactThree (o : CompactThree) : WordLength.Statement (.compactThree o) := isCompact_compact3 o

end Sys2Proof.Laws
end

