-- ==== Sys2Proof/Laws/State.lean ====
section
/-! SUPPORT. One lemma for each field and each update of the thread and of the machine: what an update leaves and
what it sets. -/

namespace Sys2Proof.Machine

/-! ### `Thread.setReg` -/

/-- `Thread.setReg` sets `grf`. -/
@[simp] theorem Thread.setReg_grf (t : Thread) (r : Nat) (v : HWord) :
    (t.setReg r v).grf = t.grf.setIfInBounds r v := rfl

/-- `Thread.setReg` leaves `a0` alone. -/
@[simp] theorem Thread.setReg_a0 (t : Thread) (r : Nat) (v : HWord) : (t.setReg r v).a0 = t.a0 := rfl

/-- `Thread.setReg` leaves `acc` alone. -/
@[simp] theorem Thread.setReg_acc (t : Thread) (r : Nat) (v : HWord) : (t.setReg r v).acc = t.acc := rfl

/-- `Thread.setReg` leaves `flag` alone. -/
@[simp] theorem Thread.setReg_flag (t : Thread) (r : Nat) (v : HWord) : (t.setReg r v).flag = t.flag := rfl

/-- `Thread.setReg` leaves `sp` alone. -/
@[simp] theorem Thread.setReg_sp (t : Thread) (r : Nat) (v : HWord) : (t.setReg r v).sp = t.sp := rfl

/-- `Thread.setReg` leaves `sr0` alone. -/
@[simp] theorem Thread.setReg_sr0 (t : Thread) (r : Nat) (v : HWord) : (t.setReg r v).sr0 = t.sr0 := rfl

/-- `Thread.setReg` leaves `cr0` alone. -/
@[simp] theorem Thread.setReg_cr0 (t : Thread) (r : Nat) (v : HWord) : (t.setReg r v).cr0 = t.cr0 := rfl

/-- `Thread.setReg` leaves `n0` alone. -/
@[simp] theorem Thread.setReg_n0 (t : Thread) (r : Nat) (v : HWord) : (t.setReg r v).n0 = t.n0 := rfl

/-- `Thread.setReg` leaves `ip` alone. -/
@[simp] theorem Thread.setReg_ip (t : Thread) (r : Nat) (v : HWord) : (t.setReg r v).ip = t.ip := rfl

/-- `Thread.setReg` leaves `tdr0` alone. -/
@[simp] theorem Thread.setReg_tdr0 (t : Thread) (r : Nat) (v : HWord) : (t.setReg r v).tdr0 = t.tdr0 := rfl

/-- `Thread.setReg` leaves `tm0` alone. -/
@[simp] theorem Thread.setReg_tm0 (t : Thread) (r : Nat) (v : HWord) : (t.setReg r v).tm0 = t.tm0 := rfl

/-- `Thread.setReg` leaves `dbg0` alone. -/
@[simp] theorem Thread.setReg_dbg0 (t : Thread) (r : Nat) (v : HWord) : (t.setReg r v).dbg0 = t.dbg0 := rfl

/-- `Thread.setReg` leaves `dmask` alone. -/
@[simp] theorem Thread.setReg_dmask (t : Thread) (r : Nat) (v : HWord) : (t.setReg r v).dmask = t.dmask := rfl

/-- `Thread.setReg` leaves `vmask` alone. -/
@[simp] theorem Thread.setReg_vmask (t : Thread) (r : Nat) (v : HWord) : (t.setReg r v).vmask = t.vmask := rfl

/-- `Thread.setReg` leaves `pcip` alone. -/
@[simp] theorem Thread.setReg_pcip (t : Thread) (r : Nat) (v : HWord) : (t.setReg r v).pcip = t.pcip := rfl

/-- `Thread.setReg` leaves `sb` alone. -/
@[simp] theorem Thread.setReg_sb (t : Thread) (r : Nat) (v : HWord) : (t.setReg r v).sb = t.sb := rfl

/-- `Thread.setReg` leaves `run` alone. -/
@[simp] theorem Thread.setReg_run (t : Thread) (r : Nat) (v : HWord) : (t.setReg r v).run = t.run := rfl

/-- `Thread.setReg` leaves `priority` alone. -/
@[simp] theorem Thread.setReg_priority (t : Thread) (r : Nat) (v : HWord) :
    (t.setReg r v).priority = t.priority := rfl

/-- `Thread.setReg` leaves `fftid` alone. -/
@[simp] theorem Thread.setReg_fftid (t : Thread) (r : Nat) (v : HWord) : (t.setReg r v).fftid = t.fftid := rfl

/-- `Thread.setReg` leaves `tid` alone. -/
@[simp] theorem Thread.setReg_tid (t : Thread) (r : Nat) (v : HWord) : (t.setReg r v).tid = t.tid := rfl

/-- `Thread.setReg` leaves `group` alone. -/
@[simp] theorem Thread.setReg_group (t : Thread) (r : Nat) (v : HWord) : (t.setReg r v).group = t.group := rfl

/-- `Thread.setReg` leaves `scratch` alone. -/
@[simp] theorem Thread.setReg_scratch (t : Thread) (r : Nat) (v : HWord) : (t.setReg r v).scratch = t.scratch := rfl

/-- `Thread.setReg` leaves `bindingTable` alone. -/
@[simp] theorem Thread.setReg_bindingTable (t : Thread) (r : Nat) (v : HWord) :
    (t.setReg r v).bindingTable = t.bindingTable := rfl

/-- `Thread.setReg` leaves `samplerTable` alone. -/
@[simp] theorem Thread.setReg_samplerTable (t : Thread) (r : Nat) (v : HWord) :
    (t.setReg r v).samplerTable = t.samplerTable := rfl

/-- `Thread.setReg` leaves `urbHandle` alone. -/
@[simp] theorem Thread.setReg_urbHandle (t : Thread) (r : Nat) (v : HWord) :
    (t.setReg r v).urbHandle = t.urbHandle := rfl

/-- `Thread.setReg` leaves `codeHigh` alone. -/
@[simp] theorem Thread.setReg_codeHigh (t : Thread) (r : Nat) (v : HWord) :
    (t.setReg r v).codeHigh = t.codeHigh := rfl

/-- `Thread.setReg` leaves `born` alone. -/
@[simp] theorem Thread.setReg_born (t : Thread) (r : Nat) (v : HWord) : (t.setReg r v).born = t.born := rfl

/-- `Thread.setReg` leaves `asked` alone. -/
@[simp] theorem Thread.setReg_asked (t : Thread) (r : Nat) (v : HWord) : (t.setReg r v).asked = t.asked := rfl

/-! ### `Thread.goto` -/

/-- `Thread.goto` leaves `grf` alone. -/
@[simp] theorem Thread.goto_grf (t : Thread) (a : DWord) : (t.goto a).grf = t.grf := rfl

/-- `Thread.goto` leaves `a0` alone. -/
@[simp] theorem Thread.goto_a0 (t : Thread) (a : DWord) : (t.goto a).a0 = t.a0 := rfl

/-- `Thread.goto` leaves `acc` alone. -/
@[simp] theorem Thread.goto_acc (t : Thread) (a : DWord) : (t.goto a).acc = t.acc := rfl

/-- `Thread.goto` leaves `flag` alone. -/
@[simp] theorem Thread.goto_flag (t : Thread) (a : DWord) : (t.goto a).flag = t.flag := rfl

/-- `Thread.goto` leaves `sp` alone. -/
@[simp] theorem Thread.goto_sp (t : Thread) (a : DWord) : (t.goto a).sp = t.sp := rfl

/-- `Thread.goto` leaves `sr0` alone. -/
@[simp] theorem Thread.goto_sr0 (t : Thread) (a : DWord) : (t.goto a).sr0 = t.sr0 := rfl

/-- `Thread.goto` leaves `cr0` alone. -/
@[simp] theorem Thread.goto_cr0 (t : Thread) (a : DWord) : (t.goto a).cr0 = t.cr0 := rfl

/-- `Thread.goto` leaves `n0` alone. -/
@[simp] theorem Thread.goto_n0 (t : Thread) (a : DWord) : (t.goto a).n0 = t.n0 := rfl

/-- `Thread.goto` sets `ip`. -/
@[simp] theorem Thread.goto_ip (t : Thread) (a : DWord) : (t.goto a).ip = a := rfl

/-- `Thread.goto` leaves `tdr0` alone. -/
@[simp] theorem Thread.goto_tdr0 (t : Thread) (a : DWord) : (t.goto a).tdr0 = t.tdr0 := rfl

/-- `Thread.goto` leaves `tm0` alone. -/
@[simp] theorem Thread.goto_tm0 (t : Thread) (a : DWord) : (t.goto a).tm0 = t.tm0 := rfl

/-- `Thread.goto` leaves `dbg0` alone. -/
@[simp] theorem Thread.goto_dbg0 (t : Thread) (a : DWord) : (t.goto a).dbg0 = t.dbg0 := rfl

/-- `Thread.goto` leaves `dmask` alone. -/
@[simp] theorem Thread.goto_dmask (t : Thread) (a : DWord) : (t.goto a).dmask = t.dmask := rfl

/-- `Thread.goto` leaves `vmask` alone. -/
@[simp] theorem Thread.goto_vmask (t : Thread) (a : DWord) : (t.goto a).vmask = t.vmask := rfl

/-- `Thread.goto` sets `pcip`. -/
@[simp] theorem Thread.goto_pcip (t : Thread) (a : DWord) : (t.goto a).pcip = movePcip t.pcip t.ip a := rfl

/-- `Thread.goto` leaves `sb` alone. -/
@[simp] theorem Thread.goto_sb (t : Thread) (a : DWord) : (t.goto a).sb = t.sb := rfl

/-- `Thread.goto` leaves `run` alone. -/
@[simp] theorem Thread.goto_run (t : Thread) (a : DWord) : (t.goto a).run = t.run := rfl

/-- `Thread.goto` leaves `priority` alone. -/
@[simp] theorem Thread.goto_priority (t : Thread) (a : DWord) : (t.goto a).priority = t.priority := rfl

/-- `Thread.goto` leaves `fftid` alone. -/
@[simp] theorem Thread.goto_fftid (t : Thread) (a : DWord) : (t.goto a).fftid = t.fftid := rfl

/-- `Thread.goto` leaves `tid` alone. -/
@[simp] theorem Thread.goto_tid (t : Thread) (a : DWord) : (t.goto a).tid = t.tid := rfl

/-- `Thread.goto` leaves `group` alone. -/
@[simp] theorem Thread.goto_group (t : Thread) (a : DWord) : (t.goto a).group = t.group := rfl

/-- `Thread.goto` leaves `scratch` alone. -/
@[simp] theorem Thread.goto_scratch (t : Thread) (a : DWord) : (t.goto a).scratch = t.scratch := rfl

/-- `Thread.goto` leaves `bindingTable` alone. -/
@[simp] theorem Thread.goto_bindingTable (t : Thread) (a : DWord) : (t.goto a).bindingTable = t.bindingTable := rfl

/-- `Thread.goto` leaves `samplerTable` alone. -/
@[simp] theorem Thread.goto_samplerTable (t : Thread) (a : DWord) : (t.goto a).samplerTable = t.samplerTable := rfl

/-- `Thread.goto` leaves `urbHandle` alone. -/
@[simp] theorem Thread.goto_urbHandle (t : Thread) (a : DWord) : (t.goto a).urbHandle = t.urbHandle := rfl

/-- `Thread.goto` leaves `codeHigh` alone. -/
@[simp] theorem Thread.goto_codeHigh (t : Thread) (a : DWord) : (t.goto a).codeHigh = t.codeHigh := rfl

/-- `Thread.goto` leaves `born` alone. -/
@[simp] theorem Thread.goto_born (t : Thread) (a : DWord) : (t.goto a).born = t.born := rfl

/-- `Thread.goto` leaves `asked` alone. -/
@[simp] theorem Thread.goto_asked (t : Thread) (a : DWord) : (t.goto a).asked = t.asked := rfl

/-! ### `Thread.setCr0Bit` -/

/-- `Thread.setCr0Bit` leaves `grf` alone. -/
@[simp] theorem Thread.setCr0Bit_grf (t : Thread) (k b : Nat) (v : Bool) : (t.setCr0Bit k b v).grf = t.grf := rfl

/-- `Thread.setCr0Bit` leaves `a0` alone. -/
@[simp] theorem Thread.setCr0Bit_a0 (t : Thread) (k b : Nat) (v : Bool) : (t.setCr0Bit k b v).a0 = t.a0 := rfl

/-- `Thread.setCr0Bit` leaves `acc` alone. -/
@[simp] theorem Thread.setCr0Bit_acc (t : Thread) (k b : Nat) (v : Bool) : (t.setCr0Bit k b v).acc = t.acc := rfl

/-- `Thread.setCr0Bit` leaves `flag` alone. -/
@[simp] theorem Thread.setCr0Bit_flag (t : Thread) (k b : Nat) (v : Bool) : (t.setCr0Bit k b v).flag = t.flag := rfl

/-- `Thread.setCr0Bit` leaves `sp` alone. -/
@[simp] theorem Thread.setCr0Bit_sp (t : Thread) (k b : Nat) (v : Bool) : (t.setCr0Bit k b v).sp = t.sp := rfl

/-- `Thread.setCr0Bit` leaves `sr0` alone. -/
@[simp] theorem Thread.setCr0Bit_sr0 (t : Thread) (k b : Nat) (v : Bool) : (t.setCr0Bit k b v).sr0 = t.sr0 := rfl

/-- `Thread.setCr0Bit` sets `cr0`. -/
@[simp] theorem Thread.setCr0Bit_cr0 (t : Thread) (k b : Nat) (v : Bool) :
    (t.setCr0Bit k b v).cr0 = t.cr0.setIfInBounds k (setBit (t.cr0.getD k 0#32) b v) := rfl

/-- `Thread.setCr0Bit` leaves `n0` alone. -/
@[simp] theorem Thread.setCr0Bit_n0 (t : Thread) (k b : Nat) (v : Bool) : (t.setCr0Bit k b v).n0 = t.n0 := rfl

/-- `Thread.setCr0Bit` leaves `ip` alone. -/
@[simp] theorem Thread.setCr0Bit_ip (t : Thread) (k b : Nat) (v : Bool) : (t.setCr0Bit k b v).ip = t.ip := rfl

/-- `Thread.setCr0Bit` leaves `tdr0` alone. -/
@[simp] theorem Thread.setCr0Bit_tdr0 (t : Thread) (k b : Nat) (v : Bool) : (t.setCr0Bit k b v).tdr0 = t.tdr0 := rfl

/-- `Thread.setCr0Bit` leaves `tm0` alone. -/
@[simp] theorem Thread.setCr0Bit_tm0 (t : Thread) (k b : Nat) (v : Bool) : (t.setCr0Bit k b v).tm0 = t.tm0 := rfl

/-- `Thread.setCr0Bit` leaves `dbg0` alone. -/
@[simp] theorem Thread.setCr0Bit_dbg0 (t : Thread) (k b : Nat) (v : Bool) : (t.setCr0Bit k b v).dbg0 = t.dbg0 := rfl

/-- `Thread.setCr0Bit` leaves `dmask` alone. -/
@[simp] theorem Thread.setCr0Bit_dmask (t : Thread) (k b : Nat) (v : Bool) :
    (t.setCr0Bit k b v).dmask = t.dmask := rfl

/-- `Thread.setCr0Bit` leaves `vmask` alone. -/
@[simp] theorem Thread.setCr0Bit_vmask (t : Thread) (k b : Nat) (v : Bool) :
    (t.setCr0Bit k b v).vmask = t.vmask := rfl

/-- `Thread.setCr0Bit` leaves `pcip` alone. -/
@[simp] theorem Thread.setCr0Bit_pcip (t : Thread) (k b : Nat) (v : Bool) : (t.setCr0Bit k b v).pcip = t.pcip := rfl

/-- `Thread.setCr0Bit` leaves `sb` alone. -/
@[simp] theorem Thread.setCr0Bit_sb (t : Thread) (k b : Nat) (v : Bool) : (t.setCr0Bit k b v).sb = t.sb := rfl

/-- `Thread.setCr0Bit` leaves `run` alone. -/
@[simp] theorem Thread.setCr0Bit_run (t : Thread) (k b : Nat) (v : Bool) : (t.setCr0Bit k b v).run = t.run := rfl

/-- `Thread.setCr0Bit` leaves `priority` alone. -/
@[simp] theorem Thread.setCr0Bit_priority (t : Thread) (k b : Nat) (v : Bool) :
    (t.setCr0Bit k b v).priority = t.priority := rfl

/-- `Thread.setCr0Bit` leaves `fftid` alone. -/
@[simp] theorem Thread.setCr0Bit_fftid (t : Thread) (k b : Nat) (v : Bool) :
    (t.setCr0Bit k b v).fftid = t.fftid := rfl

/-- `Thread.setCr0Bit` leaves `tid` alone. -/
@[simp] theorem Thread.setCr0Bit_tid (t : Thread) (k b : Nat) (v : Bool) : (t.setCr0Bit k b v).tid = t.tid := rfl

/-- `Thread.setCr0Bit` leaves `group` alone. -/
@[simp] theorem Thread.setCr0Bit_group (t : Thread) (k b : Nat) (v : Bool) :
    (t.setCr0Bit k b v).group = t.group := rfl

/-- `Thread.setCr0Bit` leaves `scratch` alone. -/
@[simp] theorem Thread.setCr0Bit_scratch (t : Thread) (k b : Nat) (v : Bool) :
    (t.setCr0Bit k b v).scratch = t.scratch := rfl

/-- `Thread.setCr0Bit` leaves `bindingTable` alone. -/
@[simp] theorem Thread.setCr0Bit_bindingTable (t : Thread) (k b : Nat) (v : Bool) :
    (t.setCr0Bit k b v).bindingTable = t.bindingTable := rfl

/-- `Thread.setCr0Bit` leaves `samplerTable` alone. -/
@[simp] theorem Thread.setCr0Bit_samplerTable (t : Thread) (k b : Nat) (v : Bool) :
    (t.setCr0Bit k b v).samplerTable = t.samplerTable := rfl

/-- `Thread.setCr0Bit` leaves `urbHandle` alone. -/
@[simp] theorem Thread.setCr0Bit_urbHandle (t : Thread) (k b : Nat) (v : Bool) :
    (t.setCr0Bit k b v).urbHandle = t.urbHandle := rfl

/-- `Thread.setCr0Bit` leaves `codeHigh` alone. -/
@[simp] theorem Thread.setCr0Bit_codeHigh (t : Thread) (k b : Nat) (v : Bool) :
    (t.setCr0Bit k b v).codeHigh = t.codeHigh := rfl

/-- `Thread.setCr0Bit` leaves `born` alone. -/
@[simp] theorem Thread.setCr0Bit_born (t : Thread) (k b : Nat) (v : Bool) : (t.setCr0Bit k b v).born = t.born := rfl

/-- `Thread.setCr0Bit` leaves `asked` alone. -/
@[simp] theorem Thread.setCr0Bit_asked (t : Thread) (k b : Nat) (v : Bool) : (t.setCr0Bit k b v).asked = t.asked := rfl

/-! ### `Thread.enterRoutine` -/

/-- `Thread.enterRoutine` leaves `grf` alone. -/
@[simp] theorem Thread.enterRoutine_grf (t : Thread) (a : DWord) : (t.enterRoutine a).grf = t.grf := rfl

/-- `Thread.enterRoutine` leaves `a0` alone. -/
@[simp] theorem Thread.enterRoutine_a0 (t : Thread) (a : DWord) : (t.enterRoutine a).a0 = t.a0 := rfl

/-- `Thread.enterRoutine` leaves `acc` alone. -/
@[simp] theorem Thread.enterRoutine_acc (t : Thread) (a : DWord) : (t.enterRoutine a).acc = t.acc := rfl

/-- `Thread.enterRoutine` leaves `flag` alone. -/
@[simp] theorem Thread.enterRoutine_flag (t : Thread) (a : DWord) : (t.enterRoutine a).flag = t.flag := rfl

/-- `Thread.enterRoutine` leaves `sp` alone. -/
@[simp] theorem Thread.enterRoutine_sp (t : Thread) (a : DWord) : (t.enterRoutine a).sp = t.sp := rfl

/-- `Thread.enterRoutine` leaves `sr0` alone. -/
@[simp] theorem Thread.enterRoutine_sr0 (t : Thread) (a : DWord) : (t.enterRoutine a).sr0 = t.sr0 := rfl

/-- `Thread.enterRoutine` leaves `n0` alone. -/
@[simp] theorem Thread.enterRoutine_n0 (t : Thread) (a : DWord) : (t.enterRoutine a).n0 = t.n0 := rfl

/-- `Thread.enterRoutine` sets `ip`. -/
@[simp] theorem Thread.enterRoutine_ip (t : Thread) (a : DWord) : (t.enterRoutine a).ip = a := rfl

/-- `Thread.enterRoutine` leaves `tdr0` alone. -/
@[simp] theorem Thread.enterRoutine_tdr0 (t : Thread) (a : DWord) : (t.enterRoutine a).tdr0 = t.tdr0 := rfl

/-- `Thread.enterRoutine` leaves `tm0` alone. -/
@[simp] theorem Thread.enterRoutine_tm0 (t : Thread) (a : DWord) : (t.enterRoutine a).tm0 = t.tm0 := rfl

/-- `Thread.enterRoutine` leaves `dbg0` alone. -/
@[simp] theorem Thread.enterRoutine_dbg0 (t : Thread) (a : DWord) : (t.enterRoutine a).dbg0 = t.dbg0 := rfl

/-- `Thread.enterRoutine` leaves `dmask` alone. -/
@[simp] theorem Thread.enterRoutine_dmask (t : Thread) (a : DWord) : (t.enterRoutine a).dmask = t.dmask := rfl

/-- `Thread.enterRoutine` leaves `vmask` alone. -/
@[simp] theorem Thread.enterRoutine_vmask (t : Thread) (a : DWord) : (t.enterRoutine a).vmask = t.vmask := rfl

/-- `Thread.enterRoutine` leaves `pcip` alone. -/
@[simp] theorem Thread.enterRoutine_pcip (t : Thread) (a : DWord) : (t.enterRoutine a).pcip = t.pcip := rfl

/-- `Thread.enterRoutine` leaves `sb` alone. -/
@[simp] theorem Thread.enterRoutine_sb (t : Thread) (a : DWord) : (t.enterRoutine a).sb = t.sb := rfl

/-- `Thread.enterRoutine` leaves `run` alone. -/
@[simp] theorem Thread.enterRoutine_run (t : Thread) (a : DWord) : (t.enterRoutine a).run = t.run := rfl

/-- `Thread.enterRoutine` leaves `priority` alone. -/
@[simp] theorem Thread.enterRoutine_priority (t : Thread) (a : DWord) :
    (t.enterRoutine a).priority = t.priority := rfl

/-- `Thread.enterRoutine` leaves `fftid` alone. -/
@[simp] theorem Thread.enterRoutine_fftid (t : Thread) (a : DWord) : (t.enterRoutine a).fftid = t.fftid := rfl

/-- `Thread.enterRoutine` leaves `tid` alone. -/
@[simp] theorem Thread.enterRoutine_tid (t : Thread) (a : DWord) : (t.enterRoutine a).tid = t.tid := rfl

/-- `Thread.enterRoutine` leaves `group` alone. -/
@[simp] theorem Thread.enterRoutine_group (t : Thread) (a : DWord) : (t.enterRoutine a).group = t.group := rfl

/-- `Thread.enterRoutine` leaves `scratch` alone. -/
@[simp] theorem Thread.enterRoutine_scratch (t : Thread) (a : DWord) : (t.enterRoutine a).scratch = t.scratch := rfl

/-- `Thread.enterRoutine` leaves `bindingTable` alone. -/
@[simp] theorem Thread.enterRoutine_bindingTable (t : Thread) (a : DWord) :
    (t.enterRoutine a).bindingTable = t.bindingTable := rfl

/-- `Thread.enterRoutine` leaves `samplerTable` alone. -/
@[simp] theorem Thread.enterRoutine_samplerTable (t : Thread) (a : DWord) :
    (t.enterRoutine a).samplerTable = t.samplerTable := rfl

/-- `Thread.enterRoutine` leaves `urbHandle` alone. -/
@[simp] theorem Thread.enterRoutine_urbHandle (t : Thread) (a : DWord) :
    (t.enterRoutine a).urbHandle = t.urbHandle := rfl

/-- `Thread.enterRoutine` leaves `codeHigh` alone. -/
@[simp] theorem Thread.enterRoutine_codeHigh (t : Thread) (a : DWord) :
    (t.enterRoutine a).codeHigh = t.codeHigh := rfl

/-- `Thread.enterRoutine` leaves `born` alone. -/
@[simp] theorem Thread.enterRoutine_born (t : Thread) (a : DWord) : (t.enterRoutine a).born = t.born := rfl

/-- `Thread.enterRoutine` leaves `asked` alone. -/
@[simp] theorem Thread.enterRoutine_asked (t : Thread) (a : DWord) : (t.enterRoutine a).asked = t.asked := rfl

/-! ### `Thread.clearDependency` -/

/-- `Thread.clearDependency` leaves `grf` alone. -/
@[simp] theorem Thread.clearDependency_grf (t : Thread) (x : BitVec 8) : (t.clearDependency x).grf = t.grf := rfl

/-- `Thread.clearDependency` leaves `a0` alone. -/
@[simp] theorem Thread.clearDependency_a0 (t : Thread) (x : BitVec 8) : (t.clearDependency x).a0 = t.a0 := rfl

/-- `Thread.clearDependency` leaves `acc` alone. -/
@[simp] theorem Thread.clearDependency_acc (t : Thread) (x : BitVec 8) : (t.clearDependency x).acc = t.acc := rfl

/-- `Thread.clearDependency` leaves `flag` alone. -/
@[simp] theorem Thread.clearDependency_flag (t : Thread) (x : BitVec 8) : (t.clearDependency x).flag = t.flag := rfl

/-- `Thread.clearDependency` leaves `sp` alone. -/
@[simp] theorem Thread.clearDependency_sp (t : Thread) (x : BitVec 8) : (t.clearDependency x).sp = t.sp := rfl

/-- `Thread.clearDependency` leaves `sr0` alone. -/
@[simp] theorem Thread.clearDependency_sr0 (t : Thread) (x : BitVec 8) : (t.clearDependency x).sr0 = t.sr0 := rfl

/-- `Thread.clearDependency` leaves `cr0` alone. -/
@[simp] theorem Thread.clearDependency_cr0 (t : Thread) (x : BitVec 8) : (t.clearDependency x).cr0 = t.cr0 := rfl

/-- `Thread.clearDependency` leaves `n0` alone. -/
@[simp] theorem Thread.clearDependency_n0 (t : Thread) (x : BitVec 8) : (t.clearDependency x).n0 = t.n0 := rfl

/-- `Thread.clearDependency` leaves `ip` alone. -/
@[simp] theorem Thread.clearDependency_ip (t : Thread) (x : BitVec 8) : (t.clearDependency x).ip = t.ip := rfl

/-- `Thread.clearDependency` leaves `tm0` alone. -/
@[simp] theorem Thread.clearDependency_tm0 (t : Thread) (x : BitVec 8) : (t.clearDependency x).tm0 = t.tm0 := rfl

/-- `Thread.clearDependency` leaves `dbg0` alone. -/
@[simp] theorem Thread.clearDependency_dbg0 (t : Thread) (x : BitVec 8) : (t.clearDependency x).dbg0 = t.dbg0 := rfl

/-- `Thread.clearDependency` leaves `dmask` alone. -/
@[simp] theorem Thread.clearDependency_dmask (t : Thread) (x : BitVec 8) :
    (t.clearDependency x).dmask = t.dmask := rfl

/-- `Thread.clearDependency` leaves `vmask` alone. -/
@[simp] theorem Thread.clearDependency_vmask (t : Thread) (x : BitVec 8) :
    (t.clearDependency x).vmask = t.vmask := rfl

/-- `Thread.clearDependency` leaves `pcip` alone. -/
@[simp] theorem Thread.clearDependency_pcip (t : Thread) (x : BitVec 8) : (t.clearDependency x).pcip = t.pcip := rfl

/-- `Thread.clearDependency` leaves `sb` alone. -/
@[simp] theorem Thread.clearDependency_sb (t : Thread) (x : BitVec 8) : (t.clearDependency x).sb = t.sb := rfl

/-- `Thread.clearDependency` leaves `run` alone. -/
@[simp] theorem Thread.clearDependency_run (t : Thread) (x : BitVec 8) : (t.clearDependency x).run = t.run := rfl

/-- `Thread.clearDependency` leaves `priority` alone. -/
@[simp] theorem Thread.clearDependency_priority (t : Thread) (x : BitVec 8) :
    (t.clearDependency x).priority = t.priority := rfl

/-- `Thread.clearDependency` leaves `fftid` alone. -/
@[simp] theorem Thread.clearDependency_fftid (t : Thread) (x : BitVec 8) :
    (t.clearDependency x).fftid = t.fftid := rfl

/-- `Thread.clearDependency` leaves `tid` alone. -/
@[simp] theorem Thread.clearDependency_tid (t : Thread) (x : BitVec 8) : (t.clearDependency x).tid = t.tid := rfl

/-- `Thread.clearDependency` leaves `group` alone. -/
@[simp] theorem Thread.clearDependency_group (t : Thread) (x : BitVec 8) :
    (t.clearDependency x).group = t.group := rfl

/-- `Thread.clearDependency` leaves `scratch` alone. -/
@[simp] theorem Thread.clearDependency_scratch (t : Thread) (x : BitVec 8) :
    (t.clearDependency x).scratch = t.scratch := rfl

/-- `Thread.clearDependency` leaves `bindingTable` alone. -/
@[simp] theorem Thread.clearDependency_bindingTable (t : Thread) (x : BitVec 8) :
    (t.clearDependency x).bindingTable = t.bindingTable := rfl

/-- `Thread.clearDependency` leaves `samplerTable` alone. -/
@[simp] theorem Thread.clearDependency_samplerTable (t : Thread) (x : BitVec 8) :
    (t.clearDependency x).samplerTable = t.samplerTable := rfl

/-- `Thread.clearDependency` leaves `urbHandle` alone. -/
@[simp] theorem Thread.clearDependency_urbHandle (t : Thread) (x : BitVec 8) :
    (t.clearDependency x).urbHandle = t.urbHandle := rfl

/-- `Thread.clearDependency` leaves `codeHigh` alone. -/
@[simp] theorem Thread.clearDependency_codeHigh (t : Thread) (x : BitVec 8) :
    (t.clearDependency x).codeHigh = t.codeHigh := rfl

/-- `Thread.clearDependency` leaves `born` alone. -/
@[simp] theorem Thread.clearDependency_born (t : Thread) (x : BitVec 8) : (t.clearDependency x).born = t.born := rfl

/-- `Thread.clearDependency` leaves `asked` alone. -/
@[simp] theorem Thread.clearDependency_asked (t : Thread) (x : BitVec 8) : (t.clearDependency x).asked = t.asked := rfl

/-! ### `State.withPointers` -/

/-- `State.withPointers` sets `eu`. -/
@[simp] theorem State.withPointers_eu (s : State) (p : Vector DWord 32) (a : DWord) :
    (s.withPointers p a).eu = { s.eu with pcip := p, ip := a } := rfl

/-- `State.withPointers` leaves `parked` alone. -/
@[simp] theorem State.withPointers_parked (s : State) (p : Vector DWord 32) (a : DWord) :
    (s.withPointers p a).parked = s.parked := rfl

/-- `State.withPointers` leaves `groups` alone. -/
@[simp] theorem State.withPointers_groups (s : State) (p : Vector DWord 32) (a : DWord) :
    (s.withPointers p a).groups = s.groups := rfl

/-- `State.withPointers` leaves `mem` alone. -/
@[simp] theorem State.withPointers_mem (s : State) (p : Vector DWord 32) (a : DWord) :
    (s.withPointers p a).mem = s.mem := rfl

/-- `State.withPointers` leaves `urb` alone. -/
@[simp] theorem State.withPointers_urb (s : State) (p : Vector DWord 32) (a : DWord) :
    (s.withPointers p a).urb = s.urb := rfl

/-- `State.withPointers` leaves `pending` alone. -/
@[simp] theorem State.withPointers_pending (s : State) (p : Vector DWord 32) (a : DWord) :
    (s.withPointers p a).pending = s.pending := rfl

/-- `State.withPointers` leaves `ctx` alone. -/
@[simp] theorem State.withPointers_ctx (s : State) (p : Vector DWord 32) (a : DWord) :
    (s.withPointers p a).ctx = s.ctx := rfl

/-- `State.withPointers` leaves `rcs` alone. -/
@[simp] theorem State.withPointers_rcs (s : State) (p : Vector DWord 32) (a : DWord) :
    (s.withPointers p a).rcs = s.rcs := rfl

/-- `State.withPointers` leaves `bcs` alone. -/
@[simp] theorem State.withPointers_bcs (s : State) (p : Vector DWord 32) (a : DWord) :
    (s.withPointers p a).bcs = s.bcs := rfl

/-- `State.withPointers` leaves `vcs` alone. -/
@[simp] theorem State.withPointers_vcs (s : State) (p : Vector DWord 32) (a : DWord) :
    (s.withPointers p a).vcs = s.vcs := rfl

/-- `State.withPointers` leaves `vcs2` alone. -/
@[simp] theorem State.withPointers_vcs2 (s : State) (p : Vector DWord 32) (a : DWord) :
    (s.withPointers p a).vcs2 = s.vcs2 := rfl

/-- `State.withPointers` leaves `vecs` alone. -/
@[simp] theorem State.withPointers_vecs (s : State) (p : Vector DWord 32) (a : DWord) :
    (s.withPointers p a).vecs = s.vecs := rfl

/-- `State.withPointers` leaves `blt` alone. -/
@[simp] theorem State.withPointers_blt (s : State) (p : Vector DWord 32) (a : DWord) :
    (s.withPointers p a).blt = s.blt := rfl

/-- `State.withPointers` leaves `dev` alone. -/
@[simp] theorem State.withPointers_dev (s : State) (p : Vector DWord 32) (a : DWord) :
    (s.withPointers p a).dev = s.dev := rfl

/-- `State.withPointers` leaves `media` alone. -/
@[simp] theorem State.withPointers_media (s : State) (p : Vector DWord 32) (a : DWord) :
    (s.withPointers p a).media = s.media := rfl

/-- `State.withPointers` leaves `vertexBuffers` alone. -/
@[simp] theorem State.withPointers_vertexBuffers (s : State) (p : Vector DWord 32) (a : DWord) :
    (s.withPointers p a).vertexBuffers = s.vertexBuffers := rfl

/-- `State.withPointers` leaves `inputs` alone. -/
@[simp] theorem State.withPointers_inputs (s : State) (p : Vector DWord 32) (a : DWord) :
    (s.withPointers p a).inputs = s.inputs := rfl

/-- `State.withPointers` leaves `stores` alone. -/
@[simp] theorem State.withPointers_stores (s : State) (p : Vector DWord 32) (a : DWord) :
    (s.withPointers p a).stores = s.stores := rfl

/-- `State.withPointers` leaves `draws` alone. -/
@[simp] theorem State.withPointers_draws (s : State) (p : Vector DWord 32) (a : DWord) :
    (s.withPointers p a).draws = s.draws := rfl

/-- `State.withPointers` leaves `nextTid` alone. -/
@[simp] theorem State.withPointers_nextTid (s : State) (p : Vector DWord 32) (a : DWord) :
    (s.withPointers p a).nextTid = s.nextTid := rfl

/-! ### `State.storeAs` -/

/-- `State.storeAs` leaves `eu` alone. -/
@[simp] theorem State.storeAs_eu (s : State) (w : Writer) (a n v : Nat) : (s.storeAs w a n v).eu = s.eu := rfl

/-- `State.storeAs` leaves `parked` alone. -/
@[simp] theorem State.storeAs_parked (s : State) (w : Writer) (a n v : Nat) :
    (s.storeAs w a n v).parked = s.parked := rfl

/-- `State.storeAs` leaves `groups` alone. -/
@[simp] theorem State.storeAs_groups (s : State) (w : Writer) (a n v : Nat) :
    (s.storeAs w a n v).groups = s.groups := rfl

/-- `State.storeAs` sets `mem`. -/
@[simp] theorem State.storeAs_mem (s : State) (w : Writer) (a n v : Nat) :
    (s.storeAs w a n v).mem = Memory.writeLE s.mem a v n := rfl

/-- `State.storeAs` leaves `urb` alone. -/
@[simp] theorem State.storeAs_urb (s : State) (w : Writer) (a n v : Nat) : (s.storeAs w a n v).urb = s.urb := rfl

/-- `State.storeAs` leaves `pending` alone. -/
@[simp] theorem State.storeAs_pending (s : State) (w : Writer) (a n v : Nat) :
    (s.storeAs w a n v).pending = s.pending := rfl

/-- `State.storeAs` leaves `ctx` alone. -/
@[simp] theorem State.storeAs_ctx (s : State) (w : Writer) (a n v : Nat) : (s.storeAs w a n v).ctx = s.ctx := rfl

/-- `State.storeAs` leaves `rcs` alone. -/
@[simp] theorem State.storeAs_rcs (s : State) (w : Writer) (a n v : Nat) : (s.storeAs w a n v).rcs = s.rcs := rfl

/-- `State.storeAs` leaves `bcs` alone. -/
@[simp] theorem State.storeAs_bcs (s : State) (w : Writer) (a n v : Nat) : (s.storeAs w a n v).bcs = s.bcs := rfl

/-- `State.storeAs` leaves `vcs` alone. -/
@[simp] theorem State.storeAs_vcs (s : State) (w : Writer) (a n v : Nat) : (s.storeAs w a n v).vcs = s.vcs := rfl

/-- `State.storeAs` leaves `vcs2` alone. -/
@[simp] theorem State.storeAs_vcs2 (s : State) (w : Writer) (a n v : Nat) : (s.storeAs w a n v).vcs2 = s.vcs2 := rfl

/-- `State.storeAs` leaves `vecs` alone. -/
@[simp] theorem State.storeAs_vecs (s : State) (w : Writer) (a n v : Nat) : (s.storeAs w a n v).vecs = s.vecs := rfl

/-- `State.storeAs` leaves `blt` alone. -/
@[simp] theorem State.storeAs_blt (s : State) (w : Writer) (a n v : Nat) : (s.storeAs w a n v).blt = s.blt := rfl

/-- `State.storeAs` leaves `dev` alone. -/
@[simp] theorem State.storeAs_dev (s : State) (w : Writer) (a n v : Nat) : (s.storeAs w a n v).dev = s.dev := rfl

/-- `State.storeAs` leaves `media` alone. -/
@[simp] theorem State.storeAs_media (s : State) (w : Writer) (a n v : Nat) :
    (s.storeAs w a n v).media = s.media := rfl

/-- `State.storeAs` leaves `vertexBuffers` alone. -/
@[simp] theorem State.storeAs_vertexBuffers (s : State) (w : Writer) (a n v : Nat) :
    (s.storeAs w a n v).vertexBuffers = s.vertexBuffers := rfl

/-- `State.storeAs` leaves `inputs` alone. -/
@[simp] theorem State.storeAs_inputs (s : State) (w : Writer) (a n v : Nat) :
    (s.storeAs w a n v).inputs = s.inputs := rfl

/-- `State.storeAs` sets `stores`. -/
@[simp] theorem State.storeAs_stores (s : State) (w : Writer) (a n v : Nat) :
    (s.storeAs w a n v).stores = s.record w a n := rfl

/-- `State.storeAs` leaves `draws` alone. -/
@[simp] theorem State.storeAs_draws (s : State) (w : Writer) (a n v : Nat) :
    (s.storeAs w a n v).draws = s.draws := rfl

/-- `State.storeAs` leaves `nextTid` alone. -/
@[simp] theorem State.storeAs_nextTid (s : State) (w : Writer) (a n v : Nat) :
    (s.storeAs w a n v).nextTid = s.nextTid := rfl

/-! ### `State.store` -/

/-- `State.store` leaves `eu` alone. -/
@[simp] theorem State.store_eu (s : State) (c : Coherency) (a n v : Nat) : (s.store c a n v).eu = s.eu := rfl

/-- `State.store` leaves `parked` alone. -/
@[simp] theorem State.store_parked (s : State) (c : Coherency) (a n v : Nat) :
    (s.store c a n v).parked = s.parked := rfl

/-- `State.store` leaves `groups` alone. -/
@[simp] theorem State.store_groups (s : State) (c : Coherency) (a n v : Nat) :
    (s.store c a n v).groups = s.groups := rfl

/-- `State.store` sets `mem`. -/
@[simp] theorem State.store_mem (s : State) (c : Coherency) (a n v : Nat) :
    (s.store c a n v).mem = Memory.writeLE s.mem a v n := rfl

/-- `State.store` leaves `urb` alone. -/
@[simp] theorem State.store_urb (s : State) (c : Coherency) (a n v : Nat) : (s.store c a n v).urb = s.urb := rfl

/-- `State.store` leaves `pending` alone. -/
@[simp] theorem State.store_pending (s : State) (c : Coherency) (a n v : Nat) :
    (s.store c a n v).pending = s.pending := rfl

/-- `State.store` leaves `ctx` alone. -/
@[simp] theorem State.store_ctx (s : State) (c : Coherency) (a n v : Nat) : (s.store c a n v).ctx = s.ctx := rfl

/-- `State.store` leaves `rcs` alone. -/
@[simp] theorem State.store_rcs (s : State) (c : Coherency) (a n v : Nat) : (s.store c a n v).rcs = s.rcs := rfl

/-- `State.store` leaves `bcs` alone. -/
@[simp] theorem State.store_bcs (s : State) (c : Coherency) (a n v : Nat) : (s.store c a n v).bcs = s.bcs := rfl

/-- `State.store` leaves `vcs` alone. -/
@[simp] theorem State.store_vcs (s : State) (c : Coherency) (a n v : Nat) : (s.store c a n v).vcs = s.vcs := rfl

/-- `State.store` leaves `vcs2` alone. -/
@[simp] theorem State.store_vcs2 (s : State) (c : Coherency) (a n v : Nat) : (s.store c a n v).vcs2 = s.vcs2 := rfl

/-- `State.store` leaves `vecs` alone. -/
@[simp] theorem State.store_vecs (s : State) (c : Coherency) (a n v : Nat) : (s.store c a n v).vecs = s.vecs := rfl

/-- `State.store` leaves `blt` alone. -/
@[simp] theorem State.store_blt (s : State) (c : Coherency) (a n v : Nat) : (s.store c a n v).blt = s.blt := rfl

/-- `State.store` leaves `dev` alone. -/
@[simp] theorem State.store_dev (s : State) (c : Coherency) (a n v : Nat) : (s.store c a n v).dev = s.dev := rfl

/-- `State.store` leaves `media` alone. -/
@[simp] theorem State.store_media (s : State) (c : Coherency) (a n v : Nat) : (s.store c a n v).media = s.media := rfl

/-- `State.store` leaves `vertexBuffers` alone. -/
@[simp] theorem State.store_vertexBuffers (s : State) (c : Coherency) (a n v : Nat) :
    (s.store c a n v).vertexBuffers = s.vertexBuffers := rfl

/-- `State.store` leaves `inputs` alone. -/
@[simp] theorem State.store_inputs (s : State) (c : Coherency) (a n v : Nat) :
    (s.store c a n v).inputs = s.inputs := rfl

/-- `State.store` sets `stores`. -/
@[simp] theorem State.store_stores (s : State) (c : Coherency) (a n v : Nat) :
    (s.store c a n v).stores = s.record (.thread s.eu.tid (c == .nonCoherent)) a n := rfl

/-- `State.store` leaves `draws` alone. -/
@[simp] theorem State.store_draws (s : State) (c : Coherency) (a n v : Nat) : (s.store c a n v).draws = s.draws := rfl

/-- `State.store` leaves `nextTid` alone. -/
@[simp] theorem State.store_nextTid (s : State) (c : Coherency) (a n v : Nat) :
    (s.store c a n v).nextTid = s.nextTid := rfl

/-! ### `State.setSlm` -/

/-- `State.setSlm` leaves `eu` alone. -/
@[simp] theorem State.setSlm_eu (s : State) (id : Nat) (m : Store) : (s.setSlm id m).eu = s.eu := rfl

/-- `State.setSlm` leaves `parked` alone. -/
@[simp] theorem State.setSlm_parked (s : State) (id : Nat) (m : Store) : (s.setSlm id m).parked = s.parked := rfl

/-- `State.setSlm` leaves `mem` alone. -/
@[simp] theorem State.setSlm_mem (s : State) (id : Nat) (m : Store) : (s.setSlm id m).mem = s.mem := rfl

/-- `State.setSlm` leaves `urb` alone. -/
@[simp] theorem State.setSlm_urb (s : State) (id : Nat) (m : Store) : (s.setSlm id m).urb = s.urb := rfl

/-- `State.setSlm` leaves `pending` alone. -/
@[simp] theorem State.setSlm_pending (s : State) (id : Nat) (m : Store) : (s.setSlm id m).pending = s.pending := rfl

/-- `State.setSlm` leaves `ctx` alone. -/
@[simp] theorem State.setSlm_ctx (s : State) (id : Nat) (m : Store) : (s.setSlm id m).ctx = s.ctx := rfl

/-- `State.setSlm` leaves `rcs` alone. -/
@[simp] theorem State.setSlm_rcs (s : State) (id : Nat) (m : Store) : (s.setSlm id m).rcs = s.rcs := rfl

/-- `State.setSlm` leaves `bcs` alone. -/
@[simp] theorem State.setSlm_bcs (s : State) (id : Nat) (m : Store) : (s.setSlm id m).bcs = s.bcs := rfl

/-- `State.setSlm` leaves `vcs` alone. -/
@[simp] theorem State.setSlm_vcs (s : State) (id : Nat) (m : Store) : (s.setSlm id m).vcs = s.vcs := rfl

/-- `State.setSlm` leaves `vcs2` alone. -/
@[simp] theorem State.setSlm_vcs2 (s : State) (id : Nat) (m : Store) : (s.setSlm id m).vcs2 = s.vcs2 := rfl

/-- `State.setSlm` leaves `vecs` alone. -/
@[simp] theorem State.setSlm_vecs (s : State) (id : Nat) (m : Store) : (s.setSlm id m).vecs = s.vecs := rfl

/-- `State.setSlm` leaves `blt` alone. -/
@[simp] theorem State.setSlm_blt (s : State) (id : Nat) (m : Store) : (s.setSlm id m).blt = s.blt := rfl

/-- `State.setSlm` leaves `dev` alone. -/
@[simp] theorem State.setSlm_dev (s : State) (id : Nat) (m : Store) : (s.setSlm id m).dev = s.dev := rfl

/-- `State.setSlm` leaves `media` alone. -/
@[simp] theorem State.setSlm_media (s : State) (id : Nat) (m : Store) : (s.setSlm id m).media = s.media := rfl

/-- `State.setSlm` leaves `vertexBuffers` alone. -/
@[simp] theorem State.setSlm_vertexBuffers (s : State) (id : Nat) (m : Store) :
    (s.setSlm id m).vertexBuffers = s.vertexBuffers := rfl

/-- `State.setSlm` leaves `inputs` alone. -/
@[simp] theorem State.setSlm_inputs (s : State) (id : Nat) (m : Store) : (s.setSlm id m).inputs = s.inputs := rfl

/-- `State.setSlm` leaves `stores` alone. -/
@[simp] theorem State.setSlm_stores (s : State) (id : Nat) (m : Store) : (s.setSlm id m).stores = s.stores := rfl

/-- `State.setSlm` leaves `draws` alone. -/
@[simp] theorem State.setSlm_draws (s : State) (id : Nat) (m : Store) : (s.setSlm id m).draws = s.draws := rfl

/-- `State.setSlm` leaves `nextTid` alone. -/
@[simp] theorem State.setSlm_nextTid (s : State) (id : Nat) (m : Store) : (s.setSlm id m).nextTid = s.nextTid := rfl

/-! ### `State.endThread` -/

/-- `State.endThread` sets `eu`. -/
@[simp] theorem State.endThread_eu (s : State) : (s.endThread).eu = { s.eu with run := .ended, group := .none } := rfl

/-- `State.endThread` leaves `mem` alone. -/
@[simp] theorem State.endThread_mem (s : State) : (s.endThread).mem = s.mem := rfl

/-- `State.endThread` leaves `urb` alone. -/
@[simp] theorem State.endThread_urb (s : State) : (s.endThread).urb = s.urb := rfl

/-- `State.endThread` leaves `ctx` alone. -/
@[simp] theorem State.endThread_ctx (s : State) : (s.endThread).ctx = s.ctx := rfl

/-- `State.endThread` leaves `rcs` alone. -/
@[simp] theorem State.endThread_rcs (s : State) : (s.endThread).rcs = s.rcs := rfl

/-- `State.endThread` leaves `bcs` alone. -/
@[simp] theorem State.endThread_bcs (s : State) : (s.endThread).bcs = s.bcs := rfl

/-- `State.endThread` leaves `vcs` alone. -/
@[simp] theorem State.endThread_vcs (s : State) : (s.endThread).vcs = s.vcs := rfl

/-- `State.endThread` leaves `vcs2` alone. -/
@[simp] theorem State.endThread_vcs2 (s : State) : (s.endThread).vcs2 = s.vcs2 := rfl

/-- `State.endThread` leaves `vecs` alone. -/
@[simp] theorem State.endThread_vecs (s : State) : (s.endThread).vecs = s.vecs := rfl

/-- `State.endThread` leaves `blt` alone. -/
@[simp] theorem State.endThread_blt (s : State) : (s.endThread).blt = s.blt := rfl

/-- `State.endThread` leaves `dev` alone. -/
@[simp] theorem State.endThread_dev (s : State) : (s.endThread).dev = s.dev := rfl

/-- `State.endThread` leaves `vertexBuffers` alone. -/
@[simp] theorem State.endThread_vertexBuffers (s : State) : (s.endThread).vertexBuffers = s.vertexBuffers := rfl

/-- `State.endThread` leaves `inputs` alone. -/
@[simp] theorem State.endThread_inputs (s : State) : (s.endThread).inputs = s.inputs := rfl

/-- `State.endThread` leaves `stores` alone. -/
@[simp] theorem State.endThread_stores (s : State) : (s.endThread).stores = s.stores := rfl

/-- `State.endThread` leaves `draws` alone. -/
@[simp] theorem State.endThread_draws (s : State) : (s.endThread).draws = s.draws := rfl

/-- `State.endThread` leaves `nextTid` alone. -/
@[simp] theorem State.endThread_nextTid (s : State) : (s.endThread).nextTid = s.nextTid := rfl

/-! ### `State.setEngine` -/

/-- `State.setEngine` leaves `eu` alone. -/
@[simp] theorem State.setEngine_eu (s : State) (e : EngineId) (v : Engine) : (s.setEngine e v).eu = s.eu := by
  cases e <;> rfl

/-- `State.setEngine` leaves `parked` alone. -/
@[simp] theorem State.setEngine_parked (s : State) (e : EngineId) (v : Engine) : (s.setEngine e v).parked = s.parked := by
  cases e <;> rfl

/-- `State.setEngine` leaves `groups` alone. -/
@[simp] theorem State.setEngine_groups (s : State) (e : EngineId) (v : Engine) : (s.setEngine e v).groups = s.groups := by
  cases e <;> rfl

/-- `State.setEngine` leaves `mem` alone. -/
@[simp] theorem State.setEngine_mem (s : State) (e : EngineId) (v : Engine) : (s.setEngine e v).mem = s.mem := by
  cases e <;> rfl

/-- `State.setEngine` leaves `urb` alone. -/
@[simp] theorem State.setEngine_urb (s : State) (e : EngineId) (v : Engine) : (s.setEngine e v).urb = s.urb := by
  cases e <;> rfl

/-- `State.setEngine` leaves `pending` alone. -/
@[simp] theorem State.setEngine_pending (s : State) (e : EngineId) (v : Engine) : (s.setEngine e v).pending = s.pending := by
  cases e <;> rfl

/-- `State.setEngine` leaves `ctx` alone. -/
@[simp] theorem State.setEngine_ctx (s : State) (e : EngineId) (v : Engine) : (s.setEngine e v).ctx = s.ctx := by
  cases e <;> rfl

/-- `State.setEngine` leaves `blt` alone. -/
@[simp] theorem State.setEngine_blt (s : State) (e : EngineId) (v : Engine) : (s.setEngine e v).blt = s.blt := by
  cases e <;> rfl

/-- `State.setEngine` leaves `dev` alone. -/
@[simp] theorem State.setEngine_dev (s : State) (e : EngineId) (v : Engine) : (s.setEngine e v).dev = s.dev := by
  cases e <;> rfl

/-- `State.setEngine` leaves `media` alone. -/
@[simp] theorem State.setEngine_media (s : State) (e : EngineId) (v : Engine) : (s.setEngine e v).media = s.media := by
  cases e <;> rfl

/-- `State.setEngine` leaves `vertexBuffers` alone. -/
@[simp] theorem State.setEngine_vertexBuffers (s : State) (e : EngineId) (v : Engine) : (s.setEngine e v).vertexBuffers = s.vertexBuffers := by
  cases e <;> rfl

/-- `State.setEngine` leaves `inputs` alone. -/
@[simp] theorem State.setEngine_inputs (s : State) (e : EngineId) (v : Engine) : (s.setEngine e v).inputs = s.inputs := by
  cases e <;> rfl

/-- `State.setEngine` leaves `stores` alone. -/
@[simp] theorem State.setEngine_stores (s : State) (e : EngineId) (v : Engine) : (s.setEngine e v).stores = s.stores := by
  cases e <;> rfl

/-- `State.setEngine` leaves `draws` alone. -/
@[simp] theorem State.setEngine_draws (s : State) (e : EngineId) (v : Engine) : (s.setEngine e v).draws = s.draws := by
  cases e <;> rfl

/-- `State.setEngine` leaves `nextTid` alone. -/
@[simp] theorem State.setEngine_nextTid (s : State) (e : EngineId) (v : Engine) : (s.setEngine e v).nextTid = s.nextTid := by
  cases e <;> rfl

/-- An engine's registers after they are replaced. -/
@[simp] theorem State.engine_setEngine (s : State) (e : EngineId) (v : Engine) : (s.setEngine e v).engine e = v := by
  cases e <;> rfl

/-- Of two replacements of an engine's registers the second stays. -/
@[simp] theorem State.setEngine_setEngine (s : State) (e : EngineId) (v w : Engine) :
    (s.setEngine e v).setEngine e w = s.setEngine e w := by
  cases e <;> rfl

/-- Another engine's registers after an engine's are replaced. -/
theorem State.engine_setEngine_other {s : State} {e g : EngineId} {v : Engine} (h : g ≠ e) :
    (s.setEngine e v).engine g = s.engine g := by
  cases e <;> cases g <;> first | rfl | exact absurd rfl h

/-- An engine's registers after a store. -/
@[simp] theorem State.engine_storeAs (s : State) (w : Writer) (a n v : Nat) (e : EngineId) :
    (s.storeAs w a n v).engine e = s.engine e := by
  cases e <;> rfl

/-- An engine's group with new contents: the group alone changes, or the status is stored too (R574). -/
theorem State.setIrq_cases (s : State) (e : EngineId) (q : Irq) :
    s.setIrq e q = s.setEngine e { s.engine e with irq := q } ∨
    s.setIrq e q =
      (s.setEngine e { s.engine e with irq := q }).storeAs .agent (s.engine e).hwsPga.toNat 4 q.isr.toNat := by
  simp only [State.setIrq]
  split
  · exact .inr rfl
  · exact .inl rfl

/-- An engine's registers after its group has new contents. -/
@[simp] theorem State.engine_setIrq (s : State) (e : EngineId) (q : Irq) :
    (s.setIrq e q).engine e = { s.engine e with irq := q } := by
  rcases s.setIrq_cases e q with h | h <;> simp [h]

/-- Another engine's registers after an engine's group has new contents. -/
theorem State.engine_setIrq_other {s : State} {e g : EngineId} {q : Irq} (h : g ≠ e) :
    (s.setIrq e q).engine g = s.engine g := by
  rcases s.setIrq_cases e q with hq | hq <;> simp [hq, State.engine_setEngine_other h]

end Sys2Proof.Machine
end

