-- ==== Sys2Proof/Laws/Registers.lean ====
section
/-! SUPPORT. The general register file: reading bytes after bytes are written (R4, R24), and the flag register's bits. -/

namespace Sys2Proof.Machine

/-- A byte of a register that was replaced. -/
theorem setByte_same (r : HWord) (k : Nat) (v : Byte) (hk : k < 32) :
    (setByte r k v).extractLsb' (8 * k) 8 = v := by
  apply BitVec.eq_of_getLsbD_eq
  intro i hi
  have h1 : 8 * k + i < 256 := by omega
  have h2 : ¬ 8 * k + i < 8 * k := by omega
  have h3 : 8 * k + i - 8 * k = i := by omega
  have h4 : (0xFF#256).getLsbD i = true := by
    have : i = 0 ∨ i = 1 ∨ i = 2 ∨ i = 3 ∨ i = 4 ∨ i = 5 ∨ i = 6 ∨ i = 7 := by omega
    rcases this with h | h | h | h | h | h | h | h <;> subst h <;> rfl
  simp [setByte, hi, h1, h3, h4]

/-- The other bytes of a register when one is replaced. -/
theorem setByte_other (r : HWord) (k j : Nat) (v : Byte) (hj : j < 32) (h : j ≠ k) :
    (setByte r k v).extractLsb' (8 * j) 8 = r.extractLsb' (8 * j) 8 := by
  apply BitVec.eq_of_getLsbD_eq
  intro i hi
  have h1 : 8 * j + i < 256 := by omega
  simp only [setByte, BitVec.getLsbD_extractLsb', hi, decide_true, Bool.true_and, BitVec.getLsbD_or,
    BitVec.getLsbD_and, BitVec.getLsbD_not, h1, BitVec.getLsbD_shiftLeft]
  by_cases hl : 8 * j + i < 8 * k
  · simp [hl]
  · have h5 : 8 ≤ 8 * j + i - 8 * k := by omega
    have h6 : (0xFF#256).getLsbD (8 * j + i - 8 * k) = false := by
      have : (0xFF#256) = (0xFF#8).setWidth 256 := rfl
      rw [this, BitVec.getLsbD_setWidth]
      simp [BitVec.getLsbD_of_ge (0xFF#8) _ h5]
    have h7 : (v.setWidth 256).getLsbD (8 * j + i - 8 * k) = false := by
      simp [BitVec.getLsbD_setWidth, BitVec.getLsbD_of_ge v _ h5]
    simp [hl, h6, h7]

/-- A byte of the register file that was written. -/
theorem grfByte_setByte_same (g : Vector HWord 128) (a : Nat) (v : Byte) (ha : a < grfBytes) :
    grfByte (grfSetByte g a v) a = v := by
  have h1 : a / 32 < 128 := by simp only [grfBytes] at ha; omega
  have h2 : a % 32 < 32 := by omega
  simp only [grfByte, grfSetByte]
  rw [show (g.setIfInBounds (a / 32) (setByte (g.getD (a / 32) 0#256) (a % 32) v)).getD (a / 32) 0#256 =
      setByte (g.getD (a / 32) 0#256) (a % 32) v by simp [Vector.getD, h1]]
  exact setByte_same _ _ _ h2

/-- The other bytes of the register file when one is written. -/
theorem grfByte_setByte_other (g : Vector HWord 128) (a b : Nat) (v : Byte) (h : b ≠ a) :
    grfByte (grfSetByte g a v) b = grfByte g b := by
  simp only [grfByte, grfSetByte]
  by_cases hr : a / 32 = b / 32
  · by_cases h1 : b / 32 < 128
    · rw [show (g.setIfInBounds (a / 32) (setByte (g.getD (a / 32) 0#256) (a % 32) v)).getD (b / 32) 0#256 =
          setByte (g.getD (b / 32) 0#256) (a % 32) v by simp [Vector.getD, h1, hr]]
      exact setByte_other _ _ _ _ (by omega) (by omega)
    · simp [Vector.getD, h1]
  · by_cases h1 : b / 32 < 128
    · simp [Vector.getD, h1, hr]
    · simp [Vector.getD, h1]

/-- The register file after a number is written, read outside it. -/
theorem grfByte_write_other : ∀ {n : Nat} {g : Vector HWord 128} {a v b : Nat}, b < a ∨ a + n ≤ b →
    grfByte (grfWrite g a v n) b = grfByte g b
  | 0, _, _, _, _, _ => rfl
  | n + 1, g, a, v, b, h => by
    rw [grfWrite, grfByte_write_other (by omega), grfByte_setByte_other _ _ _ _ (by omega)]

/-- A number read from the register file reads only its own bytes. -/
theorem grfRead_congr : ∀ {n : Nat} {g g' : Vector HWord 128} {a : Nat},
    (∀ b, a ≤ b → b < a + n → grfByte g b = grfByte g' b) → grfRead g a n = grfRead g' a n
  | 0, _, _, _, _ => rfl
  | n + 1, g, g', a, h => by
    simp only [grfRead]
    rw [h a (by omega) (by omega), grfRead_congr (n := n) fun b h1 h2 => h b (by omega) (by omega)]

/-- R24: a number written to the register file reads back, at its width. -/
theorem grfRead_grfWrite : ∀ {n : Nat} {g : Vector HWord 128} {a v : Nat}, a + n ≤ grfBytes →
    grfRead (grfWrite g a v n) a n = v % 256 ^ n
  | 0, _, _, _, _ => by simp [grfRead, Nat.mod_one]
  | n + 1, g, a, v, h => by
    have h0 : grfByte (grfWrite g a v (n + 1)) a = BitVec.ofNat 8 v := by
      rw [grfWrite, grfByte_write_other (by omega)]
      exact grfByte_setByte_same _ _ _ (by omega)
    rw [grfRead, h0, grfWrite, grfRead_grfWrite (n := n) (by omega), pow_succ, Nat.mul_comm (256 ^ n) 256,
      Nat.mod_mul]
    simp

/-- A bit of a DWord that was replaced, and the others. -/
theorem getLsbD_setBit (w : DWord) (k j : Nat) (b : Bool) (hj : j < 32) :
    (setBit w k b).getLsbD j = if j = k then b else w.getLsbD j := by
  have e : (1#32 <<< k).getLsbD j = decide (j = k) := by
    rw [BitVec.getLsbD_shiftLeft, BitVec.getLsbD_one]
    by_cases h : j = k
    · simp [h, show k < 32 by omega]
    · by_cases hl : j < k
      · simp [hl, h]
      · simp [h, show ¬ j - k = 0 by omega]
  cases b
  · rw [show setBit w k false = w &&& ~~~(1#32 <<< k) from rfl, BitVec.getLsbD_and, BitVec.getLsbD_not, e]
    by_cases h : j = k <;> simp [h, hj]
  · rw [show setBit w k true = w ||| (1#32 <<< k) from rfl, BitVec.getLsbD_or, e]
    by_cases h : j = k <;> simp [h]

end Sys2Proof.Machine
end

