-- ==== Sys2Proof/Laws/Run.lean ====
section
/-! SUPPORT. What a turn, a command, a response and a counter can do: the inversion of `turn`, `withThread`, `parsing`,
`deliverAt` and `advanceCounter`. -/

namespace Sys2Proof.Machine

/-- Whose turn it is, is one of the agents that can act. -/
theorem State.turn_mem {s : State} {a : Agent} (h : s.turn = some a) : a ∈ s.agents := by
  unfold State.turn at h
  split at h
  · cases h
  · rename_i b hb
    rw [hb]; simpa using h.symm
  · rename_i hb
    rw [hb]; exact List.mem_of_getElem? h

/-- An agent that alone can act has the turn. -/
theorem State.turn_of_only {s : State} {a : Agent} (h : s.agents = [a]) : s.turn = some a := by
  unfold State.turn; rw [h]

/-- A step in which it is the outside world's turn is its next event. -/
theorem step_input {s : State} {e : HostEvent} {rest : List HostEvent} (h : s.turn = some .input)
    (hi : s.inputs = e :: rest) : step s = ticked (State.apply { s with inputs := rest } e).outcome := by
  simp [step, State.once, h, State.act, State.takeInput, hi]

/-- The thread that acts is resident as it was, or was parked; nothing but the two places of threads changes. -/
theorem State.withThread_cases (s : State) (tid : Nat) :
    s.withThread tid = s ∨ ∃ (k : Nat) (t : Thread) (l : List Thread), s.parked[k]? = some t ∧ s.withThread tid = { s with eu := t, parked := l } := by
  unfold State.withThread
  split
  · exact .inl rfl
  · exact .inl rfl
  · rename_i k _ hk
    obtain ⟨hl, _⟩ := List.findIdx?_eq_some_iff_getElem.1 hk
    refine .inr ⟨k, s.parked[k], if s.eu.resident then s.parked.set k s.eu else s.parked.eraseIdx k,
      List.getElem?_eq_getElem hl, ?_⟩
    rw [List.getD_eq_getElem _ _ hl]

/-- What a command of an engine can do: nothing on an engine that does not parse, else what it does by itself. -/
theorem State.parsing_eq_ok {s t : State} {e : EngineId} {c : State → Exec State} :
    s.parsing e c = .ok t ↔
      ((s.engine e).parses = false ∧ t = s) ∨ ((s.engine e).parses = true ∧ c s = .ok t) := by
  unfold State.parsing
  cases (s.engine e).parses <;> simp [eq_comm]

/-- A response that arrives leaves the pending ones, or there is none there. -/
theorem State.deliverAt_cases (s : State) (k : Nat) :
    (s.pending[k]? = none ∧ s.deliverAt k = s) ∨
    ∃ r, s.pending[k]? = some r ∧ s.deliverAt k = { s.deliver r with pending := s.pending.eraseIdx k } := by
  unfold State.deliverAt
  cases s.pending[k]? with
  | none => exact .inl ⟨rfl, rfl⟩
  | some r => exact .inr ⟨r, rfl, rfl⟩

/-- A counter never falls (R551, 93 section 1.2). -/
theorem le_advanceCounter {w : Nat} (c : BitVec w) (d : Nat) : c.toNat ≤ (advanceCounter c d).toNat := by
  have := c.isLt
  have h : min (c.toNat + d) (2 ^ w - 1) < 2 ^ w := by omega
  rw [advanceCounter, BitVec.toNat_ofNat, Nat.mod_eq_of_lt h]; omega

end Sys2Proof.Machine
end

