-- ==== Sys2Proof/Laws/Send.lean ====
section
/-! SUPPORT. What the issue of a message can do (R135-R138). -/

namespace Sys2Proof.Machine

/-- A send that goes on waits, sends nothing, or is answered by its shared function and finished. -/
theorem issueMessage_cases {f : SendForm} {h : Handler} {s s' : State} (e : issueMessage f h s = .ok s') :
    (sendWaits f = true ∧ s.eu.hasDependency = true ∧ s' = s) ∨
    (∃ t, s.eu.advance (Ctl.bytes (sendCtl f)) = .ok t ∧ s' = { s with eu := t }) ∨
    (∃ m s1 data base, h m s = .ok (s1, data) ∧ m.sfid = f.sfid ∧ m.desc = descriptor s.eu f.desc ∧
      m.ex = sendEx s.eu f ∧ m.eot = sendEot f ∧ m.channels = (sendCtl f).exec.channels ∧
      sendPayload f s.eu (m.desc.extractLsb' 25 4).toNat = .ok m.payload ∧
      responseBase f s.eu (m.desc.extractLsb' 20 5).toNat = .ok base ∧
      responseFits base (m.desc.extractLsb' 20 5).toNat = .ok () ∧
      finishSend s1 (sendCtl f) base (m.desc.extractLsb' 20 5).toNat data (sendEot f) = .ok s') := by
  unfold issueMessage at e
  dsimp only at e
  split at e
  · rename_i hw
    simp only [Bool.and_eq_true] at hw
    simp only [Exec.pure_eq, Except.ok.injEq] at e
    exact .inl ⟨hw.1, hw.2, e.symm⟩
  · simp only [Exec.bind_eq_ok] at e
    obtain ⟨off, _, _, _, e⟩ := e
    split at e
    · simp only [Exec.bind_eq_ok, Exec.pure_eq, Except.ok.injEq] at e
      obtain ⟨t, ht, e⟩ := e
      exact .inr (.inl ⟨t, ht, e.symm⟩)
    · simp only [Exec.bind_eq_ok] at e
      obtain ⟨_, _, _, _, _, _, payload, hp, base, hb, _, ho, ⟨s1, data⟩, hh, e⟩ := e
      exact .inr (.inr ⟨_, s1, data, base, hh, rfl, rfl, rfl, rfl, rfl, hp, hb, ho, e⟩)

/-- A finished send whose thread goes on: only the thread's pointers and the pending responses change. -/
theorem finishSend_not_eot {s s' : State} {k : Ctl} {base : Option Nat} {rlen : Nat} {data : Answer}
    (h : finishSend s k base rlen data false = .ok s') :
    s.eu.ip.toNat + Ctl.bytes k < 2 ^ 32 ∧
      s' = { s with eu := s.eu.goto (BitVec.ofNat 32 (s.eu.ip.toNat + Ctl.bytes k)), pending := s'.pending } := by
  simp only [finishSend, Exec.bind_eq_ok, Exec.pure_eq, Except.ok.injEq, Thread.advance_eq_ok] at h
  obtain ⟨t, ⟨hn, rfl⟩, h⟩ := h
  refine ⟨hn, ?_⟩
  rw [← h]
  simp only [Bool.false_eq_true, if_false]
  split <;> rfl

end Sys2Proof.Machine
end

