-- ==== Sys2Proof/Laws/Space.lean ====
section
/-! SUPPORT. What an access to a message's storage can do, and that every one keeps the form of memory and stores. -/

namespace Sys2Proof.Machine

/-- R21: an access of a thread that goes on is inside the address space, and inside what its context reaches. -/
theorem State.checkAccess_eq_ok {s : State} {a n : Nat} {u : Unit} :
    s.checkAccess a n = .ok u ↔ a + n ≤ addressLimit ∧ a + n ≤ s.limit := by
  simp [State.checkAccess, Exec.bind_eq_ok, require_eq_ok, checkBelow_eq_ok]

/-- Every byte of a tiled element that goes on is inside the address space. -/
theorem checkTiled_bound {s : State} {u : Surface} {off n : Nat} {x : Unit} (h : checkTiled s u off n = .ok x) {k : Nat}
    (hk : k < n) : tiledAddress u (off + k) + 1 ≤ addressLimit := by
  simp only [checkTiled] at h
  cases hs : sequence ((List.range n).map fun k => s.checkAccess (tiledAddress u (off + k)) 1) with
  | error e => simp [hs, Except.map] at h
  | ok l =>
    have hm : s.checkAccess (tiledAddress u (off + k)) 1 ∈ l.map (Except.ok : Unit → Exec Unit) := by
      rw [← sequence_eq_ok hs]
      exact List.mem_map.mpr ⟨k, List.mem_range.mpr hk, rfl⟩
    obtain ⟨v, _, hv⟩ := List.mem_map.mp hm
    exact (State.checkAccess_eq_ok.mp hv.symm).1

/-- A store, whoever makes it, keeps the form of memory and stores. -/
theorem State.storeAs_inv {s : State} {w : Writer} {a n v : Nat} (hs : s.Inv) (ha : a + n ≤ addressLimit) :
    (s.storeAs w a n v).Inv :=
  ⟨Memory.wf_writeLE hs.1 ha, hs.2.1, hs.2.2⟩

/-- A store, whoever makes it, read outside its bytes. -/
theorem State.read_storeAs_other {s : State} {w : Writer} {a n v b : Nat} (h : b < a ∨ a + n ≤ b) :
    Memory.read (s.storeAs w a n v).mem b = Memory.read s.mem b :=
  Memory.read_writeLE_other h

/-- A thread's store keeps the form of memory and stores. -/
theorem State.store_inv {s : State} {c : Coherency} {a n v : Nat} (hs : s.Inv) (ha : a + n ≤ addressLimit) :
    (s.store c a n v).Inv :=
  State.storeAs_inv hs ha

/-- A thread's store, read outside its bytes. -/
theorem State.read_store_other {s : State} {c : Coherency} {a n v b : Nat} (h : b < a ∨ a + n ≤ b) :
    Memory.read (s.store c a n v).mem b = Memory.read s.mem b :=
  State.read_storeAs_other h

/-- The fold that stores a tiled element keeps the form of memory and stores. -/
theorem writeTiled_inv {u : Surface} : ∀ {n : Nat} {s : State} {off v : Nat}, s.Inv →
    (∀ k, k < n → tiledAddress u (off + k) + 1 ≤ addressLimit) → (writeTiled s u off v n).Inv
  | 0, _, _, _, hs, _ => hs
  | n + 1, s, off, v, hs, h => by
    refine writeTiled_inv (n := n) (State.store_inv hs (by simpa using h 0 (by omega))) fun k hk => ?_
    simpa only [show off + 1 + k = off + (k + 1) by omega] using h (k + 1) (by omega)

/-- A tiled element stored, read outside its bytes. -/
theorem read_writeTiled_other {u : Surface} {b : Nat} : ∀ {n : Nat} {s : State} {off v : Nat},
    (∀ k, k < n → b ≠ tiledAddress u (off + k)) → Memory.read (writeTiled s u off v n).mem b = Memory.read s.mem b
  | 0, _, _, _, _ => rfl
  | n + 1, s, off, v, h => by
    have h0 : b ≠ tiledAddress u off := by simpa using h 0 (by omega)
    rw [writeTiled, read_writeTiled_other (n := n), State.read_store_other (by omega)]
    intro k hk
    simpa only [show off + 1 + k = off + (k + 1) by omega] using h (k + 1) (by omega)

/-- A tiled element stored changes graphics memory and what is remembered of its stores, nothing else. -/
theorem writeTiled_frame {u : Surface} : ∀ {n : Nat} {s : State} {off v : Nat},
    writeTiled s u off v n =
      { s with mem := (writeTiled s u off v n).mem, stores := (writeTiled s u off v n).stores }
  | 0, _, _, _ => rfl
  | n + 1, s, off, v => by
    have ih := writeTiled_frame (u := u) (n := n) (s := s.store u.coherency (tiledAddress u off) 1 v) (off := off + 1)
      (v := v / 256)
    simp only [writeTiled]
    rw [ih]
    rfl

/-- What a write of an element can leave: the state as it was, an element of graphics memory, a tiled element, or an
element of a group's shared memory. -/
theorem Space.write_cases {s s' : State} {sp : Space} {off n v : Nat} (h : Space.write s sp off n v = .ok s') :
    s' = s ∨
    (∃ base size c, sp = .memory base size c ∧ off + n ≤ size ∧ base + off + n ≤ addressLimit ∧
      s' = s.store c (base + off) n v) ∨
    (∃ u, sp = .tiled u ∧ off + n ≤ u.bytes ∧ (∀ k, k < n → tiledAddress u (off + k) + 1 ≤ addressLimit) ∧
      s' = writeTiled s u off v n) ∨
    (∃ id size, sp = .slm id size ∧ off + n ≤ size ∧ s' = s.setSlm id (Store.writeLE (s.slmOf id) off v n)) := by
  cases sp with
  | memory base size nc =>
    simp only [Space.write] at h
    split at h
    · rename_i hb
      simp only [Exec.bind_eq_ok, State.checkAccess_eq_ok, Exec.pure_eq, Except.ok.injEq] at h
      obtain ⟨_, ha, h⟩ := h
      exact .inr (.inl ⟨base, size, nc, rfl, hb, ha.1, h.symm⟩)
    · exact .inl (Except.ok.inj h).symm
  | tiled u =>
    simp only [Space.write] at h
    split at h
    · rename_i hb
      simp only [Exec.bind_eq_ok, Exec.pure_eq, Except.ok.injEq] at h
      obtain ⟨_, hc, h⟩ := h
      exact .inr (.inr (.inl ⟨u, rfl, hb, fun k hk => checkTiled_bound hc hk, h.symm⟩))
    · exact .inl (Except.ok.inj h).symm
  | slm id size =>
    simp only [Space.write, Except.ok.injEq] at h
    split at h
    · rename_i hb
      exact .inr (.inr (.inr ⟨id, size, rfl, hb, h.symm⟩))
    · exact .inl h.symm
  | zero => exact .inl (Except.ok.inj h).symm

/-- The shared memory of a group has the form of a store, when every group's has. -/
theorem wf_slmOf {s : State} (hs : ∀ g ∈ s.groups, Store.wf g.slm = true) (id : Nat) : Store.wf (s.slmOf id) = true := by
  unfold State.slmOf
  split
  · rename_i g hg
    exact hs g (List.mem_of_find?_eq_some hg)
  · rfl

/-- A write of an element keeps the form of memory and stores. -/
theorem Space.write_inv {s s' : State} {sp : Space} {off n v : Nat} (h : Space.write s sp off n v = .ok s')
    (hs : s.Inv) : s'.Inv := by
  rcases Space.write_cases h with rfl | ⟨base, size, nc, _, _, ha, rfl⟩ | ⟨u, _, _, ha, rfl⟩ | ⟨id, size, _, _, rfl⟩
  · exact hs
  · exact State.store_inv hs ha
  · exact writeTiled_inv hs ha
  · obtain ⟨hm, hu, hg⟩ := hs
    refine ⟨hm, hu, ?_⟩
    intro g hgm
    simp only [State.setSlm, List.mem_map] at hgm
    obtain ⟨g', hg', rfl⟩ := hgm
    split
    · exact Store.wf_writeLE (wf_slmOf hg id)
    · exact hg g' hg'

/-- A texel's write leaves the state, or stores the texel's bytes inside the address space. -/
theorem Surface.writeTexel_cases {s s' : State} {u : Surface} {x y r lod k : Nat} {v : BitVec 128}
    (h : u.writeTexel s x y r lod k v = .ok s') :
    s' = s ∨ (u.address x y r lod k + min 16 (Config.texelSize u.format) ≤ addressLimit ∧
      s' = s.store u.coherency (u.address x y r lod k) (min 16 (Config.texelSize u.format)) v.toNat) := by
  simp only [Surface.writeTexel] at h
  split at h
  · simp only [Exec.bind_eq_ok, State.checkAccess_eq_ok, Exec.pure_eq, Except.ok.injEq] at h
    obtain ⟨_, ha, h⟩ := h
    exact .inr ⟨ha.1, h.symm⟩
  · exact .inl (Except.ok.inj h).symm

/-- A property of states that every part of a list keeps is kept by the whole list. -/
theorem runAll_induction {α : Type} {f : State → α → Exec State} (P : State → Prop) :
    ∀ {l : List α} {s s' : State}, runAll s l f = .ok s' → P s →
      (∀ a ∈ l, ∀ t t', P t → f t a = .ok t' → P t') → P s'
  | [], s, s', h, hs, _ => by
    have e : s = s' := by simpa [runAll] using h
    exact e ▸ hs
  | a :: l, s, s', h, hs, step => by
    simp only [runAll, Exec.bind_eq_ok] at h
    obtain ⟨t, ht, h⟩ := h
    exact runAll_induction P h (step a (by simp) s t hs ht) fun b hb => step b (List.mem_cons_of_mem _ hb)

/-- The same for parts that answer a value each. -/
theorem runSlots_induction {α : Type} {f : State → Nat → Exec (State × α)} (P : State → Prop) :
    ∀ {l : List Nat} {s s' : State} {as : List α}, runSlots s l f = .ok (s', as) → P s →
      (∀ i ∈ l, ∀ t t' a, P t → f t i = .ok (t', a) → P t') → P s'
  | [], s, s', as, h, hs, _ => by
    have e : s = s' := by
      simp only [runSlots, Except.ok.injEq, Prod.mk.injEq] at h
      exact h.1
    exact e ▸ hs
  | i :: l, s, s', as, h, hs, step => by
    simp only [runSlots, Exec.bind_eq_ok] at h
    obtain ⟨⟨t, a⟩, ht, ⟨t', as'⟩, h', e⟩ := h
    have e' : t' = s' := by
      simp only [Exec.pure_eq, Except.ok.injEq, Prod.mk.injEq] at e
      exact e.1
    subst e'
    exact runSlots_induction P h' (step i (by simp) s t a hs ht) fun j hj => step j (List.mem_cons_of_mem _ hj)

end Sys2Proof.Machine
end

