-- ==== Sys2Proof/Laws/Template.lean ====
section
/-! SUPPORT. What the template of R96 and the write of a place can do. -/

namespace Sys2Proof.Machine

/-- What a write at a place leaves: one element of the register file, one accumulator channel, nothing for the null
register, or an architecture register. -/
theorem writePlace_cases {t u : Thread} {p : Place} {n : Nat} {v : QWord} (h : writePlace t p n v = .ok u) :
    (∃ a, p = .grf a ∧ u = { t with grf := grfWrite t.grf a v.toNat n }) ∨
    (∃ k, p = .acc k ∧ u = { t with acc := t.acc.setIfInBounds k ⟨BitVec.ofNat 64 (v.toNat % 2 ^ (8 * n)), false⟩ }) ∨
    (p = .null ∧ u = t) ∨
    (∃ reg off b, p = .arch reg off ∧ archWrite t reg b = some u) := by
  cases p with
  | grf a => exact .inl ⟨a, rfl, by simpa [writePlace, eq_comm] using h⟩
  | acc k => exact .inr (.inl ⟨k, rfl, by simpa [writePlace, eq_comm] using h⟩)
  | null => exact .inr (.inr (.inl ⟨rfl, by simpa [writePlace, eq_comm] using h⟩))
  | arch reg off =>
    refine .inr (.inr (.inr ?_))
    unfold writePlace at h
    dsimp only at h
    split at h
    · split at h
      · rename_i w hw
        have e : w = u := by simpa using h
        exact ⟨reg, off, _, rfl, e ▸ hw⟩
      · simp [refuse] at h
    · simp [refuse] at h

/-- A property of threads that every enabled write of a place keeps is kept by the whole store. -/
theorem storeLanes_induction {d : Dest} (P : Thread → Prop) :
    ∀ {outs : List (Bool × Place × Lane)} {t u : Thread}, storeLanes d t outs = .ok u → P t →
      (∀ e ∈ outs, e.1 = true → ∀ t' u', P t' → writePlace t' e.2.1 d.ty.size e.2.2.r = .ok u' → P u') → P u
  | [], t, u, h, ht, _ => by
    have e : t = u := by simpa [storeLanes] using h
    exact e ▸ ht
  | (en, p, l) :: rest, t, u, h, ht, step => by
    have rec' : ∀ t', P t' → storeLanes d t' rest = .ok u → P u := fun t' ht' h' =>
      storeLanes_induction P h' ht' fun e he => step e (List.mem_cons_of_mem _ he)
    cases en with
    | false => exact rec' t ht (by simpa [storeLanes] using h)
    | true =>
      cases hw : writePlace t p d.ty.size l.r with
      | error e => simp [storeLanes, hw] at h
      | ok w =>
        exact rec' w (step (true, p, l) (by simp) rfl t w ht hw) (by simpa [storeLanes, hw] using h)

/-- The conditions' store touches only the flag register and the accumulator. -/
theorem storeConditions_eq (k : Ctl) (u : Usage) (off : Nat) (outs : List (Bool × Place × Lane)) (t : Thread) :
    storeConditions k u off outs t =
      { t with flag := (storeConditions k u off outs t).flag, acc := (storeConditions k u off outs t).acc } := by
  unfold storeConditions
  split <;> split <;> rfl

/-- An instruction whose destination is no architecture register goes on at the next instruction. -/
theorem completeAt_of_no_arch {d : Dest} (h : d.archReg = none) (before t : Thread) (sip : DWord) (k : Ctl) (w : Bool) :
    completeAt before t sip k d w = t.advance (Ctl.bytes k) := by
  unfold completeAt
  rw [h]

/-- An instruction that writes no channel goes on at the next instruction, unless its destination is the control register. -/
theorem completeAt_unwritten {d : Dest} (h : d.archReg ≠ some 0x8) (before t : Thread) (sip : DWord) (k : Ctl) :
    completeAt before t sip k d false = t.advance (Ctl.bytes k) := by
  unfold completeAt
  split
  · rename_i e; cases e
  · rename_i e; exact absurd e h
  · rfl

/-- The template goes on exactly when its controls are legal, every channel's operands can be read and its destination
exists, the enabled channels' results can be stored and there is a next instruction; then only the thread changes. -/
theorem channelwise_eq_ok {s s' : State} {k : Ctl} {d : Dest} {u : Usage} {lane : Nat → Exec Lane} :
    channelwise s k d u lane = .ok s' ↔
      ∃ off lanes places t1 t2,
        channelOffset k u.usesDf = .ok off ∧
        checkFlags k u.writesFlags off k.exec.channels = .ok () ∧
        sequence ((List.range k.exec.channels).map lane) = .ok lanes ∧
        sequence ((List.range k.exec.channels).map (dstPlace s.eu d)) = .ok places ∧
        storeLanes d s.eu (((List.range k.exec.channels).map (laneEnabled s.eu k u d off)).zip (places.zip lanes))
          = .ok t1 ∧
        completeAt s.eu (storeConditions k u off
          (((List.range k.exec.channels).map (laneEnabled s.eu k u d off)).zip (places.zip lanes)) t1) s.ctx.sip k d
          (anyWritten (((List.range k.exec.channels).map (laneEnabled s.eu k u d off)).zip (places.zip lanes)))
          = .ok t2 ∧
        s' = { s with eu := t2 } := by
  constructor
  · intro h
    simp only [channelwise, Exec.bind_eq_ok, Exec.pure_eq] at h
    obtain ⟨off, h1, _, h2, lanes, h3, places, h4, t1, h5, t2, h6, h7⟩ := h
    exact ⟨off, lanes, places, t1, t2, h1, h2, h3, h4, h5, h6, by simpa [eq_comm] using h7⟩
  · rintro ⟨off, lanes, places, t1, t2, h1, h2, h3, h4, h5, h6, rfl⟩
    simp [channelwise, h1, h2, h3, h4, h5, h6]

/-- The template changes nothing but the resident thread. -/
theorem channelwise_frame {s s' : State} {k : Ctl} {d : Dest} {u : Usage} {lane : Nat → Exec Lane}
    (h : channelwise s k d u lane = .ok s') : s' = { s with eu := s'.eu } := by
  obtain ⟨_, _, _, _, _, _, _, _, _, _, _, rfl⟩ := channelwise_eq_ok.1 h
  rfl

end Sys2Proof.Machine
end

