-- ==== Sys2Proof/Machine/LayoutHost.lean ====
section
/-! DEFINITION. Bit layouts, as data: the interrupt, context, report and power structures of 60_exceptions.md, row by row as the spec prints them. -/

namespace Sys2Proof.Machine

open Layout (f)

/-- BCS Hardware-Detected Error Bit Definitions (R557). -/
def layoutBcsHardwareDetectedErrorBitDefinitions : Layout where
  name := "BCS Hardware-Detected Error Bit Definitions"
  words := 1
  bits := 16
  fields :=
    [f "Instruction Error" 0 0 .raw, f "" 1 1 .mbz, f "Command Privilege Violation Error" 2 2 .raw, f "" 15 3 .mbz]

/-- Bit Definition for Interrupt Control Registers - Blitter (R558). -/
def layoutBitDefinitionForInterruptControlRegistersBlitter : Layout where
  name := "Bit Definition for Interrupt Control Registers - Blitter"
  words := 1
  fields :=
    [f "" 15 0 .mbz, f "Blitter Command Parser User Interrupt" 16 16 .raw, f "" 18 17 .mbz,
     f "Blitter Command Parser Master Error" 19 19 .raw, f "MI_FLUSH_DW Notify Interrupt" 20 20 .raw,
     f "" 21 21 .mbz, f "Timeout Counter Expired" 22 22 .raw, f "" 23 23 .mbz,
     f "Context Switch Interrupt" 24 24 .raw, f "" 26 25 .mbz, f "Wait on Semaphore" 27 27 .raw, f "" 31 28 .mbz]

/-- Bit Definition for Interrupt Control Registers - Media#1 (R559). -/
def layoutBitDefinitionForInterruptControlRegistersMedia1 : Layout where
  name := "Bit Definition for Interrupt Control Registers - Media#1"
  words := 1
  fields :=
    [f "Video Command Parser User Interrupt" 0 0 .raw, f "" 2 1 .mbz, f "Video Command Parser Master Error" 3 3 .raw,
     f "MI_FLUSH_DW Notify Interrupt" 4 4 .raw, f "" 5 5 .reserved, f "Timeout Counter Expired" 6 6 .raw,
     f "" 7 7 .mbz, f "Context Switch Interrupt" 8 8 .raw, f "" 9 9 .reserved, f "" 10 10 .mbz,
     f "Wait on Semaphore" 11 11 .raw, f "" 15 12 .mbz, f "" 31 16 .mbz]

/-- Bit Definition for Interrupt Control Registers - Media#2 (R560). -/
def layoutBitDefinitionForInterruptControlRegistersMedia2 : Layout where
  name := "Bit Definition for Interrupt Control Registers - Media#2"
  words := 1
  fields :=
    [f "" 15 0 .mbz, f "Video Command Parser User Interrupt" 16 16 .raw, f "" 18 17 .mbz,
     f "Video Command Parser Master Error" 19 19 .raw, f "MI_FLUSH_DW Notify Interrupt" 20 20 .raw,
     f "" 21 21 .reserved, f "Timeout Counter Expired" 22 22 .raw, f "" 23 23 .mbz,
     f "Context Switch Interrupt" 24 24 .raw, f "" 25 25 .reserved, f "" 26 26 .mbz,
     f "Wait on Semaphore" 27 27 .raw, f "" 31 28 .mbz]

/-- Bit Definition for Interrupt Control Registers - Render (R561). -/
def layoutBitDefinitionForInterruptControlRegistersRender : Layout where
  name := "Bit Definition for Interrupt Control Registers - Render"
  words := 1
  fields :=
    [f "Render Command Parser User Interrupt" 0 0 .raw, f "" 1 1 .reserved, f "" 2 2 .mbz,
     f "Render Command Parser Master Error" 3 3 .raw, f "PIPE_CONTROL Notify Interrupt" 4 4 .raw, f "" 5 5 .mbz,
     f "Timeout Counter Expired" 6 6 .raw, f "Page Fault" 7 7 .raw, f "Context Switch Interrupt" 8 8 .raw,
     f "TR Invalid Tile Detection" 9 9 .raw, f "L3 Counter Save Interrupt" 10 10 .raw,
     f "Wait on Semaphore" 11 11 .raw, f "" 15 12 .mbz, f "" 31 16 .mbz]

/-- Bit Definition for Interrupt Control Registers - Video Enhancement (R562). -/
def layoutBitDefinitionForInterruptControlRegistersVideoEnhancement : Layout where
  name := "Bit Definition for Interrupt Control Registers - Video Enhancement"
  words := 1
  fields :=
    [f "Video Enhancement Command Parser User Interrupt" 0 0 .raw, f "" 2 1 .mbz,
     f "Video Enhancement Command Parser Master Error" 3 3 .raw, f "MI_FLUSH_DW Notify Interrupt" 4 4 .raw,
     f "" 5 5 .mbz, f "Timeout Counter Expired" 6 6 .raw, f "" 7 7 .mbz, f "Context Switch Interrupt" 8 8 .raw,
     f "" 9 9 .mbz, f "" 10 10 .mbz, f "Wait on Semaphore" 11 11 .raw, f "" 31 12 .mbz]

/-- Context Descriptor Format (R565). -/
def layoutContextDescriptorFormat : Layout where
  name := "Context Descriptor Format"
  words := 2
  fields :=
    [f "Valid" 0 0 .raw, f "Force PD Restore" 1 1 .raw, f "Force Restore" 2 2 .raw,
     f "Addressing Mode & Legacy Context" 4 3 (.u 0), f "" 5 5 .mbz, f "Fault Handling" 7 6 (.codes [0, 1, 2]) (.codes 3 3 [0]), f "Fault Handling" 7 6 (.codes [0]) (.codes 3 3 [1]),
     f "Privilege Access" 8 8 .raw (.codes 3 3 [1]), f "" 8 8 .mbz (.codes 3 3 [0]), f "" 11 9 .mbz, f "Logical Ring Context Address (LRCA)" 31 12 (.scaled 12),
     f "Context ID" 63 32 (.u 0)]

/-- Of a Context Status: a wait on a sync flip, V-blank or scanline (R569). -/
def waitDisplay : FieldCond := .unless (.both (.codes 6 5 [0]) (.codes 8 8 [0]))

/-- Context Status (R569). -/
def layoutContextStatus : Layout where
  name := "Context Status"
  words := 2
  fields :=
    [f "IDLE to ACTIVE" 0 0 .raw, f "Preempted" 1 1 .raw, f "Element Switch" 2 2 .raw, f "ACTIVE to IDLE" 3 3 .raw,
     f "Context Complete" 4 4 .raw, f "Wait on Sync Flip" 5 5 .raw, f "Wait on V-blank" 6 6 .raw,
     f "Wait on Semaphore" 7 7 .raw, f "Wait on Scanline" 8 8 .raw, f "" 10 9 .mbz,
     f "Semaphore Wait Mode" 11 11 .raw, f "Display Plane Additional" 14 12 (.codes [0, 1, 2, 3, 4, 5]) (.both waitDisplay (.codes 19 16 [0])), f "Lite Restore" 15 15 .raw,
     f "Display Plane" 19 16 (.codes [0, 3, 4, 5, 6, 7, 8]) waitDisplay, f "" 24 20 .mbz, f "" 27 25 .mbz, f "" 28 28 .reserved, f "" 29 29 .mbz,
     f "" 31 30 .mbz, f "Context ID" 63 32 .raw]

/-- Hardware-Detected Error Bit Definitions (R573). -/
def layoutHardwareDetectedErrorBitDefinitions : Layout where
  name := "Hardware-Detected Error Bit Definitions"
  words := 1
  fields :=
    [f "Instruction Error" 0 0 .raw, f "" 1 1 .mbz, f "Command Privilege Violation Error" 2 2 .raw,
     f "" 6 3 .reserved, f "" 7 7 .reserved, f "" 31 8 .mbz]

/-- LRI_DATA (R577). -/
def layoutLriData : Layout where
  name := "LRI_DATA"
  words := 2
  fields :=
    [f "Data" 31 0 (.u 0), f "MMIO" 54 32 (.u 0), f "" 33 32 .mbz, f "" 63 55 .mbz]

/-- Performance Counter Report Format 101b (R578). -/
def layoutPerformanceCounterReportFormat101b : Layout where
  name := "Performance Counter Report Format 101b"
  words := 64
  fields :=
    [f "" 31 0 .raw, f "" 63 32 .raw, f "" 95 64 .raw, f "" 127 96 .raw, f "A-Cntr 0 (low dword)" 159 128 .raw,
     f "A-Cntr 1 (low dword)" 191 160 .raw, f "A-Cntr 2 (low dword)" 223 192 .raw,
     f "A-Cntr 3 (low dword)" 255 224 .raw, f "A-Cntr 4 (low dword)" 287 256 .raw,
     f "A-Cntr 5 (low dword)" 319 288 .raw, f "A-Cntr 6 (low dword)" 351 320 .raw,
     f "A-Cntr 7 (low dword)" 383 352 .raw, f "A-Cntr 8 (low dword)" 415 384 .raw,
     f "A-Cntr 9 (low dword)" 447 416 .raw, f "A-Cntr 10 (low dword)" 479 448 .raw,
     f "A-Cntr 11 (low dword)" 511 480 .raw, f "A-Cntr 12 (low dword)" 543 512 .raw,
     f "A-Cntr 13 (low dword)" 575 544 .raw, f "A-Cntr 14 (low dword)" 607 576 .raw,
     f "A-Cntr 15 (low dword)" 639 608 .raw, f "A-Cntr 16 (low dword)" 671 640 .raw,
     f "A-Cntr 17 (low dword)" 703 672 .raw, f "A-Cntr 18 (low dword)" 735 704 .raw,
     f "A-Cntr 19 (low dword)" 767 736 .raw, f "A-Cntr 20 (low dword)" 799 768 .raw,
     f "A-Cntr 21 (low dword)" 831 800 .raw, f "A-Cntr 22 (low dword)" 863 832 .raw,
     f "A-Cntr 23 (low dword)" 895 864 .raw, f "A-Cntr 24 (low dword)" 927 896 .raw,
     f "A-Cntr 25 (low dword)" 959 928 .raw, f "A-Cntr 26 (low dword)" 991 960 .raw,
     f "A-Cntr 27 (low dword)" 1023 992 .raw, f "A-Cntr 28 (low dword)" 1055 1024 .raw,
     f "A-Cntr 29 (low dword)" 1087 1056 .raw, f "A-Cntr 30 (low dword)" 1119 1088 .raw,
     f "A-Cntr 31 (low dword)" 1151 1120 .raw] ++
    [f "A-Cntr 32 (low dword)" 1183 1152 .raw, f "A-Cntr 33 (low dword)" 1215 1184 .raw,
     f "A-Cntr 34 (low dword)" 1247 1216 .raw, f "A-Cntr 35 (low dword)" 1279 1248 .raw,
     f "High byte of A0" 1287 1280 .raw, f "High byte of A1" 1295 1288 .raw, f "High byte of A2" 1303 1296 .raw,
     f "High byte of A3" 1311 1304 .raw, f "High byte of A4" 1319 1312 .raw, f "High byte of A5" 1327 1320 .raw,
     f "High byte of A6" 1335 1328 .raw, f "High byte of A7" 1343 1336 .raw, f "High byte of A8" 1351 1344 .raw,
     f "High byte of A9" 1359 1352 .raw, f "High byte of A10" 1367 1360 .raw, f "High byte of A11" 1375 1368 .raw,
     f "High byte of A12" 1383 1376 .raw, f "High byte of A13" 1391 1384 .raw, f "High byte of A14" 1399 1392 .raw,
     f "High byte of A15" 1407 1400 .raw, f "High byte of A16" 1415 1408 .raw, f "High byte of A17" 1423 1416 .raw,
     f "High byte of A18" 1431 1424 .raw, f "High byte of A19" 1439 1432 .raw, f "High byte of A20" 1447 1440 .raw,
     f "High byte of A21" 1455 1448 .raw, f "High byte of A22" 1463 1456 .raw, f "High byte of A23" 1471 1464 .raw,
     f "High byte of A24" 1479 1472 .raw, f "High byte of A25" 1487 1480 .raw, f "High byte of A26" 1495 1488 .raw,
     f "High byte of A27" 1503 1496 .raw, f "High byte of A28" 1511 1504 .raw, f "High byte of A29" 1519 1512 .raw,
     f "High byte of A30" 1527 1520 .raw, f "High byte of A31" 1535 1528 .raw] ++
    [f "B-Cntr 0" 1567 1536 .raw, f "B-Cntr 1" 1599 1568 .raw, f "B-Cntr 2" 1631 1600 .raw,
     f "B-Cntr 3" 1663 1632 .raw, f "B-Cntr 4" 1695 1664 .raw, f "B-Cntr 5" 1727 1696 .raw,
     f "B-Cntr 6" 1759 1728 .raw, f "B-Cntr 7" 1791 1760 .raw, f "C-Cntr 0" 1823 1792 .raw,
     f "C-Cntr 1" 1855 1824 .raw, f "C-Cntr 2" 1887 1856 .raw, f "C-Cntr 3" 1919 1888 .raw,
     f "C-Cntr 4" 1951 1920 .raw, f "C-Cntr 5" 1983 1952 .raw, f "C-Cntr 6" 2015 1984 .raw,
     f "C-Cntr 7" 2047 2016 .raw]

/-- Power Clock State Format (R579). -/
def layoutPowerClockStateFormat : Layout where
  name := "Power Clock State Format"
  words := 1
  bits := 31
  fields :=
    [f "EUmin" 3 0 .raw, f "EUmax" 7 4 .raw, f "" 11 8 .mbz, f "" 8 8 .reserved, f "" 14 12 .mbz,
     f "Slice Count Request" 17 15 (.codes [1, 2, 3, 4, 5, 6]) (.codes 18 18 [1]), f "Enable Slice Count Request" 18 18 .raw, f "" 19 19 .mbz, f "" 30 20 .mbz]

/-- PPHWSP_LAYOUT (R580). -/
def layoutPphwspLayout : Layout where
  name := "PPHWSP_LAYOUT"
  words := 1021
  fields :=
    [f "" 127 0 .reserved, f "Ring Head Pointer Storage" 159 128 .raw, f "" 511 160 .reserved,
     f "Cumulative Context Run Time" 543 512 .raw, f "Element Switch" 544 544 .raw, f "" 575 545 .reserved,
     f "Preempt Request Received Timestamp" 639 576 .raw, f "Context Restore Complete Timestamp" 703 640 .raw,
     f "Context Save Finished Timestamp" 767 704 .raw, f "MI_SEMAPHORE_WAIT" 895 768 .raw, f "" 1023 896 .reserved,
     f "" 1087 1024 .reserved, f "" 32671 1088 .reserved]

/-- VCS Hardware-Detected Error Bit Definitions (R582). -/
def layoutVcsHardwareDetectedErrorBitDefinitions : Layout where
  name := "VCS Hardware-Detected Error Bit Definitions"
  words := 1
  bits := 16
  fields :=
    [f "Instruction Error" 0 0 .raw, f "" 1 1 .mbz, f "Command Privilege Violation Error" 2 2 .raw, f "" 15 3 .mbz]

/-- VECS Hardware-Detected Error Bit Definitions (R583). -/
def layoutVecsHardwareDetectedErrorBitDefinitions : Layout where
  name := "VECS Hardware-Detected Error Bit Definitions"
  words := 1
  bits := 16
  fields :=
    [f "Instruction Error" 0 0 .raw, f "" 1 1 .mbz, f "Command Privilege Violation Error" 2 2 .raw, f "" 15 3 .mbz]

end Sys2Proof.Machine
end

