-- ==== Sys2Proof/Machine/LayoutMedia.lean ====
section
/-! DEFINITION. Bit layouts, as data: the media, GPGPU and codec structures of 48_media_gpgpu_codec.md, row by row as the spec prints them. -/

namespace Sys2Proof.Machine

open Layout (f)

/-- AVC CABAC (R471). -/
def layoutAvcCabac : Layout where
  name := "AVC CABAC"
  words := 1
  bits := 16
  fields :=
    [f "MB Concealment Flag" 0 0 .raw, f "Luma Intra prediction Mode Error" 1 1 .raw,
     f "Chroma Intra prediction Mode Error" 2 2 .raw, f "Slice end Error" 3 3 .raw, f "Residual Error" 4 4 .raw,
     f "Reference Index SE Error" 5 5 .raw, f "Motion Vector Delta SE Error" 6 6 .raw,
     f "MacroBlock QpDelta Error" 7 7 .raw, f "Reference Index SE Out-of-Bound Error" 8 8 .raw,
     f "Motion Vector Delta SE Out-of-Bound Error" 9 9 .raw, f "" 10 10 .mbz,
     f "Temporal Direction Motion Vector Out-of-Bound Error" 11 11 .raw, f "" 12 12 .mbz, f "" 13 13 .mbz,
     f "Coefficient level out-of-bound Error" 14 14 .raw, f "" 15 15 .mbz]

/-- AVC CAVLC (R472). -/
def layoutAvcCavlc : Layout where
  name := "AVC CAVLC"
  words := 1
  bits := 16
  fields :=
    [f "MB Concealment Flag" 0 0 .raw, f "Luma Intra prediction Mode Error" 1 1 .raw,
     f "Chroma Intra prediction Mode Error" 2 2 .raw, f "Mbytpe/submbtype Error" 3 3 .raw,
     f "Macroblock Coded Block Pattern Error" 4 4 .raw, f "Total Coeff SE Error" 5 5 .raw,
     f "Exponential Golomb Error" 6 6 .raw, f "RunBefore/TotalZero Error" 7 7 .raw,
     f "Reference Index SE Out-of-Bound Error" 8 8 .raw, f "Motion Vector Delta SE Out-of-Bound Error" 9 9 .raw,
     f "" 10 10 .reserved, f "Temporal Direction Motion Vector Out-of-Bound Error" 11 11 .raw,
     f "Total coefficient Out-of-bound Error" 12 12 .raw, f "RunBefore out-of-bound Error" 13 13 .raw,
     f "Coefficient level out-of-bound Error" 14 14 .raw, f "Total Zero out-of-bound Error" 15 15 .raw]

/-- AVS_Inline_DMEM (R473). -/
def layoutAvsInlineDmem : Layout where
  name := "AVS_Inline_DMEM"
  words := 24
  fields :=
    [f "hw_used_bits" 2 0 .raw, f "" 31 3 .mbz, f "hw_width" 45 32 .raw, f "" 63 46 .mbz, f "hw_height" 77 64 .raw,
     f "" 95 78 .mbz, f "hw_MbMax" 127 96 .raw, f "hw_chroma_format" 129 128 .raw, f "" 159 130 .mbz,
     f "hw_picture_coding_type" 161 160 .raw, f "" 191 162 .mbz, f "hw_picture_distance" 199 192 .raw,
     f "" 223 200 .mbz, f "hw_picture_structure" 224 224 .raw, f "" 255 225 .mbz, f "" 575 256 .mbz,
     f "hw_fixed_picture_qp" 576 576 .raw, f "" 607 577 .mbz, f "hw_picture_qp" 613 608 .raw, f "" 639 614 .mbz,
     f "hw_picture_reference_flag" 640 640 .raw, f "" 671 641 .mbz, f "hw_skip_mode_flag" 672 672 .raw,
     f "" 703 673 .mbz, f "hw_loop_filter_diable" 704 704 .raw, f "" 735 705 .mbz, f "" 767 736 .mbz]

/-- Encoder Control State Parameters0 (R474). -/
def layoutEncoderControlStateParameters0 : Layout where
  name := "Encoder Control State Parameters0"
  words := 10
  fields :=
    [f "" 0 0 .reserved, f "" 1 1 .mbz, f "Conditional Replenishment Enable" 2 2 (.u 0), f "" 3 3 .mbz,
     f "" 4 4 .reserved, f "" 26 5 .mbz, f "AVC Encoder Chroma Sub-sample type" 28 27 (.codes [0, 1, 2]),
     f "" 29 29 .reserved, f "" 31 30 .mbz, f "" 47 32 .reserved,
     f "GOP-level indirect user-defined NAL data packet - enable" 48 48 .raw, f "" 63 49 .mbz, f "" 79 64 .reserved,
     f "Frame-level indirect user-defined NAL data packet - enable" 80 80 .raw, f "" 95 81 .mbz, f "" 127 96 .mbz,
     f "" 159 128 .mbz, (f "log2 Maximum Frame Number Minus4" 163 160 (.u 0)).within 0 12, f "" 175 164 .mbz,
     f "GOP size parameter" 191 176 (.u 0) (.codes 2 2 [1]), f "GOP size parameter" 191 176 (.codes [1]) (.codes 2 2 [0]), f "" 223 192 .mbz, f "Rounding Intra (N)" 226 224 (.u 0),
     f "Round Intra Enable" 227 227 .raw, f "Rounding Inter (N)" 230 228 (.u 0), f "Round Inter Enable" 231 231 .raw,
     f "" 239 232 .mbz, (f "Chroma QP Offset, Chroma_qp_offset[4:0]" 244 240 (.s 0)).within (-12) 12, f "" 247 245 .mbz,
     (f "Second Chroma QP Offset, Chroma_qp_offset[9:5]" 252 248 (.s 0)).within (-12) 12, f "" 254 253 .mbz,
     f "Transform 8x8 Flag" 255 255 .raw, f "" 287 256 .mbz, f "" 303 288 .mbz,
     f "Slice Pattern Per MB Row" 306 304 (.codes [0, 1, 2, 3, 4]), f "" 319 307 .mbz]

/-- FrameDeltaQp (R477). -/
def layoutFrameDeltaQp : Layout where
  name := "FrameDeltaQp"
  words := 2
  fields :=
    [f "FrameDeltaQp[0]" 7 0 (.s 0), f "FrameDeltaQp[1]" 15 8 (.s 0), f "FrameDeltaQp[2]" 23 16 (.s 0),
     f "FrameDeltaQp[3]" 31 24 (.s 0), f "FrameDeltaQp[4]" 39 32 (.s 0), f "FrameDeltaQp[5]" 47 40 (.s 0),
     f "FrameDeltaQp[6]" 55 48 (.s 0), f "FrameDeltaQp[7]" 63 56 (.s 0)]

/-- FrameDeltaQpRange (R478). -/
def layoutFrameDeltaQpRange : Layout where
  name := "FrameDeltaQpRange"
  words := 2
  fields :=
    [f "FrameDeltaQpRange[0]" 7 0 (.u 0), f "FrameDeltaQpRange[1]" 15 8 (.u 0),
     f "FrameDeltaQpRange[2]" 23 16 (.u 0), f "FrameDeltaQpRange[3]" 31 24 (.u 0),
     f "FrameDeltaQpRange[4]" 39 32 (.u 0), f "FrameDeltaQpRange[5]" 47 40 (.u 0),
     f "FrameDeltaQpRange[6]" 55 48 (.u 0), f "FrameDeltaQpRange[7]" 63 56 (.u 0)]

/-- MemoryAddressAttributes (R487). -/
def layoutMemoryAddressAttributes : Layout where
  name := "MemoryAddressAttributes"
  words := 1
  fields :=
    [f "" 0 0 .reserved, f "Base Address - Index to Memory Object Control State (MOCS) Table" 6 1 (.u 0),
     f "Base Address - Arbitration Priority Control" 8 7 .raw, f "Base Address - Memory Compression Enable" 9 9 .raw,
     f "Base Address - Memory Compression Mode" 10 10 .mbz, f "" 11 11 .mbz,
     f "Base Address - Row Store Scratch Buffer Cache Select" 12 12 (.u 0),
     f "Base Address - Tiled Resource Mode" 14 13 (.codes [0, 1, 2]), f "" 31 15 .mbz]

/-- HCP_PAK_INSERT_OBJECT_INDIRECT_PAYLOAD (R479). -/
def layoutHcpPakInsertObjectIndirectPayload : Layout where
  name := "HCP_PAK_INSERT_OBJECT_INDIRECT_PAYLOAD"
  words := 4
  fields :=
    [f "Indirect Payload Data Size in bits" 31 0 (.u 0)] ++ layoutSplitBaseAddress64ByteAligned.at 1 ++
      layoutMemoryAddressAttributes.at 3

/-- HEVC_ARBITRATION_PRIORITY (R480). -/
def layoutHevcArbitrationPriority : Layout where
  name := "HEVC_ARBITRATION_PRIORITY"
  words := 1
  bits := 2
  fields :=
    [f "Priority" 1 0 (.u 0)]

/-- MFD_AVC_BSD_Object inline data (R481). -/
def layoutMfdAvcBsdObjectInlineData : Layout where
  name := "MFD_AVC_BSD_Object inline data"
  words := 3
  fields :=
    [f "MB Error Concealment P Slice Weight Prediction Disable Flag" 0 0 .raw,
     f "MB Error Concealment P Slice Motion Vectors Override Disable Fla" 1 1 .raw, f "" 2 2 .mbz,
     f "MB Error Concealment B Spatial Weight Prediction Disable Flag" 3 3 .raw,
     f "MB Error Concealment B Spatial Motion Vectors Override Disable F" 4 4 .raw, f "" 5 5 .mbz,
     f "MB Error Concealment B Spatial Prediction mode" 7 6 (.codes [0, 1, 2]),
     f "MB Header Error Handling" 8 8 .raw, f "" 9 9 .mbz, f "Entropy Error Handling" 10 10 .raw, f "" 11 11 .mbz,
     f "MPR Error (MV out of range) Handling" 12 12 .raw, f "" 13 13 .mbz,
     f "BSD Premature Complete Error Handling" 14 14 .raw, f "" 15 15 .mbz, f "Concealment Picture ID" 21 16 .raw,
     f "" 23 22 .mbz, f "MB Error Concealment B Temporal Weight Prediction Disable Flag" 24 24 .raw,
     f "MB Error Concealment B Temporal Motion Vectors Override Enable F" 25 25 .raw, f "" 26 26 .mbz,
     f "MB Error Concealment B Temporal Prediction mode" 28 27 (.codes [0, 1, 2]),
     f "Intra PredMode (4x4/8x8 Luma) Error Control Bit" 29 29 .raw, f "Init Current MB Number" 30 30 .raw,
     f "Concealment Method" 31 31 .raw, f "First Macroblock (MB)Bit Offset" 34 32 (.u 0) (.given "AVC Long Format"),
     f "LastSlice Flag" 35 35 .raw, f "Emulation Prevention Byte Present" 36 36 .raw, f "" 38 37 .mbz,
     f "Fix Prev Mb Skipped" 39 39 .raw, f "" 47 40 .mbz,
     f "First MB Byte Offset of Slice Data or Slice Header" 63 48 .raw,
     f "Intra Prediction Error Control Bit (applied to Intra16x16/Intra8" 64 64 .raw,
     f "Intra 8x8/4x4 Prediction Error Concealment Control Bit" 65 65 .raw, f "" 67 66 .mbz,
     f "B Slice Temporal Inter Concealment Mode" 70 68 (.codes [0, 1, 2, 3, 4]), f "" 71 71 .mbz] ++
    [f "B Slice Spatial Inter Concealment Mode" 74 72 (.codes [0, 1, 3, 4]), f "" 75 75 .mbz,
     f "B Slice Inter Direct Type Concealment Mode" 77 76 .raw, f "" 78 78 .mbz,
     f "B Slice Concealment Mode" 79 79 .raw, f "P Slice Inter Concealment Mode" 82 80 (.codes [0, 1, 2, 3, 4]),
     f "" 86 83 .mbz, f "P Slice Concealment Mode" 87 87 .raw,
     f "Concealment Reference Picture + Field Bit" 93 88 .raw, f "Field Bit" 88 88 .mbz (.given "Frame picture"),
     f "" 93 93 .mbz, f "" 94 94 .mbz,
     f "I Slice Concealment Mode" 95 95 .raw]

/-- VP8 PAK OBJECT inline data (R482). -/
def layoutVp8PakObjectInlineData : Layout where
  name := "VP8 PAK OBJECT inline data"
  words := 12
  fields :=
    [f "" 1 0 .mbz, f "Skip MB Flag" 2 2 (.u 0), f "" 3 3 .mbz, f "MB UV Mode" 5 4 (.u 0), f "" 7 6 .mbz,
     f "MB Type 3-Bits - Inter/Intra MB" 10 8 (.codes [0, 1, 2, 3, 4]) (.codes 13 13 [0]),
     f "MB Type 3-Bits - Inter/Intra MB" 8 8 .raw (.codes 13 13 [1]), f "RefPicSelect" 12 11 (.codes [0, 1, 2]) (.codes 13 13 [0]),
     f "Intra MB Flag" 13 13 (.u 0), f "Intra MB Flag" 13 13 (.codes [1]) (.given "Key picture"), f "" 16 14 .mbz,
     f "Enable Coeff Clamp" 17 17 (.u 0),
     f "SegmentID" 19 18 (.u 0), f "MV Format(Motion Vector Size)" 22 20 (.codes [0, 4]) (.codes 13 13 [0]),
     f "MV Format(Motion Vector Size)" 22 20 .mbz (.codes 13 13 [1]), f "" 31 23 .mbz,
     f "MbXCnt (Horizontal Origin)" 39 32 .raw, f "" 47 40 .mbz, f "MbYCnt (Vertical Origin)" 55 48 .raw,
     f "" 63 56 .mbz, f "B Mode for SubBlock 0" 67 64 (.u 0), f "B Mode for SubBlock 1" 71 68 (.u 0),
     f "B Mode for SubBlock 2" 75 72 (.u 0), f "B Mode for SubBlock 3" 79 76 (.u 0),
     f "B Mode for SubBlock 4" 83 80 (.u 0), f "B Mode for SubBlock 5" 87 84 (.u 0),
     f "B Mode for SubBlock 6" 91 88 (.u 0), f "B Mode for SubBlock 7" 95 92 (.u 0),
     f "B Mode for SubBlock 8" 99 96 (.u 0), f "B Mode for SubBlock 9" 103 100 (.u 0),
     f "B Mode for SubBlock 10" 107 104 (.u 0), f "B Mode for SubBlock 11" 111 108 (.u 0),
     f "B Mode for SubBlock 12" 115 112 (.u 0), f "B Mode for SubBlock 13" 119 116 (.u 0),
     f "B Mode for SubBlock 14" 123 120 (.u 0), f "B Mode for SubBlock 15" 127 124 (.u 0),
     f "MV X FWD 0" 143 128 (.u 0), f "MV Y FWD 0" 159 144 (.u 0), f "MV X FWD 1" 175 160 (.u 0)] ++
    [f "MV Y FWD 1" 191 176 (.u 0), f "MV X FWD 2" 207 192 (.u 0), f "MV Y FWD 2" 223 208 (.u 0),
     f "MV X FWD 3" 239 224 (.u 0), f "MV Y FWD 3" 255 240 (.u 0), f "MV X BWD 0" 271 256 (.u 0),
     f "MV Y BWD 0" 287 272 (.u 0), f "MV X BWD 1" 303 288 (.u 0), f "MV Y BWD 1" 319 304 (.u 0),
     f "MV X BWD 2" 335 320 (.u 0), f "MV Y BWD 2" 351 336 (.u 0), f "MV X BWD 3" 367 352 (.u 0),
     f "MV Y BWD 3" 383 368 (.u 0)]

/-- INTERFACE_DESCRIPTOR_DATA (R484). -/
def layoutInterfaceDescriptorData : Layout where
  name := "INTERFACE_DESCRIPTOR_DATA"
  words := 8
  fields :=
    [f "" 5 0 .mbz, f "Kernel Start Pointer" 31 6 (.scaled 6), f "Kernel Start Pointer High" 47 32 (.scaled 32), f "" 63 48 .mbz,
     f "" 70 64 .mbz, f "Software Exception Enable" 71 71 .raw, f "" 74 72 .mbz,
     f "Mask Stack Exception Enable" 75 75 .raw, f "" 76 76 .mbz, f "Illegal Opcode Exception Enable" 77 77 .raw,
     f "" 79 78 .mbz, f "Floating Point Mode" 80 80 (.u 0), f "Thread Priority" 81 81 (.u 0),
     f "Single Program Flow" 82 82 (.u 0), f "Denorm Mode" 83 83 (.u 0), f "" 95 84 .mbz, f "" 97 96 .mbz,
     f "Sampler Count" 100 98 (.codes [0, 1, 2, 3, 4]), f "Sampler State Pointer" 127 101 (.scaled 5),
     f "Binding Table Entry Count" 132 128 (.u 0), f "Binding Table Pointer" 143 133 (.scaled 5), f "" 159 144 .mbz,
     (f "Constant URB Entry Read Offset" 175 160 (.u 0) (.unless (.codes 191 176 [0]))).within 0 1983,
     f "Constant URB Entry Read Offset" 175 160 .ignored (.codes 191 176 [0]),
     (f "Constant/Indirect URB Entry Read Length" 191 176 (.u 0)).within 0 63,
     (f "Number of Threads in GPGPU Thread Group" 201 192 (.u 0) (.given "GPGPU")).within 1 1023, f "" 204 202 .mbz, f "" 206 205 .mbz,
     f "Global Barrier Enable" 207 207 .mbz, f "Shared Local Memory Size" 212 208 (.codes [0, 1, 2, 3, 4, 5, 6, 7]),
     f "Barrier Enable" 213 213 .raw, f "Rounding Mode" 215 214 (.u 0), f "" 223 216 .mbz,
     (f "Cross-Thread Constant Data Read Length" 231 224 (.u 0)).within 0 127, f "" 255 232 .mbz]

/-- JPEG (R486). -/
def layoutJpeg : Layout where
  name := "JPEG"
  words := 1
  bits := 16
  fields :=
    [f "Missing ECS Error" 0 0 .raw, f "Extra ECS Error" 1 1 .raw, f "Missing block Error" 2 2 .raw,
     f "Extra Block Error" 3 3 .raw, f "Inconsistent VLD SE Error" 4 4 .raw, f "" 15 5 .mbz]

/-- MFD_MPEG2_BSD_OBJECT inline data (R488). -/
def layoutMfdMpeg2BsdObjectInlineData : Layout where
  name := "MFD_MPEG2_BSD_OBJECT inline data"
  words := 2
  fields :=
    [f "First Macroblock Bit Offset" 2 0 (.u 0), f "Is Last MB" 3 3 (.u 0), f "" 4 4 .reserved,
     f "Last Pic Slice" 5 5 (.u 0), f "Slice Concealment Type Bit" 6 6 (.u 0) (.codes 7 7 [1]),
     f "Slice Concealment Type Bit" 6 6 .mbz (.codes 7 7 [0]),
     f "Slice Concealment Override Bit" 7 7 (.u 0), f "Macroblock Count" 15 8 (.u 0),
     f "Slice Vertical Position" 23 16 (.u 0), f "Slice Horizontal Position" 31 24 (.u 0),
     f "Next Slice Horizontal Position" 39 32 (.u 0), f "Next Slice Vertical Position" 48 40 (.u 0), f "" 55 49 .mbz,
     f "Quantizer Scale Code" 60 56 (.u 0), f "" 63 61 .mbz]

/-- MPEG2 (R489). -/
def layoutMpeg2 : Layout where
  name := "MPEG2"
  words := 1
  bits := 16
  fields :=
    [f "MB Concealment Flag" 0 0 .raw, f "Inconsistent starting position Error - Missing MBs" 1 1 .raw,
     f "Premature frame end Error" 2 2 .raw, f "Slice out-of-bound Error" 3 3 .raw,
     f "Inconsistent starting position Error - overlapping MBs" 4 4 .raw, f "Missing EOB Error" 5 5 .raw,
     f "" 15 6 .mbz]

/-- MPEG4-2_Inline_DMEM (R490). -/
def layoutMpeg42InlineDmem : Layout where
  name := "MPEG4-2_Inline_DMEM"
  words := 50
  fields :=
    [f "hw_used_bits" 2 0 .raw, f "" 31 3 .mbz, f "hw_short_video_header" 32 32 .raw, f "" 63 33 .mbz,
     f "hw_shape" 65 64 .raw, f "" 95 66 .mbz, f "hw_vop_time_incr_resolution_bits" 111 96 .raw, f "" 127 112 .mbz,
     f "hw_width" 140 128 .raw, f "" 159 141 .mbz, f "hw_height" 172 160 .raw, f "" 191 173 .mbz,
     f "hw_interlaced" 192 192 .raw, f "" 223 193 .mbz, f "hw_obmc_disable" 224 224 .mbz, f "" 255 225 .mbz,
     f "hw_sprite_enable" 256 256 .raw, f "" 287 257 .mbz, f "hw_sprite_warping_points" 293 288 (.codes [0, 1]),
     f "" 319 294 .mbz, f "hw_sprite_warping_accuracy" 321 320 .raw, f "" 351 322 .mbz,
     f "hw_quant_precision" 355 352 .raw, f "hw_quant_precision" 355 352 (.codes [5]) (.given "ASP/SP profile"),
     f "" 383 356 .mbz, f "hw_quant_type" 384 384 .raw, f "" 415 385 .mbz,
     f "hw_quarter_sample" 416 416 .raw, f "" 447 417 .mbz, f "hw_resync_marker_disable" 448 448 .raw,
     f "" 479 449 .mbz, f "hw_data_partitioned" 480 480 .mbz, f "" 511 481 .mbz, f "hw_reversible_vlc" 512 512 .raw,
     f "" 543 513 .mbz, f "hw_MacroBlockPerRow" 550 544 .raw, f "" 575 551 .mbz] ++
    [f "hw_MacroBlockPerCol" 582 576 .raw, f "" 607 583 .mbz, f "hw_MacroBlockPerVOP" 622 608 .raw,
     f "" 639 623 .mbz, (f "hw_length_of_MB_number_code" 643 640 (.u 0)).within 1 14, f "" 671 644 .mbz, f "hw_Tframe" 703 672 .raw,
     f "hw_TRD" 735 704 .raw, f "hw_TRB" 767 736 .raw, f "hw_coding_type" 769 768 .raw, f "" 799 770 .mbz,
     f "hw_rounding_type" 800 800 .raw, f "" 831 801 .mbz, f "hw_intra_dc_vlc_thr" 834 832 .raw, f "" 863 835 .mbz,
     f "hw_top_field_first" 864 864 .raw, f "" 895 865 .mbz, f "hw_alt_vertical_scan_flag" 896 896 .raw,
     f "" 927 897 .mbz, f "hw_warping_mv_code_du[0]" 959 928 .raw, f "hw_warping_mv_code_du[1]" 991 960 .raw,
     f "hw_warping_mv_code_du[2]" 1023 992 .raw, f "hw_warping_mv_code_du[3]" 1055 1024 .raw,
     f "hw_warping_mv_code_dv[0]" 1087 1056 .raw, f "hw_warping_mv_code_dv[1]" 1119 1088 .raw,
     f "hw_warping_mv_code_dv[2]" 1151 1120 .raw, f "hw_warping_mv_code_dv[3]" 1183 1152 .raw, f "hw_quant" 1188 1184 .raw, f "" 1215 1189 .mbz,
     f "hw_fcode_forward" 1218 1216 .raw, f "" 1247 1219 .mbz, f "hw_fcode_backward" 1250 1248 .raw,
     f "" 1279 1251 .mbz, f "hw_quant_scale" 1288 1280 .raw, f "" 1311 1289 .mbz,
     f "hw_263_temporal_reference" 1319 1312 .raw, f "" 1343 1320 .mbz, f "hw_263_vop_quant" 1348 1344 .raw,
     f "" 1375 1349 .mbz, f "hw_263_gob_number" 1380 1376 .raw, f "" 1407 1381 .mbz,
     f "hw_263_num_gobs_in_vop" 1439 1408 .raw] ++
    [f "hw_263_num_macroblocks_in_gob" 1471 1440 .raw, f "hw_263_gob_header_empty" 1472 1472 .raw,
     f "" 1503 1473 .mbz, f "hw_263_gob_frame_id" 1504 1504 .raw, f "" 1535 1505 .mbz,
     f "hw_263_quant_scale" 1544 1536 .raw, f "" 1567 1545 .mbz, f "hw_263_num_rows_in_gob" 1599 1568 .raw]

/-- RoundingPrecisionTable_3_Bits (R491). -/
def layoutRoundingPrecisionTable3Bits : Layout where
  name := "RoundingPrecisionTable_3_Bits"
  words := 1
  bits := 3
  fields :=
    [f "Rounding Precision" 2 0 (.u 0)]

/-- Split_coding_unit_flags (R492). -/
def layoutSplitCodingUnitFlags : Layout where
  name := "Split_coding_unit_flags"
  words := 1
  bits := 21
  fields :=
    [f "Split_flag_level2 level1part0" 3 0 (.u 0), f "Split_flag_level2 level1part1" 7 4 (.u 0),
     f "Split_flag_level2 level1part2" 11 8 (.u 0), f "Split_flag_level2 level1part3" 15 12 (.u 0),
     f "Split_flag_level1" 19 16 (.u 0), f "Split_flag_level0" 20 20 (.u 0)]

/-- VC1 (R493). -/
def layoutVc1 : Layout where
  name := "VC1"
  words := 1
  bits := 16
  fields :=
    [f "MB Concealment Flag" 0 0 .raw, f "Mquant Error" 1 1 .raw, f "Coded Block Pattern CY SE Error" 2 2 .raw,
     f "Motion Vector SE Error" 3 3 .raw, f "Coefficient Error" 4 4 .raw, f "Transformtype SE Error" 5 5 .raw,
     f "Mbmode SE Error" 6 6 .raw, f "Syncmarker Error" 7 7 .raw, f "" 15 8 .mbz]

/-- VFE_STATE_EX (R494). -/
def layoutVfeStateEx : Layout where
  name := "VFE_STATE_EX"
  words := 8
  fields :=
    [f "" 7 0 .mbz, f "" 31 8 .reserved, f "VFE Control" 63 32 .raw, f "Interface Descriptor Remap Table" 95 64 .raw,
     f "Interface Descriptor Remap Table (cont)" 127 96 .raw, f "Scoreboard Mask" 135 128 .raw, f "" 157 136 .mbz,
     f "Scoreboard Type" 158 158 (.codes [0]), f "Scoreboard Enable" 159 159 .raw,
     f "Scoreboard 0 Delta X" 163 160 (.s 0), f "Scoreboard 0 Delta Y" 167 164 (.s 0), f "Scoreboard 1 Delta X" 171 168 (.s 0), f "Scoreboard 1 Delta Y" 175 172 (.s 0),
     f "Scoreboard 2 Delta X" 179 176 (.s 0), f "Scoreboard 2 Delta Y" 183 180 (.s 0), f "Scoreboard 3 Delta X" 187 184 (.s 0),
     f "Scoreboard 3 Delta Y" 191 188 (.s 0), f "Scoreboard 4 Delta X" 195 192 (.s 0), f "Scoreboard 4 Delta Y" 199 196 (.s 0),
     f "Scoreboard 5 Delta X" 203 200 (.s 0), f "Scoreboard 5 Delta Y" 207 204 (.s 0), f "Scoreboard 6 Delta X" 211 208 (.s 0), f "Scoreboard 6 Delta Y" 215 212 (.s 0),
     f "Scoreboard 7 Delta X" 219 216 (.s 0), f "Scoreboard 7 Delta Y" 223 220 (.s 0), f "" 255 224 .mbz]

/-- VP8 Encoder StreamOut Format (R495). -/
def layoutVp8EncoderStreamOutFormat : Layout where
  name := "VP8 Encoder StreamOut Format"
  words := 4
  fields :=
    [f "MBLevelIntraMBConformanceFlag" 0 0 (.u 0), f "MBLevelInterMBConformanceFlag" 1 1 (.u 0),
     f "MbRcFlag" 2 2 (.u 0), f "" 7 3 .mbz, f "MbClock16" 15 8 (.u 0), f "MbX" 23 16 (.u 0), f "MbY" 31 24 (.u 0),
     f "MB_Total_BitCount" 44 32 (.u 0), f "" 47 45 .mbz, f "MB_Residual_BitCount" 60 48 (.u 0), f "" 63 61 .mbz,
     f "Cbp" 88 64 (.u 0), f "" 95 89 .mbz, f "" 111 96 .mbz, f "CoeffClampStatus" 112 112 (.u 0),
     f "QindexClampLow" 113 113 (.u 0), f "QindexClampHigh" 114 114 (.u 0), f "" 119 115 .mbz,
     f "MBType5Bits" 124 120 (.u 0), f "IntraMBFlag" 125 125 (.u 0), f "LastMbFlag" 126 126 (.u 0), f "" 127 127 .mbz]

end Sys2Proof.Machine
end

