-- ==== Sys2Proof/Machine/LayoutVebox.lean ====
section
/-! DEFINITION. Bit layouts, as data: the video enhancement structures of 49_vebox_color_processing.md and 49_vebox_state.md, row by row as the spec prints them. -/

namespace Sys2Proof.Machine

open Layout (f)

/-- COLOR_PROCESSING_STATE - ACE State (R519). -/
def layoutColorProcessingStateAceState : Layout where
  name := "COLOR_PROCESSING_STATE - ACE State"
  words := 13
  fields :=
    [f "ACE Enable" 0 0 .raw, f "Full Image Histogram" 1 1 .raw, (f "Skin Threshold" 6 2 (.u 0)).within 1 31, f "" 31 7 .mbz,
     f "Ymin" 39 32 (.u 0), f "Y1" 47 40 (.u 0), f "Y2" 55 48 (.u 0), f "Y3" 63 56 (.u 0), f "Y4" 71 64 (.u 0),
     f "Y5" 79 72 (.u 0), f "Y6" 87 80 (.u 0), f "Y7" 95 88 (.u 0), f "Y8" 103 96 (.u 0), f "Y9" 111 104 (.u 0),
     f "Y10" 119 112 (.u 0), f "Ymax" 127 120 (.u 0), f "B1" 135 128 (.u 0), f "B2" 143 136 (.u 0),
     f "B3" 151 144 (.u 0), f "B4" 159 152 (.u 0), f "B5" 167 160 (.u 0), f "B6" 175 168 (.u 0),
     f "B7" 183 176 (.u 0), f "B8" 191 184 (.u 0), f "B9" 199 192 (.u 0), f "B10" 207 200 (.u 0), f "" 223 208 .mbz,
     f "S0" 234 224 (.u 10), f "" 239 235 .mbz, f "S1" 250 240 (.u 10), f "" 255 251 .mbz, f "S2" 266 256 (.u 10),
     f "" 271 267 .mbz, f "S3" 282 272 (.u 10), f "" 287 283 .mbz, f "S4" 298 288 (.u 10)] ++
    [f "" 303 299 .mbz, f "S5" 314 304 (.u 10), f "" 319 315 .mbz, f "S6" 330 320 (.u 10), f "" 335 331 .mbz,
     f "S7" 346 336 (.u 10), f "" 351 347 .mbz, f "S8" 362 352 (.u 10), f "" 367 363 .mbz, f "S9" 378 368 (.u 10),
     f "" 383 379 .mbz, f "S10" 394 384 (.u 10), f "" 415 395 .mbz]
  default := [0x00000068, 0x4C382410, 0x9C887460, 0xEBD8C4B0, 0x604C3824, 0xB09C8874, 0x0000D8C4]

/-- COLOR_PROCESSING_STATE - CSC State (R520). -/
def layoutColorProcessingStateCscState : Layout where
  name := "COLOR_PROCESSING_STATE - CSC State"
  words := 9
  fields :=
    [f "Transform Enable" 0 0 .raw, f "YUV_OUT" 1 1 .raw, f "YUV_IN" 2 2 .raw, f "C0" 15 3 (.s 10),
     f "C1" 28 16 (.s 10), f "" 31 29 .mbz, f "C2" 44 32 (.s 10), f "C3" 57 45 (.s 10), f "" 63 58 .mbz,
     f "C4" 76 64 (.s 10), f "C5" 89 77 (.s 10), f "" 95 90 .mbz, f "C6" 108 96 (.s 10), f "C7" 121 109 (.s 10),
     f "" 127 122 .mbz, f "C8" 140 128 (.s 10), f "" 159 141 .mbz, f "Offset In 1" 169 160 (.s 0),
     f "Offset out 1" 179 170 (.s 0), f "" 191 180 .mbz, f "Offset in 2" 201 192 (.s 0),
     f "Offset out 2" 211 202 (.s 0), f "" 223 212 .mbz, f "Offset in 3" 233 224 (.s 0),
     f "Offset out 3" 243 234 (.s 0), f "" 255 244 .mbz, f "Color Pipe Alpha" 271 256 (.u 0),
     f "Alpha from State Select" 272 272 .raw, f "" 287 273 .mbz]
  default := [0x00002000, 0x00000000, 0x00000400, 0x00000000, 0x000004B4]

/-- COLOR_PROCESSING_STATE - PROCAMP State (R521). -/
def layoutColorProcessingStateProcampState : Layout where
  name := "COLOR_PROCESSING_STATE - PROCAMP State"
  words := 2
  fields :=
    [f "PROCAMP Enable" 0 0 .raw, f "Brightness" 12 1 (.s 4), f "" 16 13 .mbz, f "Contrast" 27 17 (.u 7),
     f "" 31 28 .mbz, f "Sin_c_s" 47 32 (.s 8), f "Cos_c_s" 63 48 (.s 8)]
  default := [0x00020001, 0x01000000]

/-- COLOR_PROCESSING_STATE - STD/STE State (R522). -/
def layoutColorProcessingStateStdSteState : Layout where
  name := "COLOR_PROCESSING_STATE - STD/STE State"
  words := 29
  fields :=
    [f "STD Enable" 0 0 .raw, f "STE Enable" 1 1 .raw, f "Output Control" 2 2 .raw, f "" 3 3 .mbz,
     f "Sat Max" 9 4 (.u 0), f "Hue Max" 15 10 (.u 0), f "U_Mid" 23 16 (.u 0), f "V_Mid" 31 24 (.u 0),
     f "Sin(α)" 39 32 (.s 7), f "" 41 40 .mbz, f "Cos(α)" 49 42 (.s 7), f "HS Margin" 52 50 (.u 0),
     f "Diamond du" 59 53 (.s 0), f "Diamond Margin" 62 60 (.u 0), f "" 63 63 .mbz, f "Diamond dv" 70 64 (.s 0),
     f "Diamond Th" 76 71 (.u 0), f "Diamond Alpha" 84 77 (.u 6), f "" 95 85 .mbz, f "" 102 96 .mbz,
     f "VY_STD_Enable" 103 103 .raw, f "Y_point_1" 111 104 (.u 0), f "Y_point_2" 119 112 (.u 0),
     f "Y_point_3" 127 120 (.u 0), f "Y_point_4" 135 128 (.u 0), f "Y_Slope_1" 140 136 (.u 3),
     f "Y_Slope_2" 145 141 (.u 3), f "" 159 146 .mbz, f "Inverse Margin VYL" 175 160 (.u 16),
     f "INV_skin_types_margin" 191 176 (.u 16), f "Inverse Margin VYU" 207 192 (.u 16), f "P0L" 215 208 (.u 0),
     f "P1L" 223 216 (.u 0), f "P2L" 231 224 (.u 0), f "P3L" 239 232 (.u 0), f "B0L" 247 240 (.u 0)] ++
    [f "B1L" 255 248 (.u 0), f "B2L" 263 256 (.u 0), f "B3L" 271 264 (.u 0), f "S0L" 282 272 (.s 8),
     f "" 287 283 .mbz, f "S1L" 298 288 (.s 8), f "S2L" 309 299 (.s 8), f "" 319 310 .mbz, f "S3L" 330 320 (.s 8),
     f "P0U" 338 331 (.u 0), f "P1U" 346 339 (.u 0), f "" 351 347 .mbz, f "P2U" 359 352 (.u 0),
     f "P3U" 367 360 (.u 0), f "B0U" 375 368 (.u 0), f "B1U" 383 376 (.u 0), f "B2U" 391 384 (.u 0),
     f "B3U" 399 392 (.u 0), f "S0U" 410 400 (.s 8), f "" 415 411 .mbz, f "S1U" 426 416 (.s 8),
     f "S2U" 437 427 (.s 8), f "" 447 438 .mbz, f "S3U" 458 448 (.s 8), f "Skin Type Enable" 459 459 .raw,
     f "Skin Types Thresh" 467 460 (.u 0), f "Skin Types Margin" 475 468 (.u 0), f "" 479 476 .mbz,
     f "SATP1" 486 480 (.s 0), f "SATP2" 493 487 (.s 0), f "SATP3" 500 494 (.s 0), f "SATB1" 510 501 (.s 2),
     f "" 511 511 .mbz, f "SATB2" 521 512 (.s 2), f "SATB3" 531 522 (.s 2), f "SATS0" 542 532 (.u 8)] ++
    [f "" 543 543 .mbz, f "SATS1" 554 544 (.u 8), f "SATS2" 565 555 (.u 8), f "" 575 566 .mbz,
     f "SATS3" 586 576 (.u 8), f "HUEP1" 593 587 (.s 0), f "HUEP2" 600 594 (.s 0), f "HUEP3" 607 601 (.s 0),
     f "HUEB1" 617 608 (.s 2), f "HUEB2" 627 618 (.s 2), f "HUEB3" 637 628 (.s 2), f "" 639 638 .mbz,
     f "HUES0" 650 640 (.u 8), f "HUES1" 661 651 (.u 8), f "" 671 662 .mbz, f "HUES2" 682 672 (.u 8),
     f "HUES3" 693 683 (.u 8), f "" 703 694 .mbz, f "SATP1_DARK" 710 704 (.s 0), f "SATP2_DARK" 717 711 (.s 0),
     f "SATP3_DARK" 724 718 (.s 0), f "SATB1_DARK" 734 725 (.s 2), f "" 735 735 .mbz, f "SATB2_DARK" 745 736 (.s 2),
     f "SATB3_DARK" 755 746 (.s 2), f "SATS0_DARK" 766 756 (.u 8), f "" 767 767 .mbz, f "SATS1_DARK" 778 768 (.u 8),
     f "SATS2_DARK" 789 779 (.u 8), f "" 799 790 .mbz, f "SATS3_DARK" 810 800 (.u 8), f "HUEP1_DARK" 817 811 (.s 0),
     f "HUEP2_DARK" 824 818 (.s 0), f "HUEP3_DARK" 831 825 (.s 0), f "HUEB1_DARK" 841 832 (.s 2),
     f "HUEB2_DARK" 851 842 (.s 2)] ++
    [f "HUEB3_DARK" 861 852 (.s 2), f "" 863 862 .mbz, f "HUES0_DARK" 874 864 (.u 8), f "HUES1_DARK" 885 875 (.u 8),
     f "" 895 886 .mbz, f "HUES2_DARK" 906 896 (.u 8), f "HUES3_DARK" 917 907 (.u 8), f "" 927 918 .mbz]
  default := [0x9A6E39F0, 0x400C0000, 0x00001180, 0xFE2F2E00, 0x000000FF, 0x00140000, 0xD82E0000, 0x8285ECEC,
    0x00008282, 0x00000000, 0x02117000, 0xA38FEC96, 0x00008CC8, 0x00000000, 0x01478000, 0x0007C300, 0x00000000,
    0x00000000, 0x1C180000, 0x00000000, 0x00000000, 0x00000000, 0x0007CF80, 0x00000000, 0x00000000, 0x1C080000]

/-- COLOR_PROCESSING_STATE - TCC State (R523). -/
def layoutColorProcessingStateTccState : Layout where
  name := "COLOR_PROCESSING_STATE - TCC State"
  words := 11
  fields :=
    [f "" 6 0 .mbz, f "TCC Enable" 7 7 .raw, f "SatFactor1" 15 8 (.u 7), f "SatFactor2" 23 16 (.u 7),
     f "SatFactor3" 31 24 (.u 7), f "" 39 32 .mbz, f "SatFactor4" 47 40 (.u 7), f "SatFactor5" 55 48 (.u 7),
     f "SatFactor6" 63 56 (.u 7), f "Base Color 1" 73 64 (.u 0), f "Base Color 2" 83 74 (.u 0),
     f "Base Color 3" 93 84 (.u 0), f "" 95 94 .mbz, f "Base Color 4" 105 96 (.u 0), f "Base Color 5" 115 106 (.u 0),
     f "Base Color 6" 125 116 (.u 0), f "" 127 126 .mbz, f "Color Transit Slope 12" 143 128 (.u 16),
     f "Color Transit Slope 23" 159 144 (.u 16), f "Color Transit Slope 34" 175 160 (.u 16),
     f "Color Transit Slope 45" 191 176 (.u 16), f "Color Transit Slope 56" 207 192 (.u 16),
     f "Color Transit Slope 61" 223 208 (.u 16), f "" 225 224 .mbz, f "Color Bias 1" 235 226 (.u 8),
     f "Color Bias 2" 245 236 (.u 8), f "Color Bias 3" 255 246 (.u 8), f "" 257 256 .mbz,
     f "ColorBias4" 267 258 (.u 8), f "Color Bias 5" 277 268 (.u 8), f "Color Bias 6" 287 278 (.u 8),
     f "STE Slope Bits" 290 288 (.u 0), f "" 295 291 .mbz, f "STE Threshold" 300 296 (.u 0), f "" 303 301 .mbz,
     f "UV Threshold Bits" 306 304 (.u 0)] ++
    [f "" 311 307 .mbz, f "UV Threshold" 318 312 (.u 0), f "" 319 319 .mbz, f "UVMax Color" 328 320 (.u 0),
     f "" 335 329 .mbz, f "Inverse UVMax Color" 351 336 (.u 16)]
  default := [0xDCDCDC00, 0xDCDCDC00, 0x1E34CC91, 0x3E3CCE91, 0x02E80195, 0x0197046B, 0x01790174, 0x00096000,
    0x00000000, 0x03030000, 0x009201C0]

/-- Encoder Statistics Format (R524). -/
def layoutEncoderStatisticsFormat : Layout where
  name := "Encoder Statistics Format"
  words := 4
  fields :=
    [f "" 7 0 .mbz, f "Motion_Count (FMD Variance[7])" 15 8 (.u 0), f "Tearing_Count 2" 23 16 (.u 0),
     f "Tearing_Count 1 (FMD Variance[8])" 31 24 (.u 0), f "sDiff_cBpT" 35 32 (.u 0), f "sDiff_cTpB" 39 36 (.u 0),
     f "sDiff_cTcB" 43 40 (.u 0), f "sDiff_cBpB" 47 44 (.u 0), f "sDiff_cTpT" 51 48 (.u 0), f "sSVCM" 55 52 (.u 0),
     f "sSHCM" 59 56 (.u 0), f "sSTAD" 63 60 (.u 0), f "mDiff_cBpT (FMD Variance[4])" 71 64 (.u 0),
     f "mDiff_cTpB (FMD Variance[3])" 79 72 (.u 0), f "mDiff_cTcB (FMD Variance[2])" 87 80 (.u 0),
     f "mDiff_cBpB (FMD Variance[1])" 95 88 (.u 0), f "mDiff_cTpT (FMD Variance[0])" 103 96 (.u 0),
     f "mSVCM" 111 104 (.u 0), f "mSHCM" 119 112 (.u 0), f "mSTAD" 127 120 (.u 0)]

/-- VEB_DI_IECP_COMMAND_SURFACE_CONTROL_BITS (R525). -/
def layoutVebDiIecpCommandSurfaceControlBits : Layout where
  name := "VEB_DI_IECP_COMMAND_SURFACE_CONTROL_BITS"
  words := 1
  bits := 11
  fields :=
    [f "" 0 0 .reserved, f "Index to Memory Object Control State (MOCS) Tables" 6 1 .raw,
     f "Memory Compression Enable" 7 7 .raw, f "Memory Compression Mode" 8 8 .raw,
     f "Tiled Resource Mode for Output Frame Surface Base Address" 10 9 (.codes [0, 1, 2])]

/-- VEBOX_ACE_LACE_STATE (R526). The DI Enable and DN/DI First Frame that its histogram set depends on are not in it. -/
def layoutVeboxAceLaceState : Layout where
  name := "VEBOX_ACE_LACE_STATE"
  words := 13
  fields :=
    [f "ACE Enable" 0 0 .raw, f "" 1 1 .mbz, (f "Skin Threshold" 6 2 (.u 0)).within 1 31, f "" 11 7 .mbz,
     f "LACE Histogram Enable" 12 12 .raw, f "LACE Histogram Size" 13 13 .raw,
     f "LACE Single Histogram Set" 15 14 .raw, f "" 15 14 .mbz (.unless (.given "DI Enable")),
     f "" 15 14 .mbz (.given "DN/DI First Frame"), f "Min_ACE_luma" 31 16 (.u 0), f "Ymin" 39 32 (.u 0),
     f "Y1" 47 40 (.u 0), f "Y2" 55 48 (.u 0), f "Y3" 63 56 (.u 0), f "Y4" 71 64 (.u 0), f "Y5" 79 72 (.u 0),
     f "Y6" 87 80 (.u 0), f "Y7" 95 88 (.u 0), f "Y8" 103 96 (.u 0), f "Y9" 111 104 (.u 0), f "Y10" 119 112 (.u 0),
     f "Ymax" 127 120 (.u 0), f "B1" 135 128 (.u 0), f "B2" 143 136 (.u 0), f "B3" 151 144 (.u 0),
     f "B4" 159 152 (.u 0), f "B5" 167 160 (.u 0), f "B6" 175 168 (.u 0), f "B7" 183 176 (.u 0),
     f "B8" 191 184 (.u 0), f "B9" 199 192 (.u 0), f "B10" 207 200 (.u 0), f "" 223 208 .mbz, f "S0" 234 224 (.u 10),
     f "" 239 235 .mbz, f "S1" 250 240 (.u 10), f "" 255 251 .mbz, f "S2" 266 256 (.u 10)] ++
    [f "" 271 267 .mbz, f "S3" 282 272 (.u 10), f "" 287 283 .mbz, f "S4" 298 288 (.u 10), f "" 303 299 .mbz,
     f "S5" 314 304 (.u 10), f "" 319 315 .mbz, f "S6" 330 320 (.u 10), f "" 335 331 .mbz, f "S7" 346 336 (.u 10),
     f "" 351 347 .mbz, f "S8" 362 352 (.u 10), f "" 367 363 .mbz, f "S9" 378 368 (.u 10), f "" 383 379 .mbz,
     f "S10" 394 384 (.u 10), f "" 399 395 .mbz, f "Max_ACE_luma" 415 400 (.u 0)]
  default := [0x00000068, 0x4C382410, 0x9C887460, 0xEBD8C4B0, 0x604C3824, 0xB09C8874, 0x0000D8C4, 0x04000400,
    0x04000400, 0x04000400, 0x04000400, 0x04000400, 0x00000400]

/-- VEBOX_ALPHA_AOI_STATE (R527). -/
def layoutVeboxAlphaAoiState : Layout where
  name := "VEBOX_ALPHA_AOI_STATE"
  words := 3
  fields :=
    [f "Color Pipe Alpha" 15 0 (.u 0), f "Alpha from State Select" 16 16 .raw, f "Full Image Histogram" 17 17 .raw,
     f "" 31 18 .mbz, f "AOI Min X" 45 32 (.u 0), f "" 33 32 .mbz, f "" 47 46 .mbz,
     f "AOI Max X" 61 48 (.u 0), f "" 49 48 (.codes [3]), f "" 63 62 .mbz,
     f "AOI Min Y" 77 64 (.u 0), f "" 65 64 .mbz, f "" 79 78 .mbz, f "AOI Max Y" 93 80 (.u 0), f "" 81 80 (.codes [3]),
     f "" 95 94 .mbz]
  default := [0x00000000, 0x00030000, 0x00030000]

/-- VEBOX_CAPTURE_PIPE_STATE (R528). -/
def layoutVeboxCapturePipeState : Layout where
  name := "VEBOX_CAPTURE_PIPE_STATE"
  words := 7
  fields :=
    [f "Good Pixel Neighbor Threshold" 5 0 (.u 0), f "" 7 6 .reserved, f "Average Color Threshold" 15 8 (.codes [255]),
     f "Green Imbalance Threshold" 19 16 (.u 0), f "Shift Min Cost" 22 20 (.u 0), f "" 23 23 .mbz,
     f "Good Pixel Threshold" 29 24 (.u 0), f "" 31 30 .mbz, f "Bad Color Threshold 3" 35 32 (.u 0),
     f "Number Big Pixel Threshold" 39 36 (.u 0), f "Bad Color Threshold 2" 47 40 (.u 0),
     f "Bad Color Threshold 1" 55 48 (.u 0), f "Good Intesity Threshold (sic)" 59 56 (.u 0),
     f "Scale For Min Cost" 63 60 .raw, f "White Balance Correction Enable" 64 64 .raw,
     f "Black Point Correction Enable" 65 65 .raw, f "Vignette Correction Format" 66 66 .raw,
     f "RGB Histogram Enable" 67 67 .raw, f "" 67 67 (.codes [1]) (.codes 64 64 [1]), f "Black Point Offset Green Bottom MSB" 68 68 .raw,
     f "Black Point Offset Blue MSB" 69 69 .raw, f "Black Point Offset Green Top MSB" 70 70 .raw,
     f "Black Point Offset Red MSB" 71 71 .raw, f "UV Threshold Value" 79 72 (.u 8), f "Y Outlier Value" 87 80 .raw,
     f "Y Bright Value" 95 88 .raw, f "Black Point Offset Green Top" 111 96 (.u 0),
     f "Black Point Offset Red" 127 112 (.u 0), f "Black Point Offset Green Bottom" 143 128 (.u 0),
     f "Black Point Offset Blue" 159 144 (.u 0), f "White Balance Green Top Correction" 175 160 (.u 12),
     f "White Balance Red Correction" 191 176 (.u 12), f "White Balance Green Bottom Correction" 207 192 (.u 12),
     f "White Balance Blue Correction" 223 208 (.u 12)]
  default := [0x0511FF23, 0xAA64AFAA, 0xE6FD4000]

/-- VEBOX_CCM_STATE (R529). -/
def layoutVeboxCcmState : Layout where
  name := "VEBOX_CCM_STATE"
  words := 9
  fields :=
    [f "C1" 16 0 (.s 12), f "" 30 17 .mbz, f "Color Correction Matrix Enable" 31 31 .raw,
     f "" 31 31 .mbz (.unless (.given "Single Pipe IECP Enable")), f "C0" 48 32 (.s 12),
     f "" 63 49 .mbz, f "C3" 80 64 (.s 12), f "" 95 81 .mbz, f "C2" 112 96 (.s 12), f "" 127 113 .mbz,
     f "C5" 144 128 (.s 12), f "" 159 145 .mbz, f "C4" 176 160 (.s 12), f "" 191 177 .mbz, f "C7" 208 192 (.s 12),
     f "" 223 209 .mbz, f "C6" 240 224 (.s 12), f "" 255 241 .mbz, f "C8" 272 256 (.s 12), f "" 287 273 .mbz]
  default := [0x00000475, 0x00000AE8, 0x00000047, 0x00000022, 0x0001FFCC, 0x00000D23, 0x000000A8, 0x0001FFF4,
    0x00000D6A]

/-- VEBOX_Ch_Dir_Filter_Coefficient (R530). -/
def layoutVeboxChDirFilterCoefficient : Layout where
  name := "VEBOX_Ch_Dir_Filter_Coefficient"
  words := 2
  fields :=
    [f "Filter Coefficient[0]" 7 0 (.s 6), f "Filter Coefficient[1]" 15 8 (.s 6),
     f "Filter Coefficient[2]" 23 16 (.s 6), f "Filter Coefficient[3]" 31 24 (.s 6),
     f "Filter Coefficient[4]" 39 32 (.s 6), f "Filter Coefficient[5]" 47 40 (.s 6),
     f "Filter Coefficient[6]" 55 48 (.s 6), f "Filter Coefficient[7]" 63 56 (.s 6)]

/-- VEBOX_Filter_Coefficient (R531). -/
def layoutVeboxFilterCoefficient : Layout where
  name := "VEBOX_Filter_Coefficient"
  words := 1
  bits := 8
  fields :=
    [f "Filter Coefficient" 7 0 (.s 6)]

/-- VEBOX_CSC_STATE (R532). -/
def layoutVeboxCscState : Layout where
  name := "VEBOX_CSC_STATE"
  words := 12
  fields :=
    [f "C0" 18 0 (.s 16), f "" 29 19 .mbz, f "YUV_Channel_Swap" 30 30 .raw, f "Transform Enable" 31 31 .raw,
     f "C1" 50 32 (.s 16), f "" 63 51 .mbz, f "C2" 82 64 (.s 16), f "" 95 83 .mbz, f "C3" 114 96 (.s 16),
     f "" 127 115 .mbz, f "C4" 146 128 (.s 16), f "" 159 147 .mbz, f "C5" 178 160 (.s 16), f "" 191 179 .mbz,
     f "C6" 210 192 (.s 16), f "" 223 211 .mbz, f "C7" 242 224 (.s 16), f "" 255 243 .mbz, f "C8" 274 256 (.s 16),
     f "" 287 275 .mbz, f "Offset in 1" 303 288 (.s 0), f "Offset Out 1" 319 304 (.s 0),
     f "Offset in 2" 335 320 (.s 0), f "Offset Out 2" 351 336 (.s 0), f "Offset in 3" 367 352 (.s 0),
     f "Offset Out 3" 383 368 (.s 0)]
  default := [0x00010000, 0, 0, 0, 0x00010000, 0, 0, 0, 0x00010000]

/-- VEBOX_DNDI_STATE (R533). Neither DI Enable nor the kind of the denoiser's input is in it. -/
def layoutVeboxDndiState : Layout where
  name := "VEBOX_DNDI_STATE"
  words := 18
  fields :=
    [(f "Denoise Moving Pixel Threshold" 4 0 (.u 0)).within 0 16, f "" 7 5 .mbz, f "Denoise History increase" 11 8 (.u 0),
     (f "Denoise Maximum History" 19 12 (.u 0)).within 128 240, f "Denoise STAD Threshold" 31 20 (.u 0),
     f "Low Temporal Difference Threshold" 41 32 (.u 0), f "Temporal Difference Threshold" 51 42 (.u 0),
     (f "Denoise ASD Threshold" 63 52 (.u 0)).within 0 1023, f "" 73 64 .mbz, f "Initial Denoise History" 79 74 (.u 0),
     f "Denoise Threshold for Sum of Complexity Measure" 91 80 (.u 0), f "Progressive DN" 92 92 .raw,
     f "" 92 92 .mbz (.given "DI Enable"), f "" 92 92 (.codes [1]) (.given "RGB input to Denoise"),
     f "" 95 93 .mbz, (f "Block Noise Estimate Noise Threshold" 107 96 (.u 0)).within 0 511,
     f "Block Noise Estimate Edge Threshold" 115 108 (.u 0), f "Hot Pixel Threshold" 123 116 (.u 0),
     (f "Hot Pixel Count" 127 124 (.u 0)).within 0 8, f "Chroma Low Temporal Difference Threshold" 133 128 (.u 0),
     f "Chroma Temporal Difference Threshold" 139 134 (.u 0), f "Chroma Denoise Enable" 140 140 .raw,
     f "" 143 141 .mbz, f "Chroma Denoise STAD Threshold" 151 144 (.u 0), f "" 159 152 .mbz, f "Dn_Wr0" 164 160 .raw,
     f "Dn_Wr1" 169 165 .raw, f "Dn_Wr2" 174 170 .raw, f "Dn_Wr3" 179 175 .raw, f "Dn_Wr4" 184 180 .raw,
     f "Dn_Wr5" 189 185 .raw, f "" 191 190 .mbz, f "Dn_thmin" 204 192 .raw, f "" 207 205 .mbz,
     f "Dn_thmax" 220 208 .raw, f "" 223 221 .mbz, f "Dn_dyn_thmin" 236 224 .raw, f "" 239 237 .mbz] ++
    [f "Dn_prt5" 252 240 .raw, f "" 255 253 .mbz, f "Dn_prt3" 268 256 .raw, f "" 271 269 .mbz,
     f "Dn_prt4" 284 272 .raw, f "" 287 285 .mbz, f "Dn_prt1" 300 288 .raw, f "" 303 301 .mbz,
     f "Dn_prt2" 316 304 .raw, f "" 319 317 .mbz, f "Dn_wd20" 324 320 .raw, f "Dn_wd21" 329 325 .raw,
     f "Dn_wd22" 334 330 .raw, f "" 335 335 .mbz, f "Dn_prt0" 348 336 .raw, f "" 351 349 .mbz,
     f "Dn_wd00" 356 352 .raw, f "Dn_wd01" 361 357 .raw, f "Dn_wd02" 366 362 .raw, f "Dn_wd10" 371 367 .raw,
     f "Dn_wd11" 376 372 .raw, f "Dn_wd12" 381 377 .raw, f "" 383 382 .mbz, f "Smooth MV Threshold" 385 384 (.u 0),
     f "SAD Tight Threshold" 389 386 (.u 0), f "Content Adaptive Threshold Slope" 393 390 .count,
     f "STMM C2" 396 394 .count, f "" 415 397 .mbz, f "Maximum STMM" 423 416 (.u 0),
     f "Multiplier for VECM" 429 424 (.u 0), f "" 431 430 .mbz,
     f "Blending constant across time for small values of STMM" 439 432 (.u 0),
     f "Blending constant across time for large values of STMM" 446 440 (.u 0),
     f "STMM Blending Constant Select" 447 447 (.u 0), f "SDI Delta" 455 448 (.u 0), f "SDI Threshold" 463 456 (.u 0)] ++
    [(f "STMM Output Shift" 467 464 (.u 0)).within 0 16, f "STMM Shift Up" 469 468 (.codes [0, 1, 2]),
     f "STMM Shift Down" 471 470 (.codes [0, 1, 2]), f "Minimum STMM" 479 472 (.u 0),
     f "FMD Temporal Difference Threshold" 487 480 (.u 0),
     f "SDI Fallback Mode 2 Constant (Angle2x1)" 495 488 (.u 0), f "SDI Fallback Mode 1 T2 Constant" 503 496 (.u 0),
     f "SDI Fallback Mode 1 T1 Constant" 511 504 (.u 0), f "" 514 512 .mbz, f "DN/DI Top First" 515 515 .raw,
     f "" 518 516 .mbz, f "MCDI Enable" 519 519 .raw (.given "DI Enable"),
     f "MCDI Enable" 519 519 .ignored (.unless (.given "DI Enable")), f "FMD Tear Threshold" 525 520 (.u 0),
     f "CAT Threshold" 527 526 (.u 0), f "FMD #2 Vertical Difference Threshold" 535 528 (.u 0),
     f "FMD #1 Vertical Difference Threshold" 543 536 (.u 0), f "SAD THA" 547 544 (.u 0), f "SAD THB" 551 548 (.u 0),
     f "Progressive Cadence Reconstruction for 1st Field of Current Frame" 553 552 (.codes [0, 1, 2]),
     f "MC Pixel Consistency Threshold" 559 554 (.u 0),
     f "Progressive Cadence Reconstruction For 2nd Field Of Previous Frame" 561 560 (.codes [0, 1, 2]), f "" 562 562 .mbz,
     f "Neighbor Pixel Threshold" 566 563 (.u 0), f "" 569 567 .mbz, f "" 575 570 .mbz]
  default := [0x800, 0, 0x8000, 0x10000, 0, 0, 0, 0, 0, 0, 0, 0, 0x254, 0, 0, 0, 0, 0x5064A5]

/-- VEBOX_FRONT_END_CSC_STATE (R535). -/
def layoutVeboxFrontEndCscState : Layout where
  name := "VEBOX_FRONT_END_CSC_STATE"
  words := 12
  fields :=
    [f "FECSC C0: Transform coefficient" 18 0 (.s 16), f "" 30 19 .mbz,
     f "Front End CSC Transform Enable" 31 31 .raw, f "" 31 31 .mbz (.unless (.given "Single Pipe IECP Enable")),
     f "FECSC C1: Transform coefficient" 50 32 (.s 16),
     f "" 63 51 .mbz, f "FECSC C2: Transform coefficient" 82 64 (.s 16), f "" 95 83 .mbz,
     f "FECSC C3: Transform coefficient" 114 96 (.s 16), f "" 127 115 .mbz,
     f "FECSC C4: Transform coefficient" 146 128 (.s 16), f "" 159 147 .mbz,
     f "FECSC C5: Transform coefficient" 178 160 (.s 16), f "" 191 179 .mbz,
     f "FECSC C6: Transform coefficient" 210 192 (.s 16), f "" 223 211 .mbz,
     f "FECSC C7: Transform coefficient" 242 224 (.s 16), f "" 255 243 .mbz,
     f "FECSC C8: Transform coefficient" 274 256 (.s 16), f "" 287 275 .mbz,
     f "FEC SC Offset in 1: Offset in for Y/R" 303 288 (.s 0),
     f "FEC SC Offset out 1: Offset out for Y/R" 319 304 (.s 0),
     f "FEC SC Offset in 2 (printed Offset out for U/G; read: offset in" 335 320 (.s 0),
     f "FEC SC Offset out 2: Offset out for U/G" 351 336 (.s 0),
     f "FEC SC Offset in 3 (printed Offset out for V/B; read: offset in" 367 352 (.s 0),
     f "FEC SC Offset out 3: Offset out for V/B" 383 368 (.s 0)]
  default := [0x00010000, 0, 0, 0, 0x00010000, 0, 0, 0, 0x00010000]

/-- VEBOX_GAMUT_STATE (R536). -/
def layoutVeboxGamutState : Layout where
  name := "VEBOX_GAMUT_STATE"
  words := 38
  fields :=
    [f "CM(w)" 9 0 (.u 0), f "" 14 10 .mbz, f "Global Mode Enable" 15 15 .raw, f "A(r)" 24 16 (.u 0),
     f "" 31 25 .mbz, f "A(b)" 38 32 (.u 8), f "" 39 39 .mbz, f "A(g)" 46 40 (.u 8), f "" 47 47 .mbz,
     f "CM(s)" 57 48 (.u 8), f "" 63 58 .mbz, f "R(i)" 71 64 (.u 8), f "CM(i)" 79 72 (.u 8), f "R(s)" 89 80 (.u 8),
     f "" 95 90 .mbz, f "C0" 110 96 (.s 12), f "" 111 111 .mbz, f "C1" 126 112 (.s 12), f "" 127 127 .mbz,
     f "C2" 142 128 (.s 12), f "" 143 143 .mbz, f "C3" 158 144 (.s 12), f "" 159 159 .mbz, f "C4" 174 160 (.s 12),
     f "" 175 175 .mbz, f "C5" 190 176 (.s 12), f "" 191 191 .mbz, f "C6" 206 192 (.s 12), f "" 207 207 .mbz,
     f "C7" 222 208 (.s 12), f "" 223 223 .mbz, f "C8" 238 224 (.s 12), f "" 255 239 .mbz,
     f "PWL_Gamma_ Point 1" 263 256 (.u 0), f "PWL_Gamma_ Point 2" 271 264 (.u 0),
     f "PWL_Gamma_ Point 3" 279 272 (.u 0)] ++
    [f "PWL_Gamma_ Point 4" 287 280 (.u 0), f "PWL_Gamma_ Point 5" 295 288 .raw, f "PWL_Gamma_ Point 6" 303 296 .raw,
     f "PWL_Gamma_ Point 7" 311 304 .raw, f "PWL_Gamma_ Point 8" 319 312 .raw, f "PWL_Gamma_ Point 9" 327 320 (.u 0),
     f "PWL_Gamma_ Point 10" 335 328 (.u 0), f "PWL_Gamma_ Point 11" 343 336 (.u 0), f "" 351 344 .mbz,
     f "PWL_Gamma_ Bias_1" 359 352 (.u 0), f "PWL_Gamma_ Bias_2" 367 360 (.u 0),
     f "PWL_Gamma_ Bias_3" 375 368 (.u 0), f "PWL_Gamma_ Bias_4" 383 376 (.u 0),
     f "PWL_Gamma_ Bias_5" 391 384 (.u 0), f "PWL_Gamma_ Bias_6" 399 392 (.u 0),
     f "PWL_Gamma_ Bias_7" 407 400 (.u 0), f "PWL_Gamma_ Bias_8" 415 408 (.u 0),
     f "PWL_Gamma_ Bias_9" 423 416 (.u 0), f "PWL_Gamma_ Bias_10" 431 424 (.u 0),
     f "PWL_Gamma_ Bias_11" 439 432 (.u 0), f "" 447 440 .mbz, f "PWL_Gamma_ Slope_0" 459 448 (.u 8),
     f "" 463 460 .mbz, f "PWL_Gamma_ Slope_1" 475 464 (.u 8), f "" 479 476 .mbz,
     f "PWL_Gamma_ Slope_2" 491 480 (.u 8), f "" 495 492 .mbz, f "PWL_Gamma_ Slope_3" 507 496 (.u 8),
     f "" 511 508 .mbz, f "PWL_Gamma_ Slope_4" 523 512 (.u 8), f "" 527 524 .mbz,
     f "PWL_Gamma_ Slope_5" 539 528 (.u 8), f "" 543 540 .mbz, f "PWL_Gamma_ Slope_6" 555 544 (.u 8),
     f "" 559 556 .mbz, f "PWL_Gamma_ Slope_7" 571 560 (.u 8)] ++
    [f "" 575 572 .mbz, f "PWL_Gamma_ Slope_8" 587 576 (.u 8), f "" 591 588 .mbz,
     f "PWL_Gamma_ Slope_9" 603 592 (.u 8), f "" 607 604 .mbz, f "PWL_Gamma_ Slope_10" 619 608 (.u 8),
     f "" 623 620 .mbz, f "PWL_Gamma_ Slope_11" 635 624 (.u 8), f "" 639 636 .mbz,
     f "PWL_INV_GAMMA_ Point 1" 647 640 (.u 0), f "PWL_INV_GAMMA_ Point 2" 655 648 (.u 0),
     f "PWL_INV_GAMMA_ Point 3" 663 656 (.u 0), f "PWL_INV_GAMMA_ Point 4" 671 664 (.u 0),
     f "PWL_INV_GAMMA_ Point 5" 679 672 (.u 0), f "PWL_INV_GAMMA_ Point 6" 687 680 (.u 0),
     f "PWL_INV_GAMMA_ Point 7" 695 688 (.u 0), f "PWL_INV_GAMMA_ Point 8" 703 696 (.u 0),
     f "PWL_INV_GAMMA_ Point 9" 711 704 (.u 0), f "PWL_INV_GAMMA_ Point 10" 719 712 (.u 0),
     f "PWL_INV_GAMMA_ Point 11" 727 720 (.u 0), f "" 735 728 .mbz, f "PWL_INV_GAMMA_ Bias_1" 743 736 (.u 0),
     f "PWL_INV_GAMMA_ Bias_2" 751 744 (.u 0), f "PWL_INV_GAMMA_ Bias_3" 759 752 (.u 0),
     f "PWL_INV_GAMMA_ Bias_4" 767 760 (.u 0), f "PWL_INV_GAMMA_ Bias_5" 775 768 (.u 0),
     f "PWL_INV_GAMMA_ Bias_6" 783 776 (.u 0), f "PWL_INV_GAMMA_ Bias_7" 791 784 (.u 0),
     f "PWL_INV_GAMMA_ Bias_8" 799 792 (.u 0), f "PWL_INV_GAMMA_ Bias_9" 807 800 (.u 0),
     f "PWL_INV_GAMMA_ Bias_10" 815 808 (.u 0), f "PWL_INV_GAMMA_ Bias_11" 823 816 (.u 0), f "" 831 824 .mbz,
     f "PWL_INV_GAMMA_ Slope_0" 843 832 (.u 8), f "" 847 844 .mbz, f "PWL_INV_GAMMA_ Slope_1" 859 848 (.u 8)] ++
    [f "" 863 860 .mbz, f "PWL_INV_GAMMA_ Slope_2" 875 864 (.u 8), f "" 879 876 .mbz,
     f "PWL_INV_GAMMA_ Slope_3" 891 880 (.u 8), f "" 895 892 .mbz, f "PWL_INV_GAMMA_ Slope_4" 907 896 (.u 8),
     f "" 911 908 .mbz, f "PWL_INV_GAMMA_ Slope_5" 923 912 (.u 8), f "" 927 924 .mbz,
     f "PWL_INV_GAMMA_ Slope_6" 939 928 (.u 8), f "" 943 940 .mbz, f "PWL_INV_GAMMA_ Slope_7" 955 944 (.u 8),
     f "" 959 956 .mbz, f "PWL_INV_GAMMA_ Slope_8" 971 960 (.u 8), f "" 975 972 .mbz,
     f "PWL_INV_GAMMA_ Slope_9" 987 976 (.u 8), f "" 991 988 .mbz, f "PWL_INV_GAMMA_ Slope_10" 1003 992 (.u 8),
     f "" 1007 1004 .mbz, f "PWL_INV_GAMMA_ Slope_11" 1019 1008 (.u 8), f "" 1023 1020 .mbz,
     f "Offset_in_R" 1038 1024 (.s 0), f "" 1039 1039 .mbz, f "Offset_in_G" 1054 1040 (.s 0), f "" 1055 1055 .mbz,
     f "Offset_in_B" 1070 1056 (.s 0), f "" 1071 1071 .mbz, f "Offset_out_B" 1086 1072 (.s 12), f "" 1087 1087 .mbz,
     f "Offset_out_R" 1102 1088 (.s 12), f "" 1103 1103 .mbz, f "Offset_out_G" 1118 1104 (.s 12),
     f "" 1119 1119 .mbz, f "d1(out)" 1129 1120 (.u 0), f "d(out, default)" 1139 1130 (.u 0),
     f "d(in,default)" 1149 1140 (.u 0)] ++
    [f "FullRangeMappingEnable" 1150 1150 .raw, f "" 1151 1151 .mbz, f "d1(in)" 1161 1152 (.u 0),
     f "" 1179 1162 .mbz, (f "CompressionLineShift" 1182 1180 (.u 0)).within 0 4, f "xvYccDecEncEnable" 1183 1183 .raw,
     f "Cpi Override" 1184 1184 .raw, f "" 1194 1185 .mbz, f "BasicModeScalingFactor" 1208 1195 (.u 12),
     f "" 1212 1209 .mbz, f "LumaChormaOnlyCorrection" 1213 1213 .raw, f "GCC BasicModeSelection" 1215 1214 .raw]
  default := [0x01B40000, 0, 0, 0, 0, 0, 0, 0, 0x09050201, 0x412A1A10, 0x00BB8860, 0x3526170D, 0x8B725B47,
    0x00DFC1A5, 0, 0, 0, 0, 0, 0, 0x654F371E, 0, 0x00EDDBC8, 0x21140A03, 0x755C4331, 0x00D7B493, 0, 0, 0, 0, 0, 0, 0,
    0, 0, 0x0CD2911F, 0xB0000334]

/-- VEBOX_PROCAMP_STATE (R538). -/
def layoutVeboxProcampState : Layout where
  name := "VEBOX_PROCAMP_STATE"
  words := 2
  fields :=
    [f "PROCAMP Enable" 0 0 .raw, f "Brightness" 12 1 (.s 4), f "" 16 13 .mbz, f "Contrast" 27 17 (.u 7),
     f "" 31 28 .mbz, f "Sin_c_s" 47 32 (.s 8), f "Cos_c_s" 63 48 (.s 8)]
  default := [0x01000001, 0x01000000]

/-- VEBOX_RGB_TO_GAMMA_CORRECTION (R539). -/
def layoutVeboxRgbToGammaCorrection : Layout where
  name := "VEBOX_RGB_TO_GAMMA_CORRECTION"
  words := 2
  fields :=
    [f "Pixel Value" 15 0 (.u 0), f "R-ch Corrected Value" 31 16 (.u 0), f "G-ch Corrected Value" 47 32 (.u 0),
     f "B-ch Corrected Value" 63 48 (.u 0)]

/-- VEBOX_STD_STE_STATE (R540). -/
def layoutVeboxStdSteState : Layout where
  name := "VEBOX_STD_STE_STATE"
  words := 29
  fields :=
    [f "STD Enable" 0 0 .raw, f "STE Enable" 1 1 .raw, f "Output Control" 2 2 .raw, f "" 3 3 .mbz,
     f "Sat_Max" 9 4 (.u 0), f "Hue_Max" 15 10 (.u 0), f "U_Mid" 23 16 (.u 0), f "V_Mid" 31 24 (.u 0),
     f "Sin(α)" 39 32 (.s 7), f "" 41 40 .mbz, f "Cos(α)" 49 42 (.s 7), f "HS_margin" 52 50 (.u 0),
     f "Diamond_du" 59 53 (.s 0), f "Diamond Margin" 62 60 (.u 0), f "STD Score Output" 63 63 .raw,
     f "" 0 0 (.codes [1]) (.codes 63 63 [1]),
     f "Diamond_dv" 70 64 (.s 0), f "Diamond_Th" 76 71 (.u 0), f "Diamond_alpha" 84 77 (.u 6), f "" 95 85 .mbz,
     f "" 102 96 .mbz, f "VY_STD_Enable" 103 103 .raw, f "Y_point_1" 111 104 (.u 0), f "Y_point_2" 119 112 (.u 0),
     f "Y_point_3" 127 120 (.u 0), f "Y_point_4" 135 128 (.u 0), f "Y_Slope_1" 140 136 (.u 3),
     f "Y_Slope_2" 145 141 (.u 3), f "" 159 146 .mbz, f "INV_Margin_VYL" 175 160 (.u 16),
     f "INV_Skin_types_margin" 191 176 (.u 16), f "INV_Margin_VYU" 207 192 (.u 16), f "P0L" 215 208 (.u 0),
     f "P1L" 223 216 (.u 0), f "P2L" 231 224 (.u 0), f "P3L" 239 232 (.u 0), f "B0L" 247 240 (.u 0)] ++
    [f "B1L" 255 248 (.u 0), f "B2L" 263 256 (.u 0), f "B3L" 271 264 (.u 0), f "S0L" 282 272 (.s 8),
     f "" 287 283 .mbz, f "S1L" 298 288 (.s 8), f "S2L" 309 299 (.s 8), f "" 319 310 .mbz, f "S3L" 330 320 (.s 8),
     f "P0U" 338 331 (.u 0), f "P1U" 346 339 (.u 0), f "" 351 347 .mbz, f "P2U" 359 352 (.u 0),
     f "P3U" 367 360 (.u 0), f "B0U" 375 368 (.u 0), f "B1U" 383 376 (.u 0), f "B2U" 391 384 (.u 0),
     f "B3U" 399 392 (.u 0), f "S0U" 410 400 (.s 8), f "" 415 411 .mbz, f "S1U" 426 416 (.s 8),
     f "S2U" 437 427 (.s 8), f "" 447 438 .mbz, f "S3U" 458 448 (.s 8), f "Skin_Types_Enable" 459 459 .raw,
     f "Skin_types_thresh" 467 460 (.u 0), f "Skin_types_margin" 475 468 (.u 0), f "" 479 476 .mbz,
     f "SATP1" 486 480 (.s 0), f "SATP2" 493 487 (.s 0), f "SATP3" 500 494 (.s 0), f "SATB1" 510 501 (.s 2),
     f "" 511 511 .mbz, f "SATB2" 521 512 (.s 2), f "SATB3" 531 522 (.s 2), f "SATS0" 542 532 (.u 8)] ++
    [f "" 543 543 .mbz, f "SATS1" 554 544 (.u 8), f "SATS2" 565 555 (.u 8), f "" 575 566 .mbz,
     f "SATS3" 586 576 (.u 8), f "HUEP1" 593 587 (.s 0), f "HUEP2" 600 594 (.s 0), f "HUEP3" 607 601 (.s 0),
     f "HUEB1" 617 608 (.s 2), f "HUEB2" 627 618 (.s 2), f "HUEB3" 637 628 (.s 2), f "" 639 638 .mbz,
     f "HUES0" 650 640 (.u 8), f "HUES1" 661 651 (.u 8), f "" 671 662 .mbz, f "HUES2" 682 672 (.u 8),
     f "HUES3" 693 683 (.u 8), f "" 703 694 .mbz, f "SATP1_DARK" 710 704 (.s 0), f "SATP2_DARK" 717 711 (.s 0),
     f "SATP3_DARK" 724 718 (.s 0), f "SATB1_DARK" 734 725 (.s 2), f "" 735 735 .mbz, f "SATB2_DARK" 745 736 (.s 2),
     f "SATB3_DARK" 755 746 (.s 2), f "SATS0_DARK" 766 756 (.u 8), f "" 767 767 .mbz, f "SATS1_DARK" 778 768 (.u 8),
     f "SATS2_DARK" 789 779 (.u 8), f "" 799 790 .mbz, f "SATS3_DARK" 810 800 (.u 8), f "HUEP1_DARK" 817 811 (.s 0),
     f "HUEP2_DARK" 824 818 (.s 0), f "HUEP3_DARK" 831 825 (.s 0), f "HUEB1_DARK" 841 832 (.s 2),
     f "HUEB2_DARK" 851 842 (.s 2)] ++
    [f "HUEB3_DARK" 861 852 (.s 2), f "" 863 862 .mbz, f "HUES0_DARK" 874 864 (.u 8), f "HUES1_DARK" 885 875 (.u 8),
     f "" 895 886 .mbz, f "HUES2_DARK" 906 896 (.u 8), f "HUES3_DARK" 917 907 (.u 8), f "" 927 918 .mbz]
  default := [0x9A6E39F0, 0x400D3C65, 0x000C9180, 0xFE2F2E00, 0x0003FFFF, 0x00140000, 0xD82E0640, 0x8285ECEC,
    0x07FB8282, 0x00000000, 0x02117000, 0xA38FEC96, 0x0100C8C8, 0x003A6871, 0x01478000, 0x0107C306, 0x1291F008,
    0x00094855, 0x1C1BD100, 0x03802008, 0x0002A980, 0x00080180, 0x0007CFF5, 0x18D1F07C, 0x000800BD, 0x1C080100,
    0x03800000, 0x0008012B, 0x0008012B]

/-- VEBOX_TCC_STATE (R541). -/
def layoutVeboxTccState : Layout where
  name := "VEBOX_TCC_STATE"
  words := 11
  fields :=
    [f "" 6 0 .mbz, f "TCC Enable" 7 7 .raw, f "SatFactor1" 15 8 (.u 7), f "SatFactor2" 23 16 (.u 7),
     f "SatFactor3" 31 24 (.u 7), f "" 39 32 .mbz, f "SatFactor4" 47 40 (.u 7), f "SatFactor5" 55 48 (.u 7),
     f "SatFactor6" 63 56 (.u 7), f "BaseColor1" 73 64 (.u 0), f "BaseColor2" 83 74 (.u 0),
     f "BaseColor3" 93 84 (.u 0), f "" 95 94 .mbz, f "BaseColor4 (printed BaseColo4)" 105 96 (.u 0),
     f "BaseColor5" 115 106 (.u 0), f "BaseColor6" 125 116 (.u 0), f "" 127 126 .mbz,
     f "ColorTransitSlope12 (printed ColorTransitSlope2)" 143 128 (.u 16), f "ColorTransitSlope23" 159 144 (.u 16),
     f "ColorTransitSlope34" 175 160 (.u 16), f "ColorTransitSlope45" 191 176 (.u 16),
     f "ColorTransitSlope56" 207 192 (.u 16), f "ColorTransitSlope61" 223 208 (.u 16), f "" 225 224 .mbz,
     f "ColorBias1" 235 226 (.u 8), f "ColorBias2" 245 236 (.u 8), f "ColorBias3" 255 246 (.u 8), f "" 257 256 .mbz,
     f "ColorBias4" 267 258 (.u 8), f "ColorBias5" 277 268 (.u 8), f "ColorBias6" 287 278 (.u 8),
     f "STE Slope Bits" 290 288 (.u 0), f "" 295 291 .mbz, f "STE Threshold" 300 296 (.u 0), f "" 303 301 .mbz,
     f "UV Threshold Bits" 306 304 (.u 0)] ++
    [f "" 311 307 .mbz, f "UV Threshold" 318 312 (.u 0), f "" 319 319 .mbz, f "UVMaxColor" 328 320 (.u 0),
     f "" 335 329 .mbz, f "Inv_UVMaxColor" 351 336 (.u 0)]
  default := [0xDCDCDC00, 0xDCDCDC00, 0x1E34CC91, 0x3E3CCE91, 0x02E80195, 0x0197046B, 0x01790174, 0x00096000,
    0x00000000, 0x03030000, 0x009201C0]

end Sys2Proof.Machine
end

