-- ==== Sys2Proof/Machine/MediaFunctions.lean ====
section
/-! DEFINITION. What 46 to 49 and 60 say their remaining structures mean, as functions (R428-R570), and the composite
structures of the video enhancement engine (R534, R537, R542). The commands and registers that carry them are in volumes the
spec does not have, so no step applies these functions. -/

namespace Sys2Proof.Machine

/-- A binding table after the entry that a BINDING_TABLE_EDIT_ENTRY names takes its surface state offset (R428). -/
def bindingTableEdit (table : List DWord) (entry : DWord) : Exec (List DWord) := do
  require (layoutBindingTableEditEntry.wf entry.toNat) (.stateStructure "BINDING_TABLE_EDIT_ENTRY")
  return table.set (entry.extractLsb' 16 8).toNat ((entry.extractLsb' 0 16).setWidth 32 <<< 6)

/-- The address of the surface state that a hardware-generated binding table selects (R430). -/
def hwSurfaceStateAddress (m : Memory) (surfaceBase table : Nat) (bti : Byte) : Exec Nat := do
  require (decide (table % 64 = 0)) (.stateStructure "BindingTableAddress")
  require (decide (table + 2 * bti.toNat + 2 ≤ addressLimit)) .addressSum
  let a := surfaceBase + Memory.readLE m (table + 2 * bti.toNat) 2 * 2 ^ 6
  require (decide (a + 64 ≤ addressLimit)) .addressSum
  return a

/-- A filter coefficient, in 64ths (R457, R458, R463, R470, R530, R531). -/
def filterCoefficient (b : Byte) : Int := b.toInt

/-- Tap `k` of table 0, X or Y, of a phase (R463, R470). -/
def avsTap (v : Nat) (y : Bool) (k : Nat) : Int :=
  let lo := 32 * (k / 2) + 16 * (k % 2) + (if y then 8 else 0)
  filterCoefficient (BitVec.ofNat 8 (structureBits (lo + 7) lo v))

/-- The DWord at which a phase starts in SAMPLER_STATE_8x8_AVS (R464). -/
def avsPhase (n : Fin 32) : Nat := if n.val < 17 then 16 + 8 * n.val else 160 + 8 * (n.val - 17)

/-- The packets of a NAL list at an address (R475), at most `fuel` of them: byte 2 holds the last mark and byte 3 zero, no
packet is empty, and the next descriptor is at the next byte after a line's first byte, else past stuffed bytes of zero at the
next cache line. -/
def nalPackets (m : Memory) (a : Nat) : Nat → Exec (List (List Byte))
  | 0 => .ok []
  | fuel + 1 => do
    let n := Memory.readLE m a 2
    let mark := Memory.readLE m (a + 2) 1
    require (decide (n ≠ 0)) (.stateStructure "length_in_bytes")
    require (decide (mark ≤ 1) && Memory.read m (a + 3) == 0#8) (.stateStructure "NalReserved")
    let data := (List.range n).map fun k => Memory.read m (a + 4 + k)
    if mark = 1 then return [data]
    else
      let last := a + 4 + n - 1
      let stuffing := if last % 64 = 0 then 0 else 63 - last % 64
      require ((List.range stuffing).all fun k => Memory.read m (last + 1 + k) == 0#8) (.stateStructure "NalStuffing")
      return data :: (← nalPackets m (last + 1 + stuffing) fuel)

/-- Slices of a macroblock row by the macroblock rate (R476). -/
def slicesPerRow (rate : Nat) : Nat :=
  if rate < 250000 then 1 else if rate < 500000 then 2 else if rate < 1000000 then 4 else if rate < 2100000 then 8 else 16

/-- Macroblocks of a slice when a row of macroblocks is divided into slices (R476): rounded up. -/
def sliceLength (macroblocks slices : Nat) : Nat := (macroblocks + slices - 1) / slices

/-- The macroblock rate (R476): 16 by 16 macroblocks a second. -/
def macroblockRate (width height framesPerSecond : Nat) : Nat := (width + 15) / 16 * ((height + 15) / 16) * framesPerSecond

/-- Whether slices of that many macroblocks are long enough (R476: "Slice size Must be larger than 4MB"). DEDUCED: MB is a
macroblock there, as in the title of the table (log 58). -/
def sliceSizeOk (macroblocks : Nat) : Bool := decide (4 < macroblocks)

/-- Slices of a macroblock row by the Slice Pattern Per MB Row of a structure (R474). -/
def slicePattern (v : Nat) : Nat := 2 ^ structureBits 306 304 v

/-- Whether a structure's Slice Pattern Per MB Row is the one of its frames (R474, R476). -/
def slicePatternOk (v width height framesPerSecond : Nat) : Bool :=
  slicePattern v == slicesPerRow (macroblockRate width height framesPerSecond) &&
    sliceSizeOk (sliceLength ((width + 15) / 16) (slicePattern v))

/-- Whether frame `n` of a session is the first of its group of pictures (R474), of which a group size of 0 makes one only. -/
def firstOfGroup (v n : Nat) : Bool :=
  let size := structureBits 191 176 v
  if size = 0 then n == 0 else n % size == 0

/-- Whether frame `n` of a session is an initial frame (R474): every one when Conditional Replenishment is off, else the first
of each group of pictures. -/
def idrFrame (v n : Nat) : Bool := structureBits 2 2 v == 0 || firstOfGroup v n

/-- The user-defined NAL packets inserted in frame `n` (R474): those of the group's list in the first frame of a group when DWord
1 bit 16 enables them, then those of the frame's list in every frame when DWord 2 bit 16 does. DEDUCED: the group's stand first
(log 56). -/
def insertedPackets (v n : Nat) (ofGroup ofFrame : List (List Byte)) : List (List Byte) :=
  (if structureBits 48 48 v = 1 ∧ firstOfGroup v n then ofGroup else []) ++ (if structureBits 80 80 v = 1 then ofFrame else [])

/-- The frame number of a frame whose count is `n` (R474): 0 when Conditional Replenishment is off, else within MaxFrameNum. -/
def frameNumber (v n : Nat) : Nat := if structureBits 2 2 v = 0 then 0 else n % 2 ^ (structureBits 163 160 v + 4)

/-- Whether HME and IME inter predictions are enabled (R474): a group of one frame disables them. -/
def interPrediction (v : Nat) : Bool := structureBits 191 176 v != 1

/-- Whether a macroblock is coded as Pskip, without coefficients (R474): its distortion is below the fixed threshold; the others
are intra. -/
def replenishSkips (v threshold distortion : Nat) : Bool := structureBits 2 2 v == 1 && decide (distortion < threshold)

/-- The type of a macroblock as the transform flag asks it (R474): intra, of mode INTRA_8x8 or not, or inter, with a sub
partition smaller than 8x8 or not. -/
inductive MacroblockShape
  | intra (mode8x8 : Bool)
  | inter (below8x8 : Bool)
deriving DecidableEq, Repr

/-- The transform8x8 flag of a macroblock (R474): 0 when the Transform 8x8 Flag is 0; of an inter macroblock 1 exactly when no sub
partition is smaller than 8x8; of an INTRA_8x8 macroblock the encoder's choice; else 0. -/
def transform8x8 (v : Nat) (choice : Bool) : MacroblockShape → Bool
  | .intra mode8x8 => structureBits 255 255 v == 1 && mode8x8 && choice
  | .inter below8x8 => structureBits 255 255 v == 1 && !below8x8

/-- The Intra16x16 and Intra4x4 prediction enables go with the Transform 8x8 Flag (R474): without it one of them is set. -/
def intraPredictionOk (v : Nat) (intra16x16 intra4x4 : Bool) : Bool := structureBits 255 255 v == 1 || intra16x16 || intra4x4

/-- The least QP of a macroblock goes with the Cb and Cr offsets (R474): neither chroma QP goes below 10. -/
def chromaQpOk (v : Nat) (minQp : Int) : Bool :=
  let offset (lo : Nat) : Int := (BitVec.ofNat 5 (structureBits (lo + 4) lo v)).toInt
  decide (10 ≤ minQp + offset 240) && decide (10 ≤ minQp + offset 248)

/-- A rounding offset in sixteenths (R491). -/
def roundingOffset (v : BitVec 3) : Nat := v.toNat + 1

/-- The rounding of inter coefficients in sixteenths (R474): 2/8 when it is not enabled. -/
def roundingInter (dword7 : DWord) : Nat := if dword7.getLsbD 7 then roundingOffset (dword7.extractLsb' 4 3) else 4

/-- The rounding of intra coefficients in sixteenths (R474): 4/8 when it is not enabled. -/
def roundingIntra (dword7 : DWord) : Nat := if dword7.getLsbD 3 then roundingOffset (dword7.extractLsb' 0 3) else 8

/-- The split flags of a coding unit (R492): level 1 of partition `p`, level 2 of sub-partition `q` of `p`. -/
def splitLevel1 (v : BitVec 21) (p : Fin 4) : Bool := v.getLsbD (16 + p.val)
/-- R492. -/
def splitLevel2 (v : BitVec 21) (p q : Fin 4) : Bool := v.getLsbD (4 * p.val + q.val)

/-- The nibbles of the B-mode DWords a VP8 macroblock uses (R483), as sub-block numbers: an intra macroblock the first as its Y
mode, or all as B_PRED modes. -/
def vp8Partitions (intra : Bool) (mbType : BitVec 3) : Option (List Nat) :=
  if intra then some (if mbType.getLsbD 0 then List.range 16 else [0])
  else
  match mbType.toNat with
  | 0 => some [0]
  | 1 => some [0, 8]
  | 2 => some [0, 2]
  | 3 => some [0, 2, 8, 10]
  | 4 => some (List.range 16)
  | _ => none

/-- MPEG4-2_Inline_DMEM's derived counts are what R490 prints: macroblocks a row, a column and a VOP, and with a short header the
rows of a group of blocks. -/
def mpeg42CountsOk (v : Nat) : Bool :=
  let row := (structureBits 140 128 v + 15) / 16
  let column := (structureBits 172 160 v + 15) / 16
  structureBits 550 544 v == row && structureBits 582 576 v == column && structureBits 622 608 v == row * column &&
    (structureBits 32 32 v == 0 ||
      structureBits 1599 1568 v == structureBits 172 160 v / (16 * structureBits 1439 1408 v))

/-- Whether the next slice position in a slice's inline data is a boundary error (R488), in a picture of that many macroblocks a
row and rows: out of bound, or the same or earlier than the slice's start in the order of rows. -/
def sliceBoundaryError (v columns rows : Nat) : Bool :=
  let column := structureBits 39 32 v
  let row := structureBits 48 40 v
  let start := structureBits 31 24 v
  let startRow := structureBits 23 16 v
  decide (columns ≤ column) || decide (rows ≤ row) || decide (row < startRow) ||
    (decide (row = startRow) && decide (column ≤ start))

/-- The Slice Concealment Type bit in force for a slice (R488), given the inline data of the slice before it: the driver's under
the Override bit, else set by VIN for a boundary error of the slice before. -/
def sliceConceals (before : Option Nat) (v columns rows : Nat) : Bool :=
  if structureBits 7 7 v = 1 then structureBits 6 6 v == 1 else before.any (sliceBoundaryError · columns rows)

/-- A statistic from its mantissa and shift (R524). -/
def statistic (mantissa : Byte) (e : BitVec 4) : Nat :=
  if e = 0#4 then mantissa.toNat else (256 + mantissa.toNat) * 2 ^ e.toNat / 2 ^ 7

/-- The mantissa and shift of a statistic (R524): the leading 1 removed, the bits below the mantissa dropped. DEDUCED from the
printed decoding. -/
def encodeStatistic (n : Nat) : Nat × Nat :=
  if n < 256 then (n, 0) else (n / 2 ^ (n.log2 - 8) - 256, n.log2 - 1)

/-- The sum of a 16x4 block from its 4x4 blocks (R524): each shifted down by 2 bits. -/
def sum16x4 (blocks : List Nat) : Nat := (blocks.map (· / 4)).foldl (· + ·) 0

/-- What is measured of a 16x4 block (R524): the sums of its 4x4 blocks; the sums of differences cTpT, cBpB, cTcB, cTpB and cBpT;
per pixel the three differences that each tearing count compares, of variances 8, 9 and 10; and the moving pixels. -/
structure BlockStatistics where
  stad : List Nat
  shcm : List Nat
  svcm : List Nat
  differences : List Nat
  tearing : List (Nat × Nat × Nat)
  tearingTopFirst : List (Nat × Nat × Nat)
  tearingBottomFirst : List (Nat × Nat × Nat)
  moving : Nat
deriving DecidableEq, Repr

/-- The pixels whose first difference exceeds the sum of the other two (R524). -/
def tearingCount (pixels : List (Nat × Nat × Nat)) : Nat :=
  (pixels.filter fun (a, b, c) => decide (b + c < a)).length

/-- The enables the statistics depend on (R524). -/
structure StatisticsEnables where
  denoise : Bool
  temporalDenoise : Bool
  deinterlace : Bool
  topFirst : Bool
deriving DecidableEq, Repr

/-- The Encoder Statistics of a block (R524): a statistic of a disabled function is 0, and the second tearing count is variance 9
when the top field is first, else variance 10. -/
def encoderStatistics (e : StatisticsEnables) (b : BlockStatistics) : Nat :=
  let gate (on : Bool) (n : Nat) : Nat := if on then n else 0
  let sums := [gate e.temporalDenoise (sum16x4 b.stad), gate e.denoise (sum16x4 b.shcm), gate e.denoise (sum16x4 b.svcm)] ++
    (List.range 5).map fun k => gate e.deinterlace (b.differences.getD k 0)
  let mantissa (k : Nat) : Nat := (encodeStatistic (sums.getD k 0)).1
  let shift (k : Nat) : Nat := (encodeStatistic (sums.getD k 0)).2
  let join (width : Nat) (l : List Nat) : Nat := l.foldl (fun w x => w * 2 ^ width + x % 2 ^ width) 0
  structureValue <| (List.map (BitVec.ofNat 32)
    [join 8 [gate e.deinterlace (tearingCount b.tearing),
        gate e.deinterlace (tearingCount (if e.topFirst then b.tearingTopFirst else b.tearingBottomFirst)),
        gate e.deinterlace b.moving, 0],
     join 4 ((List.range 8).map shift), join 8 (([4, 5, 6, 7] : List Nat).map mantissa),
     join 8 (([0, 1, 2, 3] : List Nat).map mantissa)])

/-- The alpha of an output pixel (R520, R527), from the select bit and the Color Pipe Alpha of the state: taken from the message
or from the state, of which a format with 8 bits of alpha uses the 8 MSBs. -/
def outputAlpha (fromState eightBits : Bool) (colorPipeAlpha : BitVec 16) (message : Nat) : Nat :=
  if fromState then (if eightBits then (colorPipeAlpha.extractLsb' 8 8).toNat else colorPipeAlpha.toNat) else message

/-- The alpha of an output pixel under VEBOX_ALPHA_AOI_STATE (R527). -/
def veboxAlpha (v : Nat) (eightBits : Bool) (message : Nat) : Nat :=
  outputAlpha (structureBits 16 16 v == 1) eightBits (BitVec.ofNat 16 (structureBits 15 0 v)) message

/-- The alpha of an output pixel under COLOR_PROCESSING_STATE - CSC State (R520). -/
def colorProcessingAlpha (v : Nat) (eightBits : Bool) (message : Nat) : Nat :=
  outputAlpha (structureBits 272 272 v == 1) eightBits (BitVec.ofNat 16 (structureBits 271 256 v)) message

/-- Whether a pixel is in the area of interest (R527). -/
def inAreaOfInterest (v x y : Nat) : Bool :=
  structureBits 17 17 v == 1 ||
    (decide (structureBits 45 32 v ≤ x) && decide (x ≤ structureBits 61 48 v) &&
      decide (structureBits 77 64 v ≤ y) && decide (y ≤ structureBits 93 80 v))

/-- The area of interest intersects a frame of that size (R527): at least one pixel is in it. -/
def areaOfInterestOk (v width height : Nat) : Bool :=
  decide (structureBits 45 32 v ≤ structureBits 61 48 v) && decide (structureBits 45 32 v < width) &&
    decide (structureBits 77 64 v ≤ structureBits 93 80 v) && decide (structureBits 77 64 v < height)

/-- Whether motion compensated deinterlacing is used (R533): its enable is ignored when DI Enable is off. -/
def motionCompensates (v : Nat) (diEnable : Bool) : Bool := diEnable && structureBits 519 519 v == 1

/-- Temporal thresholds of the denoiser (R533): their distance is positive and at most 256, of chroma 16, or both luma
thresholds are 0. -/
def denoiseThresholdsOk (v : Nat) : Bool :=
  let high := structureBits 51 42 v
  let low := structureBits 41 32 v
  let chromaHigh := structureBits 139 134 v
  let chromaLow := structureBits 133 128 v
  ((high == 0 && low == 0) || (decide (low < high) && decide (high ≤ low + 256))) &&
    decide (chromaLow < chromaHigh) && decide (chromaHigh ≤ chromaLow + 16)

/-- The largest and smallest STMM differ by 2 to the STMM Output Shift (R533). -/
def stmmRangeOk (v : Nat) : Bool := structureBits 423 416 v == structureBits 479 472 v + 2 ^ structureBits 467 464 v

/-- The restrictions on the skin type margin and threshold (R540). -/
def skinTypesOk (v : Nat) : Bool :=
  let margin := structureBits 475 468 v
  let threshold := structureBits 467 460 v
  decide (0 < margin) && decide (margin ≤ threshold) && decide (threshold + margin ≤ 255)

/-- The base colours increase (R541). -/
def baseColoursOk (v : Nat) : Bool :=
  let c := [structureBits 73 64 v, structureBits 83 74 v, structureBits 93 84 v, structureBits 105 96 v,
    structureBits 115 106 v, structureBits 125 116 v]
  (List.range 5).all fun k => decide (c.getD k 0 < c.getD (k + 1) 0)

/-- A channel of a colour space conversion's matrix, times 2^16 (R532, R535): the offsets count twice. PRESUMED with the spec
(general knowledge: the row-major placement). -/
def conversionRow (v : Nat) (x : List Int) (row : Nat) : Int :=
  let signed (hi lo : Nat) : Int := (BitVec.ofNat (hi + 1 - lo) (structureBits hi lo v)).toInt
  let term (k : Nat) : Int :=
    signed (32 * (3 * row + k) + 18) (32 * (3 * row + k)) * (x.getD k 0 + 2 * signed (303 + 32 * k) (288 + 32 * k))
  term 0 + term 1 + term 2 + 2 ^ 17 * signed (319 + 32 * row) (304 + 32 * row)

/-- The three output channels of VEBOX_CSC_STATE or VEBOX_FRONT_END_CSC_STATE, times 2^16 (R532, R535): the transform is applied
only when bit 31 enables it; bit 30, which is zero of the front end, swaps the outer two channels. -/
def colourConversion (v : Nat) (x : List Int) : List Int :=
  let out := if structureBits 31 31 v = 1 then (List.range 3).map (conversionRow v x) else
    (List.range 3).map fun k => 2 ^ 16 * x.getD k 0
  if structureBits 30 30 v = 1 then out.reverse else out

/-- The output channels Y, U and V of an enabled ProcAmp (R521, R538), of 8-bit video; a disabled one changes nothing. PRESUMED
with the spec (general knowledge). -/
def procAmp (v : Nat) (y u w : Int) : List FieldValue :=
  let signed (hi lo : Nat) : Int := (BitVec.ofNat (hi + 1 - lo) (structureBits hi lo v)).toInt
  let contrast : Int := structureBits 27 17 v
  let sin := signed 47 32
  let cos := signed 63 48
  if structureBits 0 0 v = 1 then
    [⟨contrast * (y - 16) + 2 ^ 7 * 16 + 2 ^ 3 * signed 12 1, 2 ^ 7⟩, ⟨cos * (u - 128) + sin * (w - 128) + 2 ^ 8 * 128, 2 ^ 8⟩,
     ⟨-sin * (u - 128) + cos * (w - 128) + 2 ^ 8 * 128, 2 ^ 8⟩]
  else [⟨y, 1⟩, ⟨u, 1⟩, ⟨w, 1⟩]

/-- Two curves' segment of an input and its output, times 256 (R536): points, biases and slopes. PRESUMED with the spec
(general knowledge). -/
def piecewise (points biases slopes : List Nat) (x : Nat) : Int :=
  let i := (points.filter fun p => decide (p ≤ x)).length
  let start (l : List Nat) : Int := if i = 0 then 0 else (l.getD (i - 1) 0 : Nat)
  256 * start biases + (slopes.getD i 0 : Nat) * ((x : Int) - start points)

/-- The product of a row-major 3x3 matrix `[C0 C1 C2; C3 C4 C5; C6 C7 C8]` and a column vector. PRESUMED with the spec (general
knowledge: R529, R536). -/
def matrixProduct (coefficient : Nat → Int) (x : List Int) : List Int :=
  (List.range 3).map fun row => (List.range 3).foldl (fun sum k => sum + coefficient (3 * row + k) * x.getD k 0) 0

/-- R, G and B through the matrix of VEBOX_GAMUT_STATE, times 2^12 (R536). -/
def gamutMatrix (v : Nat) : List Int → List Int :=
  matrixProduct fun n => (BitVec.ofNat 15 (structureBits (16 * n + 110) (16 * n + 96) v)).toInt

/-- R, G and B through the matrix of VEBOX_CCM_STATE, times 2^12 (R529): applied only when bit 31 enables it. Two by two the
coefficients stand in swapped order. -/
def colourCorrection (v : Nat) (x : List Int) : List Int :=
  let dword (n : Nat) : Nat := if n = 8 then 8 else if n % 2 = 0 then n + 1 else n - 1
  if structureBits 31 31 v = 1 then
    matrixProduct (fun n => (BitVec.ofNat 17 (structureBits (32 * dword n + 16) (32 * dword n) v)).toInt) x
  else x.map (2 ^ 12 * ·)

/-- The colours of a Bayer pattern (R528). -/
inductive BayerColour
  | red
  | greenTop
  | blue
  | greenBottom
deriving DecidableEq, Repr

/-- The black point offset of a colour under VEBOX_CAPTURE_PIPE_STATE (R528): DWord 2 bits 7:4 hold the sign bits, DWords 3 and 4
the rest of 17 bits of two's complement. -/
def blackPointOffset (v : Nat) (c : BayerColour) : Int :=
  let (msb, low) :=
    match c with
    | .red => (71, 112)
    | .greenTop => (70, 96)
    | .blue => (69, 144)
    | .greenBottom => (68, 128)
  (BitVec.ofNat 1 (structureBits msb msb v) ++ BitVec.ofNat 16 (structureBits (low + 15) low v)).toInt

/-- A Vignette Correction input value under VEBOX_CAPTURE_PIPE_STATE (R528): U8.8, or U4.12. -/
def vignetteValue (v : Nat) (input : BitVec 16) : FieldValue :=
  ⟨input.toNat, if structureBits 66 66 v = 1 then 2 ^ 12 else 2 ^ 8⟩

/-- Brightness thresholds are compared against 16-bit luma with eight zero bits appended (R528). -/
def isBright (threshold : Byte) (luma : BitVec 16) : Bool := decide ((threshold ++ 0#8).toNat < luma.toNat)

/-- VEBOX_FORWARD_GAMMA_CORRECTION_STATE: 64 entries (R534, R539). -/
def layoutVeboxForwardGammaCorrectionState : Layout where
  name := "VEBOX_FORWARD_GAMMA_CORRECTION_STATE"
  words := 128
  fields := (List.range 64).flatMap fun n => layoutVeboxRgbToGammaCorrection.at (2 * n)

/-- A gamma table is legal (R539): entry 0 at 0, entry 63 at FFFFh, the others at multiples of 4. -/
def gammaTableOk (v : Nat) : Bool :=
  (List.range 64).all fun n =>
    let p := structureBits (64 * n + 15) (64 * n) v
    if n = 0 then p == 0 else if n = 63 then p == 0xFFFF else p % 4 == 0

/-- The corrected value of a channel (0 R, 1 G, 2 B) of an input pixel value under VEBOX_FORWARD_GAMMA_CORRECTION_STATE (R534,
R539): the segment starts at the last entry whose Pixel Value is not above the input; between two entries the output is linear.
PRESUMED with the spec (general knowledge: linear interpolation, increasing Pixel Values). -/
def gammaCorrection (v x : Nat) (channel : Fin 3) : FieldValue :=
  let point (n : Nat) : Nat := structureBits (64 * n + 15) (64 * n) v
  let out (n : Nat) : Int := structureBits (64 * n + 16 * channel.val + 31) (64 * n + 16 * channel.val + 16) v
  let n := ((List.range 64).filter fun k => decide (point k ≤ x)).getLast?.getD 0
  if n = 63 then ⟨out n, 1⟩
  else ⟨out n * ((point (n + 1) : Int) - point n) + (out (n + 1) - out n) * ((x : Int) - point n), point (n + 1) - point n⟩

/-- Structures one after the other (R519-R523, R537): each its own rows, and its own default words. -/
def Layout.join (name : String) (parts : List Layout) : Layout where
  name := name
  words := (parts.map Layout.words).foldl (· + ·) 0
  fields := (parts.foldl (fun (dword, rows) l => (dword + l.words, rows ++ l.at dword)) (0, [])).2
  default := parts.flatMap fun l => l.defaultWords.map BitVec.toNat

/-- VEBOX_IECP_STATE: eight structures, at DWords 0, 29, 42, 53, 55, 67, 70 and 79, with their own defaults (R537, C77). -/
def layoutVeboxIecpState : Layout :=
  Layout.join "VEBOX_IECP_STATE"
    [layoutVeboxStdSteState, layoutVeboxAceLaceState, layoutVeboxTccState, layoutVeboxProcampState, layoutVeboxCscState,
     layoutVeboxAlphaAoiState, layoutVeboxCcmState, layoutVeboxFrontEndCscState]

/-- COLOR_PROCESSING_STATE: five structures, at DWords 0, 29, 42, 53 and 55 (R519-R523). -/
def layoutColorProcessingState : Layout :=
  Layout.join "COLOR_PROCESSING_STATE"
    [layoutColorProcessingStateStdSteState, layoutColorProcessingStateAceState, layoutColorProcessingStateTccState,
     layoutColorProcessingStateProcampState, layoutColorProcessingStateCscState]

/-- VEBOX_VERTEX_TABLE: 512 entries of two 12-bit values (R542). -/
def layoutVeboxVertexTable : Layout where
  name := "VEBOX_VERTEX_TABLE"
  words := 512
  fields := (List.range 512).flatMap fun n =>
    [Layout.f "Cv" (32 * n + 11) (32 * n) (.u 0), Layout.f "" (32 * n + 15) (32 * n + 12) .mbz,
     Layout.f "Lv" (32 * n + 27) (32 * n + 16) (.u 0), Layout.f "" (32 * n + 31) (32 * n + 28) .mbz]

/-- A vertex of the table lies in its printed ranges (R542). -/
def vertexOk (entry : DWord) : Bool :=
  let lv := (entry.extractLsb' 16 12).toNat
  let cv := (entry.extractLsb' 0 12).toNat
  decide (0x100 ≤ lv) && decide (lv ≤ 0xED6) && decide (0x400 ≤ cv) && decide (cv ≤ 0xA00)

/-- A colour space conversion coefficient in 4096ths (R570): sign, exponent code, 9-bit mantissa; reserved exponents have no
value. -/
def cscCoefficient (v : BitVec 16) : Option Int :=
  let m : Int := (v.extractLsb' 3 9).toNat
  let scaled : Option Int :=
    match (v.extractLsb' 12 3).toNat with
    | 6 => some (4 * 8 * m)
    | 7 => some (2 * 8 * m)
    | 0 => some (8 * m)
    | 1 => some (4 * m)
    | 2 => some (2 * m)
    | 3 => some m
    | _ => none
  scaled.map fun x => if v.getLsbD 15 then -x else x

end Sys2Proof.Machine
end

