-- ==== Sys2Proof/Tests/Slice0.lean ====
section
/-! SUPPORT. Tests: a witness for each statement with hypotheses, the checks of WellFormed, the decoding of words written
out from the spec's encodings, and single steps and values of spec/95_test_vectors.md (named by vector). -/

namespace Sys2Proof.Tests

open Sys2Proof Sys2Proof.Machine Sys2Proof.Claims
set_option Elab.async false

/-! ### Small states and operands -/

/-- Controls of one channel with every mask off. -/
def ctl1 : Ctl :=
  { access := .align1, noDDClr := false, noDDChk := false, nib := false, qtr := 0#2, thread := .normal, pred := .none
    predInv := false, exec := .s1, accWr := false, cmpt := false, debug := false, sat := false, flagSub := false
    flagReg := false, noMask := true }

/-- A scalar of register `r`. -/
def reg (r : BitVec 8) (ty : RType) : SrcOp :=
  { file := .grf, ty, mod := ⟨false, false⟩, loc := .direct r 0#5, region := .align1 .s0 .w1 .s0 }

/-- Register 3 as a destination. -/
def dest (ty : RType) : DstOp := { file := .grf, ty, loc := .direct 3#8 0#5, region := .align1 .s1 }

/-- The null register as a destination. -/
def nullDest : DstOp := { file := .arf, ty := .ud, loc := .direct 0#8 0#5, region := .align1 .s1 }

def one (cond : CondMod) (ty : RType) (src : Src) : OneSrc := { ctl := ctl1, cond, dst := dest ty, src0 := src }

def two (cond : CondMod) (ty : RType) (a : SrcOp) (b : Src) : TwoSrc :=
  { ctl := ctl1, cond, dst := dest ty, src0 := a, src1 := b }

def tri (r : BitVec 8) : TriOp := { reg := r, sub := 0#4, swz := 0xE4#8, rep := false, mod := ⟨false, false⟩ }

def three (cond : CondMod) (ty : TType) : ThreeSrc :=
  { ctl := ctl1, cond, dstReg := 3#8, dstSub := 0#3, chanEn := 0xF#4, dstTy := ty, srcTy := ty, half1 := false
    half2 := false, s0 := tri 2#8, s1 := tri 4#8, s2 := tri 2#8 }

/-- A running thread at 1000h, register 4 all ones, the others 0. 64 KiB of stateless memory at 0. Entry 0 of the binding
table (at 40h) leads to the null surface, entry 1 to a linear 2D surface of 32 columns and one row at address 0, entry 2 to a
one-dimensional one of one element, entry 3 to one like entry 1's with Y tiles. At 0 is the state of a media surface of 8 pixels, at 1000h a sampler state. -/
def running : State :=
  { State.reset with
    eu := { loadedThread 0 with
      bindingTable := 0x40#32
      samplerTable := 0x1000#32
      grf := (Vector.replicate 128 0#256).set 4 (BitVec.allOnes 256) }
    mem := [(0x4, 0x70#8), (0x8, 0x78#8), (0x41, 0x20#8), (0x45, 0x30#8), (0x49, 0x40#8), (0x4D, 0x50#8), (0x2003, 0xE0#8),
      (0x3003, 0x20#8), (0x3008, 0x1F#8), (0x300C, 0x1F#8), (0x5001, 0x30#8), (0x5003, 0x20#8), (0x5008, 0x1F#8), (0x500C, 0x7F#8)]
    ctx := { Context.reset with generalSize := 0x10000#48 }
    nextTid := 1 }

/-! ### What R96 needs -/

theorem one_channel {P : Nat → Prop} {k : Ctl} (hk : k.exec = .s1) (h : P 0) : ∀ c, c < k.exec.channels → P c := by
  intro c hc
  rw [hk] at hc
  obtain rfl : c = 0 := by simpa [ExecSize.channels] using hc
  exact h

theorem storeConditions_ip (k u off outs t) : (storeConditions k u off outs t).ip = t.ip := by
  unfold storeConditions
  dsimp only
  split <;> split <;> rfl

theorem storeLanes_grf (d : Dest) (l : List (Bool × Place × Lane)) (h : ∀ e ∈ l, ∃ a, e.2.1 = .grf a) :
    ∀ t : Thread, ∃ u, storeLanes d t l = .ok u ∧ u.ip = t.ip := by
  induction l with
  | nil => exact fun t => ⟨t, rfl, rfl⟩
  | cons e rest ih =>
    intro t
    obtain ⟨en, p, v⟩ := e
    obtain ⟨a, rfl⟩ : ∃ a, p = .grf a := h _ List.mem_cons_self
    have ih := ih fun e he => h e (List.mem_cons_of_mem _ he)
    cases en
    · exact ih t
    · obtain ⟨u, hu, hip⟩ := ih { t with grf := grfWrite t.grf a v.r.toNat d.ty.size }
      exact ⟨u, hu, hip⟩

/-- With general registers as destination, the template has a next thread whatever the channels compute. -/
theorem template_grf (k : Ctl) (d : Dest) (u : Usage) (lane : Nat → Lane) (p : Nat → Nat) (off : Nat)
    (ho : channelOffset k u.usesDf = .ok off) (hf : checkFlags k u.writesFlags off k.exec.channels = .ok ())
    (hd : ∀ c, c < k.exec.channels → dstPlace running.eu d c = .ok (.grf (p c))) (ha : d.archReg = none) :
    ∃ t, Template running k d u lane t := by
  obtain ⟨t1, h1, hip⟩ := storeLanes_grf d (outputs running k d u off (fun c => .grf (p c)) lane)
    (by simp [outputs]) running.eu
  have hi : (storeConditions k u off (outputs running k d u off (fun c => .grf (p c)) lane) t1).ip = 0x1000#32 := by
    rw [storeConditions_ip, hip]; rfl
  have hn : ∀ v, v.ip = 0x1000#32 → ∀ w, ∃ t, completeAt running.eu v running.ctx.sip k d w = .ok t := by
    intro v hv w
    simp only [completeAt_of_no_arch ha, Thread.advance, nextIp, hv, Ctl.bytes]
    cases k.cmpt <;> exact ⟨_, rfl⟩
  obtain ⟨t, hn⟩ := hn _ hi (anyWritten (outputs running k d u off (fun c => .grf (p c)) lane))
  exact ⟨t, off, _, t1, ho, hf, hd, h1, hn⟩

/-! ### Witnesses: computing instructions

Each theorem shows a state and operands that meet all hypotheses of the statement in its name, a clause at a time. -/

/-- Whatever its channel computes, the instruction has its next thread (hypothesis `Template` of the statements). -/
abbrev Fits (k : Ctl) (d : Dest) (u : Usage) : Prop := ∀ lane, ∃ t, Template running k d u lane t

theorem fits_grf (k : Ctl) (d : Dest) (u : Usage) (p : Nat → Nat) (off : Nat)
    (ho : channelOffset k u.usesDf = .ok off := by rfl)
    (hf : checkFlags k u.writesFlags off k.exec.channels = .ok () := by rfl)
    (hd : ∀ c, c < k.exec.channels → dstPlace running.eu d c = .ok (.grf (p c)) := by decide +kernel)
    (ha : d.archReg = none := by rfl) : Fits k d u :=
  fun lane => template_grf k d u lane p off ho hf hd ha

/-- One channel whose destination is register 3. -/
theorem fits_reg3 (d : Dest) (u : Usage) (hd : dstPlace running.eu d 0 = .ok (.grf 96) := by rfl)
    (ha : d.archReg = none := by rfl) : Fits ctl1 d u := by
  obtain ⟨w, g, f⟩ := u
  cases w <;> cases f <;> exact fits_grf _ _ _ (fun _ => 96) 0 rfl rfl (one_channel rfl hd) ha

theorem fits_one (cond ty src) : Fits ctl1 (.op (dest ty)) (plainUsage cond (oneTypes (one cond ty src))) := by
  cases ty <;> exact fits_reg3 _ _

theorem fits_two (cond ty a b) : Fits ctl1 (.op (dest ty)) (plainUsage cond (twoTypes (two cond ty a b))) := by
  cases ty <;> exact fits_reg3 _ _

theorem fits_three (cond ty) (w : Bool) : Fits ctl1 (triDest (three cond ty))
    { plainUsage cond (threeTypes (three cond ty)) with
      writesFlags := w && (plainUsage cond (threeTypes (three cond ty))).writesFlags } := by
  cases ty <;> exact fits_reg3 _ _

theorem reads1 (cond ty src x) (h : sourceValue running src drawSrc0 0 = .ok x) :
    Reads1 running (one cond ty src) fun _ => x := ⟨.inl rfl, one_channel rfl h⟩

theorem reads2 (cond ty a b x y) (h : sourceValue running (.reg a) drawSrc0 0 = .ok x)
    (h1 : sourceValue running b drawSrc1 0 = .ok y) (hs : checkSource1 b = .ok ())
    (hp : checkPacked (two cond ty a b) = .ok ()) :
    Reads2 running (two cond ty a b) (fun _ => x) fun _ => y :=
  ⟨.inl rfl, ⟨hs, hp⟩, one_channel rfl ⟨h, h1⟩⟩

/-- Register 4 as a `:ud` and register 2 as one: the largest value and 0. -/
theorem witness_MoveGivesSourceConverted : ∃ raw : Nat → QWord,
    FloatMode running.eu (oneTypes (one .none .f (.reg (reg 4 .ud)))) ∧
    (∀ c, c < ctl1.exec.channels → readSource running (.reg (reg 4 .ud)) drawSrc0 c = .ok (raw c)) ∧
    Fits ctl1 (.op (dest .f)) (plainUsage .none (oneTypes (one .none .f (.reg (reg 4 .ud))))) :=
  ⟨fun _ => 0xFFFFFFFF#64, .inl rfl, one_channel rfl (by decide +kernel), fits_one _ _ _⟩

theorem witness_SelectGivesTheChosenSource_ints :
    let o := two .l .d (reg 4 .d) (.reg (reg 2 .d))
    Reads2 running o (fun _ => .int (-1)) (fun _ => .int 0) ∧ o.ctl.pred = .none ∧ o.cond ≠ .none ∧ o.cond ≠ .o ∧
    o.cond ≠ .u ∧ unify running.eu.floatEnv (running.draw 0 drawResult) (.int (-1)) (.int 0) = .ok (.ints (-1) 0) ∧
    Fits ctl1 (.op (dest .d)) { plainUsage .l (twoTypes o) with writesFlags := false } :=
  ⟨reads2 _ _ _ _ _ _ (by decide +kernel) (by decide +kernel) rfl rfl, rfl, by decide, by decide, by decide, rfl,
    fits_grf _ _ _ (fun _ => 96) 0⟩

theorem witness_SelectGivesTheChosenSource_floats :
    let o := two .ge .f (reg 4 .f) (.imm .f 0x3F800000#32)
    Reads2 running o (fun _ => .flt .f 0xFFFFFFFF) (fun _ => .flt .f 0x3F800000) ∧ o.ctl.pred = .none ∧
    o.cond ≠ .none ∧ o.cond ≠ .o ∧ o.cond ≠ .u ∧
    unify running.eu.floatEnv (running.draw 0 drawResult) (.flt .f 0xFFFFFFFF) (.flt .f 0x3F800000) = .ok (.flts .f 0xFFFFFFFF 0x3F800000) ∧
    Fits ctl1 (.op (dest .f)) { plainUsage .ge (twoTypes o) with writesFlags := false } :=
  ⟨reads2 _ _ _ _ _ _ (by decide +kernel) (by decide +kernel) rfl rfl, rfl, by decide, by decide, by decide, rfl,
    fits_grf _ _ _ (fun _ => 96) 0⟩

theorem witness_SelectGivesTheChosenSource_predicated :
    let o := { two .none .d (reg 4 .d) (.reg (reg 2 .d)) with ctl := { ctl1 with pred := .seq } }
    Reads2 running o (fun _ => .int (-1)) (fun _ => .int 0) ∧ o.ctl.pred ≠ .none ∧ o.cond = .none ∧
    channelOffset o.ctl (usesDouble (twoTypes o)) = .ok 0 ∧
    Fits o.ctl (.op o.dst) { plainUsage o.cond (twoTypes o) with predicateGates := false } :=
  ⟨⟨.inl rfl, ⟨rfl, rfl⟩, one_channel rfl (by decide +kernel)⟩, by decide, rfl, rfl, fits_grf _ _ _ (fun _ => 96) 0⟩

theorem witness_LogicGivesBitwiseResult_not :
    let o := one .z .d (.reg (reg 4 .uw))
    RType.isInt o.dst.ty = true ∧ (∀ c, c < o.ctl.exec.channels → logicValue running o.src0 true drawSrc0 c = .ok 0xFFFF) ∧
    Fits o.ctl (.op o.dst) (plainUsage o.cond (oneTypes o)) :=
  ⟨rfl, one_channel rfl (by decide +kernel), fits_one _ _ _⟩

theorem witness_LogicGivesBitwiseResult_two :
    let o := two .nz .d (reg 4 .w) (.imm .ud 0x80000000#32)
    RType.isInt o.dst.ty = true ∧ Source1 o ∧ (∀ c, c < o.ctl.exec.channels →
      logicValue running (.reg o.src0) false drawSrc0 c = .ok (-1) ∧ logicValue running o.src1 false drawSrc1 c = .ok 0x80000000) ∧
    Fits o.ctl (.op o.dst) (plainUsage o.cond (twoTypes o)) :=
  ⟨rfl, ⟨rfl, rfl⟩, one_channel rfl (by decide +kernel), fits_two _ _ _ _⟩

/-- The largest `:ud` and the largest word, for all six instructions: the sources are not both 32 bits wide. -/
theorem witness_ArithmeticGivesItsResult_ints :
    let o := two .o .ud (reg 4 .ud) (.reg (reg 4 .uw))
    Reads2 running o (fun _ => .int 0xFFFFFFFF) (fun _ => .int 0xFFFF) ∧
    (isDword o.src0.ty && isDword (Src.elemType o.src1)) = false ∧ Fits o.ctl (.op o.dst) (plainUsage o.cond (twoTypes o)) :=
  ⟨reads2 _ _ _ _ _ _ (by decide +kernel) (by decide +kernel) rfl rfl, rfl, fits_two _ _ _ _⟩

theorem witness_ArithmeticGivesItsResult_dwords :
    let o := two .none .ud (reg 4 .ud) (.reg (reg 4 .ud))
    Reads2 running o (fun _ => .int 0xFFFFFFFF) (fun _ => .int 0xFFFFFFFF) ∧ o.ctl.sat = false ∧ o.cond = .none ∧
    Fits o.ctl (.op o.dst) (plainUsage o.cond (twoTypes o)) :=
  ⟨reads2 _ _ _ _ _ _ (by decide +kernel) (by decide +kernel) rfl rfl, rfl, rfl, fits_two _ _ _ _⟩

/-- A NaN, and an integer beside a float. -/
theorem witness_ArithmeticGivesItsResult_floats :
    let o := two .none .f (reg 4 .f) (.reg (reg 2 .w))
    Reads2 running o (fun _ => .flt .f 0xFFFFFFFF) (fun _ => .int 0) ∧
    (∃ b, unify running.eu.floatEnv (running.draw 0 drawResult) (.flt .f 0xFFFFFFFF) (.int 0) = .ok (.flts .f 0xFFFFFFFF b)) ∧
    (isDword o.src0.ty && isDword (Src.elemType o.src1)) = false ∧ Fits o.ctl (.op o.dst) (plainUsage o.cond (twoTypes o)) :=
  ⟨reads2 _ _ _ _ _ _ (by decide +kernel) (by decide +kernel) rfl rfl, ⟨_, rfl⟩, rfl, fits_two _ _ _ _⟩

/-- 0 and all ones; source types as `bfrev`, `lzd` and `fbl`, `fbh` (`:d`), `cbit` (`:ub`) want them. -/
theorem witness_BitFieldInstructionsGiveTheirValue_one :
    (Reads1 running (one .none .ud (.reg (reg 2 .ud))) (fun _ => .int 0) ∧
      oneTypes (one .none .ud (.reg (reg 2 .ud))) = [.ud, .ud]) ∧
    (Reads1 running (one .none .ud (.reg (reg 4 .ud))) (fun _ => .int 0xFFFFFFFF) ∧
      Src.elemType (.reg (reg 4 .ud)) = .ud) ∧
    (Reads1 running (one .none .ud (.reg (reg 4 .d))) (fun _ => .int (-1)) ∧
      isDword (Src.elemType (.reg (reg 4 .d))) = true) ∧
    (Reads1 running (one .none .ud (.reg (reg 4 .ub))) (fun _ => .int 0xFF) ∧
      cbitStated (one .none .ud (.reg (reg 4 .ub))) = true) ∧
    ∀ src, Fits ctl1 (.op (dest .ud)) (plainUsage .none (oneTypes (one .none .ud src))) :=
  ⟨⟨reads1 _ _ _ _ (by decide +kernel), rfl⟩, ⟨reads1 _ _ _ _ (by decide +kernel), rfl⟩,
    ⟨reads1 _ _ _ _ (by decide +kernel), rfl⟩, ⟨reads1 _ _ _ _ (by decide +kernel), rfl⟩, fun _ => fits_one _ _ _⟩

/-- A float source, for which no rule states a count or a mask. -/
theorem witness_BitFieldInstructionsGiveTheirValue_unstated :
    (let o := one .none .ud (.reg (reg 4 .f))
     Reads1 running o (fun _ => .flt .f 0xFFFFFFFF) ∧ Src.elemType o.src0 ≠ .ud ∧ isDword (Src.elemType o.src0) = false ∧
     cbitStated o = false ∧ Fits o.ctl (.op o.dst) (plainUsage o.cond (oneTypes o))) ∧
    (let o := two .none .ud (reg 4 .f) (.reg (reg 2 .ud))
     Reads2 running o (fun _ => .flt .f 0xFFFFFFFF) (fun _ => .int 0) ∧ (twoTypes o).all isDword = false ∧
     Fits o.ctl (.op o.dst) (plainUsage o.cond (twoTypes o))) :=
  ⟨⟨reads1 _ _ _ _ (by decide +kernel), by decide, rfl, rfl, fits_one _ _ _⟩,
    reads2 _ _ _ _ _ _ (by decide +kernel) (by decide +kernel) rfl rfl, rfl, fits_two _ _ _ _⟩

theorem witness_BitFieldInstructionsGiveTheirValue_two :
    let o := two .none .ud (reg 4 .ud) (.reg (reg 2 .ud))
    Reads2 running o (fun _ => .int 0xFFFFFFFF) (fun _ => .int 0) ∧ (twoTypes o).all isDword = true ∧
    Fits o.ctl (.op o.dst) (plainUsage o.cond (twoTypes o)) :=
  ⟨reads2 _ _ _ _ _ _ (by decide +kernel) (by decide +kernel) rfl rfl, rfl, fits_two _ _ _ _⟩

theorem witness_BitFieldInstructionsGiveTheirValue_three :
    Reads3 running (three .none .d) (fun _ => .int 0) (fun _ => .int (-1)) (fun _ => .int 0) ∧
    Reads3 running (three .none .f) (fun _ => .flt .f 0) (fun _ => .flt .f 0xFFFFFFFF) (fun _ => .flt .f 0) ∧
    Fits ctl1 (triDest (three .none .d)) { plainUsage .none (threeTypes (three .none .d)) with
      writesFlags := true && (plainUsage .none (threeTypes (three .none .d))).writesFlags } :=
  ⟨⟨.inl rfl, one_channel rfl (by decide +kernel)⟩, ⟨.inl rfl, one_channel rfl (by decide +kernel)⟩, fits_three _ _ _⟩

theorem witness_FloatInstructionsGiveTheirResult_one :
    let o := one .u .f (.reg (reg 4 .f))
    Reads1 running o (fun _ => .flt .f 0xFFFFFFFF) ∧ execFormat [Src.elemType o.src0] = .ok .f ∧
    (∀ c, c < o.ctl.exec.channels →
      0xFFFFFFFF = toFormat running.eu.floatEnv .f (running.draw c drawResult) (.flt .f 0xFFFFFFFF)) ∧
    Fits o.ctl (.op o.dst) (plainUsage o.cond (oneTypes o)) :=
  ⟨reads1 _ _ _ _ (by decide +kernel), rfl, fun _ _ => rfl, fits_one _ _ _⟩

/-- `mad`, `lrp`, and `csel` with a condition (here) and without (`three .none .f`). -/
theorem witness_FloatInstructionsGiveTheirResult_three :
    Reads3 running (three .l .f) (fun _ => .flt .f 0) (fun _ => .flt .f 0xFFFFFFFF) (fun _ => .flt .f 0) ∧
    triFormat (three .l .f) = .ok .f ∧ threeTypes (three .l .f) = [.f, .f, .f, .f] ∧ (three .l .f).cond ≠ .none ∧
    Reads3 running (three .none .f) (fun _ => .flt .f 0) (fun _ => .flt .f 0xFFFFFFFF) (fun _ => .flt .f 0) ∧
    (three .none .f).cond = .none ∧
    ∀ w, Fits ctl1 (triDest (three .l .f)) { plainUsage .l (threeTypes (three .l .f)) with
      writesFlags := w && (plainUsage .l (threeTypes (three .l .f))).writesFlags } :=
  ⟨⟨.inl rfl, one_channel rfl (by decide +kernel)⟩, rfl, rfl, by decide,
    ⟨.inl rfl, one_channel rfl (by decide +kernel)⟩, rfl, fits_three _ _⟩

/-- A stated condition, and one whose result is open. -/
theorem witness_CompareWritesMaskAndFlag : ∀ cond ∈ [CondMod.nz, .u],
    let o := two cond .d (reg 4 .f) (.imm .f 0#32)
    Reads2 running o (fun _ => .flt .f 0xFFFFFFFF) (fun _ => .flt .f 0) ∧ o.cond ≠ .none ∧
    o.ctl.sat = false ∧ unify running.eu.floatEnv (running.draw 0 drawResult) (.flt .f 0xFFFFFFFF) (.flt .f 0) = .ok (.flts .f 0xFFFFFFFF 0) ∧
    Fits o.ctl (.op o.dst) (plainUsage o.cond (twoTypes o)) := by
  intro cond hc
  refine ⟨reads2 _ _ _ _ _ _ (by decide +kernel) (by decide +kernel) rfl rfl, ?_, rfl, rfl, fits_two _ _ _ _⟩
  rintro rfl
  simp at hc

/-- The largest value and 1, which carries; 0 less the largest value, which borrows, saturating or not. -/
theorem witness_CarryAndBorrowGoToTheAccumulator :
    let o := { two .none .ud (reg 4 .ud) (.imm .ud 1#32) with ctl := { ctl1 with accWr := true } }
    let p (sat : Bool) := { two .none .ud (reg 2 .ud) (.reg (reg 4 .ud)) with ctl := { ctl1 with accWr := true, sat } }
    (Reads2 running o (fun _ => .int 0xFFFFFFFF) (fun _ => .int 1) ∧ twoTypes o = [.ud, .ud, .ud] ∧ o.ctl.accWr = true ∧
      o.ctl.sat = false ∧ Fits o.ctl (.op o.dst) (plainUsage o.cond (twoTypes o))) ∧
    ∀ sat, Reads2 running (p sat) (fun _ => .int 0) (fun _ => .int 0xFFFFFFFF) ∧ twoTypes (p sat) = [.ud, .ud, .ud] ∧
      (p sat).ctl.accWr = true ∧ Fits (p sat).ctl (.op (p sat).dst) (plainUsage (p sat).cond (twoTypes (p sat))) :=
  ⟨⟨⟨.inl rfl, ⟨rfl, rfl⟩, one_channel rfl (by decide +kernel)⟩, rfl, rfl, rfl, fits_grf _ _ _ (fun _ => 96) 0⟩,
    fun sat => by
      cases sat
      all_goals exact ⟨⟨.inl rfl, ⟨rfl, rfl⟩, one_channel rfl (by decide +kernel)⟩, rfl, rfl, fits_grf _ _ _ (fun _ => 96) 0⟩⟩

theorem witness_AccumulatorInstructionsComplete :
    let o := { two .none .d (reg 4 .d) (.reg (reg 2 .d)) with ctl := { ctl1 with accWr := true } }
    let p := two .none .f (reg 4 .f) (.reg (reg 2 .f))
    (Reads2 running o (fun _ => .int (-1)) (fun _ => .int 0) ∧ o.ctl.accWr = true ∧
      Fits o.ctl (.op o.dst) (plainUsage o.cond (twoTypes o))) ∧
    Reads2 running p (fun _ => .flt .f 0xFFFFFFFF) (fun _ => .flt .f 0) ∧
    unify running.eu.floatEnv (running.draw 0 drawResult) (.flt .f 0xFFFFFFFF) (.flt .f 0) = .ok (.flts .f 0xFFFFFFFF 0) ∧
    Fits p.ctl (.op p.dst) (plainUsage p.cond (twoTypes p)) :=
  ⟨⟨⟨.inl rfl, ⟨rfl, rfl⟩, one_channel rfl (by decide +kernel)⟩, rfl, fits_grf _ _ _ (fun _ => 96) 0⟩,
    reads2 _ _ _ _ _ _ (by decide +kernel) (by decide +kernel) rfl rfl, rfl, fits_two _ _ _ _⟩

/-- Four channels, of which the operands are read (one is enabled), in 16-byte aligned mode. -/
theorem witness_DotLineAndPlaneComplete_dot :
    let r (n : BitVec 8) : SrcOp := { reg n .f with region := .align16 .s4 0xE4#8 }
    let o := { two .none .f (r 4) (.reg (r 2)) with
      ctl := { ctl1 with access := .align16 }, dst := { dest .f with region := .align16 0xF#4 } }
    FloatMode running.eu (twoTypes o) ∧ checkSource1 o.src1 = .ok () ∧ o.ctl.access = .align16 ∧
    execFormat [o.src0.ty, Src.elemType o.src1] = .ok .f ∧
    (∀ c, c < (o.ctl.exec.channels + 3) / 4 * 4 →
      floatSource running (.reg o.src0) .f drawSrc0 c = .ok 0xFFFFFFFF ∧
      floatSource running o.src1 .f drawSrc1 c = .ok 0) ∧
    Fits o.ctl (.op o.dst) (plainUsage o.cond (twoTypes o)) :=
  ⟨.inl rfl, rfl, rfl, rfl, by decide +kernel, fits_grf _ _ _ (fun _ => 96) 0⟩

theorem witness_DotLineAndPlaneComplete_line :
    let o := two .none .f (reg 4 .f) (.reg (reg 2 .f))
    FloatMode running.eu (twoTypes o) ∧ checkSource1 o.src1 = .ok () ∧
    execFormat [o.src0.ty, Src.elemType o.src1] = .ok .f ∧
    rowFloat running o.src0 .f 0 = .ok 0xFFFFFFFF ∧ rowFloat running o.src0 .f 3 = .ok 0xFFFFFFFF ∧
    (∀ c, c < o.ctl.exec.channels → floatSource running o.src1 .f drawSrc1 c = .ok 0) ∧
    Fits o.ctl (.op o.dst) (plainUsage o.cond (twoTypes o)) :=
  ⟨.inl rfl, rfl, rfl, by decide +kernel, by decide +kernel, one_channel rfl (by decide +kernel), fits_two _ _ _ _⟩

/-- Register 3 and the all-ones register 4 as the pair of coordinates. -/
theorem witness_DotLineAndPlaneComplete_plane :
    let e := reg 3 .f
    let o := two .none .f (reg 4 .f) (.reg e)
    FloatMode running.eu (twoTypes o) ∧ o.src1 = .reg e ∧ e.file = .grf ∧
    execFormat [o.src0.ty, e.ty] = .ok .f ∧
    rowFloat running o.src0 .f 0 = .ok 0xFFFFFFFF ∧ rowFloat running o.src0 .f 1 = .ok 0xFFFFFFFF ∧
    rowFloat running o.src0 .f 3 = .ok 0xFFFFFFFF ∧
    (∀ c, c < o.ctl.exec.channels → planeCoordinate running e .f 0 c = .ok 0 ∧ planeCoordinate running e .f 1 c = .ok 0xFFFFFFFF) ∧
    Fits o.ctl (.op o.dst) (plainUsage o.cond (twoTypes o)) :=
  ⟨.inl rfl, rfl, rfl, rfl, by decide +kernel, by decide +kernel, by decide +kernel,
    one_channel rfl (by decide +kernel), fits_two _ _ _ _⟩

def mathOp (ty : RType) : MathOp := { ctl := ctl1, dst := dest ty, src0 := reg 4 ty, src1 := reg 2 ty }

/-- A row for each class of function: integers, floats with one and with two sources. -/
theorem witness_MathFunctionsComplete :
    (Instr.mathIntDivQ, 0xC#4, true, true) ∈ mathRows ∧ (Instr.mathInv, 0x1#4, false, false) ∈ mathRows ∧
    (Instr.mathPow, 0xA#4, false, true) ∈ mathRows ∧
    MathReads running (mathOp .ud) true true (fun _ => .int 0xFFFFFFFF) (fun _ => .int 0) ∧
    MathReads running { mathOp .f with src1 := { reg 0 .f with file := .arf } } false false (fun _ => .flt .f 0xFFFFFFFF) (fun _ => .int 0) ∧
    MathReads running (mathOp .f) false true (fun _ => .flt .f 0xFFFFFFFF) (fun _ => .flt .f 0) ∧
    Fits ctl1 (.op (dest .ud)) (plainUsage .none (mathTypes (mathOp .ud))) ∧
    Fits ctl1 (.op (dest .f)) (plainUsage .none (mathTypes (mathOp .f))) :=
  ⟨by simp [mathRows], by simp [mathRows], by simp [mathRows],
    ⟨.inl rfl, .inl rfl, fun _ => rfl, one_channel rfl ⟨by decide +kernel, by decide +kernel⟩⟩,
    ⟨.inl rfl, .inr ⟨rfl, by decide⟩, nofun, one_channel rfl ⟨by decide +kernel, rfl⟩⟩,
    ⟨.inl rfl, .inl rfl, nofun, one_channel rfl ⟨by decide +kernel, by decide +kernel⟩⟩,
    fits_grf _ _ _ (fun _ => 96) 0, fits_grf _ _ _ (fun _ => 96) 0⟩

theorem witness_MathFunctionsComplete_intDivide : ∃ t u place,
    MathReads running (mathOp .ud) true true (fun _ => .int 0xFFFFFFFF) (fun _ => .int 0) ∧
    Template running ctl1 (.op (dest .ud)) (plainUsage .none (mathTypes (mathOp .ud)))
      (mathResult running (mathOp .ud) (Config.mathFn 0xB#4 (mathOp .ud).src0.ty.code) (fun _ => .int 0xFFFFFFFF)
        fun _ => .int 0) t ∧
    channelOffset ctl1 (usesDouble (mathTypes (mathOp .ud))) = .ok 0 ∧
    (∀ c, c < ctl1.exec.channels →
      remainderPlace running.eu (mathOp .ud) c = .ok (place c)) ∧
    storeLanes (.op (dest .ud)) t (outputs running ctl1 (.op (dest .ud)) (plainUsage .none (mathTypes (mathOp .ud))) 0 place
      (mathResult running (mathOp .ud) (Config.mathRem 0xB#4 (mathOp .ud).src0.ty.code) (fun _ => .int 0xFFFFFFFF)
        fun _ => .int 0)) = .ok u := by
  obtain ⟨t, ht⟩ := fits_reg3 (.op (dest .ud)) (plainUsage .none (mathTypes (mathOp .ud))) rfl rfl
    (mathResult running (mathOp .ud) (Config.mathFn 0xB#4 (mathOp .ud).src0.ty.code) (fun _ => .int 0xFFFFFFFF)
      fun _ => .int 0)
  exact ⟨t, _, fun _ => .grf 128,
    ⟨.inl rfl, .inl rfl, fun _ => rfl, one_channel rfl ⟨by decide +kernel, by decide +kernel⟩⟩, ht, rfl,
    one_channel rfl rfl, rfl⟩

/-! Compact instructions with indices 0 but for the data type index (R73 to R79): register 4 (and 2) to register 3. -/

def compactTwo (op : BitVec 7) (dataType : BitVec 5) (src1 : BitVec 8) : CompactTwo :=
  { op, debug := false, control := 0#5, dataType, subReg := 0#5, accWr := false, cond := 0#4, src0Index := 0#5
    src1Index := 0#5, dst := 3#8, src0 := 4#8, src1 }

def compactThree : CompactThree :=
  { op := 0x5B#7, control := 0#2, source := 0#2, dst := 3#7, rep0 := false, debug := false, sat := false, rep1 := false
    rep2 := false, sub0 := 0#3, sub1 := 0#3, sub2 := 0#3, src0 := 2#7, src1 := 4#7, src2 := 2#7 }

def short1 : Ctl := { ctl1 with cmpt := true }

theorem witness_CompactRunsItsExpansion_mov :
    let n : OneSrc := { one .none .ud (.reg (reg 4 .ud)) with ctl := short1 }
    (compactTwo 1 2 0).op = 1#7 ∧ expanded (expandTwo Config.srcIndexTable (compactTwo 1 2 0)) = .ok (.mov n) ∧
    FloatMode running.eu (oneTypes n) ∧
    (∀ c, c < n.ctl.exec.channels → readSource running n.src0 drawSrc0 c = .ok 0xFFFFFFFF#64) ∧
    Fits n.ctl (.op n.dst) (plainUsage n.cond (oneTypes n)) :=
  ⟨rfl, by decide +kernel, .inl rfl, one_channel rfl (by decide +kernel), fits_grf _ _ _ (fun _ => 96) 0⟩

theorem witness_CompactRunsItsExpansion_add :
    let n : TwoSrc := { two .none .ud (reg 4 .ud) (.reg (reg 2 .ud)) with ctl := short1 }
    (compactTwo 0x40 9 2).op = 0x40#7 ∧ expanded (expandTwo Config.srcIndexTable (compactTwo 0x40 9 2)) = .ok (.add n) ∧
    Reads2 running n (fun _ => .int 0xFFFFFFFF) (fun _ => .int 0) ∧
    Fits n.ctl (.op n.dst) (plainUsage n.cond (twoTypes n)) :=
  ⟨rfl, by decide +kernel, ⟨.inl rfl, ⟨rfl, rfl⟩, one_channel rfl (by decide +kernel)⟩,
    fits_grf _ _ _ (fun _ => 96) 0⟩

/-- A compact `mad` has 8 channels. -/
theorem witness_CompactRunsItsExpansion_mad : ∃ n : ThreeSrc,
    compactThree.op = 0x5B#7 ∧ expanded (expandThree compactThree) = .ok (.mad n) ∧ triFormat n = .ok .f ∧
    Reads3 running n (fun _ => .flt .f 0) (fun c => .flt .f (if c < 4 then 0xFFFFFFFF else 0)) (fun _ => .flt .f 0) ∧
    Fits n.ctl (triDest n) { plainUsage n.cond (threeTypes n) with
      writesFlags := true && (plainUsage n.cond (threeTypes n)).writesFlags } :=
  ⟨{ three .none .f with ctl := { short1 with access := .align16, exec := .s8 } }, rfl, by decide +kernel, rfl,
    ⟨.inl rfl, by decide +kernel⟩, fits_grf _ _ _ (fun c => 96 + 4 * c) 0⟩

/-- Clauses with any next state: the `mov` above has one. Opcode 0 outside the system routine, its exception enabled. -/
theorem witness_CompactRunsItsExpansion_any :
    (compactTwo 1 2 0).wf = true ∧ (compactTwo 1 2 0).op ≠ 0#7 ∧ compactThree.wf = true ∧ (compactTwo 0 0 0).op = 0#7 ∧
    (∃ i t, expanded (expandTwo Config.srcIndexTable (compactTwo 1 2 0)) = .ok i ∧ exec i running = .next t) ∧
    (∃ i t, expanded (expandThree compactThree) = .ok i ∧ exec i running = .next t) ∧
    running.eu.inRoutine = false ∧ EuException.enabled .illegalOpcode running.eu = true :=
  ⟨rfl, by decide, rfl, rfl,
    ⟨.mov { one .none .ud (.reg (reg 4 .ud)) with ctl := short1 }, _, by decide +kernel, rfl⟩,
    ⟨.mad { three .none .f with ctl := { short1 with access := .align16, exec := .s8 } }, _, by decide +kernel, rfl⟩,
    rfl, rfl⟩

/-! ### Witnesses: control transfer and exceptions -/

def br2 (k : Ctl) (jip uip : BitVec 32) : BranchTwo := { ctl := k, dst := nullDest, tag0 := .imm .d, jip, uip }

def br1 (k : Ctl) (off : Offset) : BranchOne :=
  { ctl := k, dst := dest .ud, src0 := reg 2 .ud, tag1 := .imm .d, off }

/-- Predicated by f0.0, which is 0: no channel's predicate holds. -/
def never : Ctl := { ctl1 with pred := .seq }

/-- All 32 channels. -/
def all32 (k : Ctl) : Ctl := { k with exec := .s32 }

/-- Channel 0 waits at address 0, the lowest target; the others continue. With all channels predicated off, the thread
jumps too. -/
theorem witness_IfAndElseDivideTheirChannels_if :
    (BranchAt running never 0 0x1010#32 ∧ never.pred ≠ .none ∧
      Reaches99 running (someFail running.eu never 0) (0xFFFFF000#32).toInt 0#32 0x1010#32 ∧
      someContinue running.eu never 0 = true) ∧
    BranchAt running (all32 never) 0 0x1010#32 ∧
    Reaches99 running (someFail running.eu (all32 never) 0) (0x7FFFFFF8#32).toInt 0x80000FF8#32 0x1010#32 ∧
    someContinue running.eu (all32 never) 0 = false ∧
    branchTarget running.eu.ip (0x7FFFFFF8#32).toInt = .ok 0x80000FF8#32 :=
  ⟨⟨⟨rfl, rfl⟩, by decide, by simp only [Reaches99]; decide +kernel, by decide +kernel⟩, ⟨rfl, rfl⟩,
    by simp only [Reaches99]; decide +kernel, by decide +kernel, by decide +kernel⟩

theorem witness_IfAndElseDivideTheirChannels_else :
    channelOffset ctl1 false = .ok 0 ∧ nextIp running.eu.ip 16 = .ok 0x1010#32 ∧
    Reaches99 running ((List.range 32).any running.eu.live) (0x20#32).toInt 0x1020#32 0x1010#32 ∧
    defaultIp running.eu (movedPcip running.eu (fun _ => true) 0x1020#32 0x1010#32) 0x1010#32 0xFFFFF000#32 = .ok 0#32 :=
  ⟨rfl, rfl, by simp only [Reaches99]; decide +kernel, by decide +kernel⟩

/-- Targets for `break` (UIP one instruction before it), for `cont` and `halt` (UIP of it), and for `goto` forward. -/
theorem witness_BranchesAndLoopsMoveTheirChannels :
    BranchAt running ctl1 0 0x1010#32 ∧
    Reaches99 running (anyBranch running.eu ctl1 0) ((0x10#32).toInt + 16) 0x1020#32 0x1010#32 ∧
    Reaches99 running (anyBranch running.eu ctl1 0) (0x20#32).toInt 0x1020#32 0x1010#32 ∧
    (0 ≤ (0x20#32).toInt ∧ 0 ≤ (0#32).toInt) ∧ ¬ ((0#32) = 0#32 ∧ (0x20#32) = 0#32) ∧
    defaultIp running.eu (movedPcip running.eu (branching running.eu ctl1 0) 0x1020#32 0x1010#32) 0x1010#32 0#32 =
      .ok 0x1010#32 :=
  ⟨⟨rfl, rfl⟩, by simp only [Reaches99]; decide +kernel, by simp only [Reaches99]; decide +kernel, by decide, by decide,
    by decide +kernel⟩

/-- Back to address 0; and no channel that goes back. -/
theorem witness_BranchesAndLoopsMoveTheirChannels_while :
    (br1 ctl1 (.jip 0xFFFFF000#32)).off = .jip 0xFFFFF000#32 ∧ BranchAt running ctl1 0 0x1010#32 ∧
    Reaches99 running (anyBranch running.eu ctl1 0) (0xFFFFF000#32).toInt 0#32 0x1010#32 ∧
    BranchAt running never 0 0x1010#32 ∧
    Reaches99 running (anyBranch running.eu never 0) (0xFFFFF000#32).toInt 0x1010#32 0x1010#32 :=
  ⟨rfl, ⟨rfl, rfl⟩, by simp only [Reaches99]; decide +kernel, ⟨rfl, rfl⟩, by simp only [Reaches99]; decide +kernel⟩

theorem witness_JmpiJumpsTheThread :
    BranchAt running ctl1 0 0x1010#32 ∧ (0x20 : Int) = (BitVec.ofInt 32 0x20).toInt ∧
    predicateMask running.eu ctl1 0 = true ∧ branchTarget 0x1010#32 0x20 = .ok 0x1030#32 ∧
    (reg 2 .d).ty = .d ∧ sourceValue running (.reg (reg 2 .d)) drawSrc1 0 = .ok (.int 0) ∧
    branchTarget 0x1010#32 0 = .ok 0x1010#32 ∧
    BranchAt running never 0 0x1010#32 ∧ predicateMask running.eu never 0 = false :=
  ⟨⟨rfl, rfl⟩, by decide, by decide +kernel, by decide +kernel, rfl, by decide +kernel, by decide +kernel, ⟨rfl, rfl⟩,
    by decide +kernel⟩

/-- A call with the destination in the last two DWords of r127. -/
def callOp (k : Ctl) (v : BitVec 32) : BranchOne := { br1 k (.jip v) with dst := { dest .ud with loc := .direct 127#8 24#5 } }

theorem call_at (k : Ctl) (v : BitVec 32) (h : branchOffset k = .ok 0) : CallAt running (callOp k v) v 0 4088 0x1010#32 :=
  ⟨rfl, ⟨h, rfl⟩, rfl, by decide⟩

/-- The last two DWords of r127 take the return address and mask; from 1000h the highest target of `call`, and a `calla` to
the highest address. -/
theorem witness_CallsSaveAndReturnsRestore_call :
    (∀ v, CallAt running (callOp ctl1 v) v 0 4088 0x1010#32) ∧ anyBranch running.eu ctl1 0 = true ∧
    branchTarget running.eu.ip (0x7FFFFFF8#32).toInt = .ok 0x80000FF8#32 ∧
    branchTarget 0#32 (0xFFFFFFF8#32).toNat = .ok 0xFFFFFFF8#32 ∧
    (∀ v, CallAt running (callOp never v) v 0 4088 0x1010#32) ∧ anyBranch running.eu never 0 = false :=
  ⟨fun v => call_at _ v rfl, by decide +kernel, by decide +kernel, by decide +kernel, fun v => call_at _ v rfl,
    by decide +kernel⟩

/-- The channels return together, to address 0; and none returns. -/
theorem witness_CallsSaveAndReturnsRestore_ret :
    BranchAt running (all32 ctl1) 0 0x1010#32 ∧ readSrc running { reg 2 .ud with ty := .ud } drawSrc0 0 = .ok 0#64 ∧
    (∀ g, g < 32 → running.eu.live g = true → branching running.eu (all32 ctl1) 0 g = true) ∧
    branchTarget 0#32 ((0#64).toNat : Int) = .ok 0#32 ∧
    BranchAt running (all32 never) 0 0x1010#32 ∧
    (∃ g, g < 32 ∧ running.eu.live g = true) ∧
    anyBranch running.eu (all32 never) 0 = false :=
  ⟨⟨rfl, rfl⟩, by decide +kernel, by decide +kernel, by decide +kernel, ⟨rfl, rfl⟩,
    ⟨31, by decide, by decide +kernel⟩, by decide +kernel⟩

def waitOn (sub : BitVec 5) : OneSrc :=
  one .none .ud (.reg { reg 0x90 .ud with file := .arf, loc := .direct 0x90#8 sub })

/-- n0.3 holds 1; n0.0 holds 0. -/
theorem witness_WaitCountsNotifications :
    let s := { running with eu := { running.eu with n0 := (Vector.replicate 4 0#32).set 3 1#32 } }
    (waitOn 12).ctl.exec = .s1 ∧ (waitOn 12).ctl.pred = .none ∧ (waitOn 12).ctl.nib = false ∧
    waitIndex (waitOn 12) = .ok 3 ∧
    s.eu.n0.get 3 ≠ 0#32 ∧ s.eu.ip.toNat + Ctl.bytes (waitOn 12).ctl < 2 ^ 32 ∧
    waitIndex (waitOn 0) = .ok 0 ∧ s.eu.n0.get 0 = 0#32 :=
  ⟨rfl, rfl, rfl, rfl, by decide +kernel, by decide +kernel, rfl, rfl⟩

/-- Some channel is live and the thread goes on with it; with none live it jumps; with none live but one that waits at the next
instruction, `endif` goes on and `join` jumps. -/
theorem witness_NopAndReconvergencePointsAdvance :
    let idle := { running with eu := { running.eu with dmask := 0#32 } }
    let ahead := { running with eu := { running.eu with pcip := Vector.replicate 32 0x1010#32 } }
    let moved (s : State) := movedPcip s.eu (fun _ => false) 0x1010#32 0x1010#32
    channelOffset ctl1 false = .ok 0 ∧ nextIp running.eu.ip 16 = .ok 0x1010#32 ∧
    defaultIp running.eu (moved running) 0x1010#32 0x10#32 = .ok 0x1010#32 ∧ (List.range 32).any running.eu.live = true ∧
    nextIp idle.eu.ip 16 = .ok 0x1010#32 ∧
    defaultIp idle.eu (moved idle) 0x1010#32 0xFFFFF000#32 = .ok 0#32 ∧ (List.range 32).any idle.eu.live = false ∧
    branchTarget idle.eu.ip (0xFFFFF000#32).toInt = .ok 0#32 ∧
    defaultIp ahead.eu (moved ahead) 0x1010#32 0xFFFFF000#32 = .ok 0x1010#32 ∧ (List.range 32).any ahead.eu.live = false ∧
    branchTarget ahead.eu.ip (0xFFFFF000#32).toInt = .ok 0#32 ∧
    (br2 ctl1 0#32 0#32).jip = 0#32 ∧ (br2 ctl1 0#32 0#32).uip = 0#32 ∧
    (∃ s : State, s.eu.ip = 0xFFFFFFE8#32 ∧ s.eu.ip.toNat + 16 < 2 ^ 32) :=
  ⟨rfl, rfl, by decide +kernel, by decide +kernel, rfl, by decide +kernel, by decide +kernel, by decide +kernel,
    by decide +kernel, by decide +kernel, by decide +kernel, rfl, rfl,
    ⟨{ running with eu := { running.eu with ip := 0xFFFFFFE8#32 } }, rfl, by decide⟩⟩

/-- In the system routine. -/
def inside : State := { running with eu := running.eu.setCr0Bit 0 31 true }

theorem witness_IllegalTakesItsException :
    running.eu.inRoutine = false ∧ EuException.enabled .illegalOpcode running.eu = true ∧ inside.eu.inRoutine = true ∧
    EuException.enabled .illegalOpcode { running.eu with cr0 := Vector.replicate 3 0#32 } = false :=
  ⟨by decide +kernel, by decide +kernel, by decide +kernel, by decide +kernel⟩

theorem witness_TrapEntrySavesAndJumps :
    running.eu.inRoutine = false ∧ inside.eu.inRoutine = true ∧ (0 : Nat) < 32 ∧ (31 : Nat) < 32 ∧ (30 : Nat) ≠ 31 ∧
    (0 : Nat) ≠ 1 := by decide +kernel

/-- A word at the thread's address. -/
def fetching (w : BitVec 128) : State := State.placeWord running w

theorem acts_fetching (w : BitVec 128) : ThreadActs (fetching w) (fetching w) := ⟨0, rfl, rfl, rfl⟩

theorem witness_BreakpointTrapsBeforeTheInstruction :
    ThreadActs (fetching 0x4000007E#128) (fetching 0x4000007E#128) ∧ (fetching 0x4000007E#128).fetch = .ok 0x4000007E#128 ∧
    debugBit 0x4000007E#128 = true ∧ (fetching 0x4000007E#128).eu.suppressed = false ∧
    (fetching 0x4000007E#128).eu.inRoutine = false :=
  ⟨acts_fetching _, by decide +kernel, by decide +kernel, by decide +kernel, by decide +kernel⟩

/-- With no status bit left, and with bit 29 (the highest) left. -/
theorem witness_TrapReturnRestoresTheAddress :
    inside.eu.inRoutine = true ∧ running.eu.inRoutine = false ∧ running.eu.pendingException = false ∧
    (running.eu.setCr0Bit 1 29 true).inRoutine = false ∧ (running.eu.setCr0Bit 1 29 true).pendingException = true := by
  decide +kernel

/-! ### Witnesses: the whole machine -/

theorem witness_EveryStepKeepsTheInvariant : State.reset.Inv ∧ ∃ s', Machine.step State.reset = .next s' :=
  ⟨⟨rfl, rfl, by simp [State.reset]⟩, _, rfl⟩

theorem nop_runs (s : State) (h : s.eu.ip.toNat + 16 < 2 ^ 32) : ∃ t, exec (.nop false) s = .next t := by
  simp only [exec, execNop, Thread.advance, nextIp, require, h]
  exact ⟨_, rfl⟩

/-- A `nop` runs; `smov` is refused. -/
theorem witness_StepRunsTheDecodedInstruction :
    (ThreadActs (fetching 0x7E#128) (fetching 0x7E#128) ∧ (fetching 0x7E#128).fetch = .ok 0x7E#128 ∧ decode 0x7E#128 = .ok (.nop false) ∧
      debugBit 0x7E#128 = false ∧ (fetching 0x7E#128).blocked (.nop false) = false ∧
      (∃ s1, exec (.nop false) ((fetching 0x7E#128).markRaces (.nop false)) = .next s1) ∧
      (fetching 0x7E#128).pending = []) ∧
    (∃ i r, ThreadActs (fetching 0xA#128) (fetching 0xA#128) ∧ (fetching 0xA#128).fetch = .ok 0xA#128 ∧ decode 0xA#128 = .ok i ∧
      debugBit 0xA#128 = false ∧ (fetching 0xA#128).blocked i = false ∧
      exec i ((fetching 0xA#128).markRaces i) = .refused r) :=
  ⟨⟨acts_fetching _, by decide +kernel, by decide +kernel, by decide +kernel, by decide +kernel, nop_runs _ (by decide +kernel), rfl⟩,
    .smov { ctl := { ctl1 with noMask := false }, cond := .none
            dst := { nullDest with region := .align1 .s0 }
            src0 := .reg { reg 0 .ud with file := .arf } }, _,
    acts_fetching _, by decide +kernel, by decide +kernel, by decide +kernel, by decide +kernel, rfl⟩

/-- An instruction with every field of its controls at its last value. -/
theorem witness_DecodeEncodeRoundTrip :
    (Instr.add (two .u .hf (reg 127 .hf) (.imm .hf 0xFFFFFFFF#32))).wf = true ∧
    (Instr.add { two .u .hf (reg 127 .hf) (.imm .hf 0xFFFFFFFF#32) with
      ctl := { ctl1 with noDDClr := true, noDDChk := true, nib := true, qtr := 3#2, thread := .noPreempt, pred := .all32h
                         predInv := true, exec := .s32, accWr := true, debug := true, sat := true, flagSub := true
                         flagReg := true } }).wf = true := by
  decide +kernel

/-! ### Witnesses: messages -/

/-- A descriptor: Message Length, Response Length, Header Present, the rest. -/
def descOf (mlen rlen : Nat) (header : Bool) (fc : Nat) : BitVec 31 :=
  BitVec.ofNat 31 (mlen * 2 ^ 25 + rlen * 2 ^ 20 + header.toNat * 2 ^ 19 + fc)

/-- A send of one channel: payload from r10 on, response to r20 on. -/
def sendOp (sfid : Sfid) (d : BitVec 31) : SendOp :=
  { ctl := ctl1, sfid, dst := { dest .ud with loc := .direct 20#8 0#5 }, tag0 := .imm .ud, src0 := .direct 10#8 0#5
    ex := 0#16, eot := false, desc := .imm d }

/-- A native word, a compact one with its upper half set, and a send with the register descriptor and the bits that carry no
information set. -/
theorem witness_EncodeDecodeRoundTrip :
    (∃ i, decode 0x008D0040028D00402060020C00600040#128 = .ok i) ∧
    (∃ i, decode 0xFFFFFFFFFFFFFFFF0502030020016D40#128 = .ok i) ∧
    decode (encode (.send { sendOp .null 0#31 with desc := .reg }) ||| 0x7FFFFFFF000000000000000000000000#128) =
      .ok (.send { sendOp .null 0#31 with desc := .reg }) :=
  ⟨⟨.add { two .none .ud { reg 2 .ud with region := .align1 .s8 .w8 .s1 }
        (.reg { reg 2 .ud with region := .align1 .s8 .w8 .s1 }) with ctl := { ctl1 with exec := .s8 } }, by decide +kernel⟩,
    ⟨.compactTwo { op := 0x40#7, debug := false, control := 13#5, dataType := 11#5, subReg := 0#5, accWr := false
                   cond := 0#4, src0Index := 0#5, src1Index := 0#5, dst := 3#8, src0 := 2#8, src1 := 5#8 },
      by decide +kernel⟩, by decide +kernel⟩

def sendForm (sfid : Sfid) (d : BitVec 31) : SendForm := .plain false (sendOp sfid d)

/-- Register of a response of `n` registers. -/
def baseOf : Nat → Option Nat
  | 0 => none
  | _ + 1 => some 20

/-- Its message. -/
def sendMsg (sfid : Sfid) (d : BitVec 31) : Msg :=
  { sfid, desc := d, ex := 0#20, eot := false
    payload := (List.range (d.extractLsb' 25 4).toNat).map fun k => running.eu.reg (10 + k)
    slots := 1#32, channels := 1 }

def sendBase (d : BitVec 31) : Option Nat := baseOf (d.extractLsb' 20 5).toNat

theorem slots_ctl1 : slotMask running.eu ctl1 0 = 1#32 := by decide +kernel

theorem base_ok (sfid : Sfid) (d : BitVec 31) (n : Nat) : responseBase (sendForm sfid d) running.eu n = .ok (baseOf n) := by
  cases n <;> rfl

theorem fits_ok (n : Nat) (h : n ≤ 16) : responseFits (baseOf n) n = .ok () := by
  cases n with
  | zero => rfl
  | succ n =>
    have hr : 20 + (n + 1) ≤ 128 := by omega
    simp only [baseOf, responseFits, require, hr, decide_true]
    rfl

theorem issues (sfid : Sfid) (d : BitVec 31) (h1 : 1 ≤ (d.extractLsb' 25 4).toNat := by decide +kernel)
    (h2 : (d.extractLsb' 20 5).toNat ≤ 16 := by decide +kernel) (h3 : d.getLsbD 29 = false := by decide +kernel) :
    Issues (sendForm sfid d) running (sendMsg sfid d) (sendBase d) where
  ready := .inl rfl
  channels := ⟨0, rfl, rfl, slots_ctl1.symm⟩
  some := .inl rfl
  sfid := rfl
  desc := rfl
  ex := show 0#20 = (0#16 ++ 0#4 : BitVec 20) by decide
  eot := rfl
  width := rfl
  legal := ⟨h1, h2, h3⟩
  payload := by
    have hn : 10 + (d.extractLsb' 25 4).toNat ≤ 128 := by have := (d.extractLsb' 25 4).isLt; omega
    show readRegs running.eu 10 (d.extractLsb' 25 4).toNat = _
    simp only [readRegs, require, hn, decide_true]
    rfl
  place := base_ok sfid d _
  fits := fits_ok _ h2
  next := by show (0x1000#32).toNat + 16 < 2 ^ 32; decide

/-! Storage that answers: reads and writes inside the address space. -/

/-- The storage lies inside the address space. -/
def Bounded : Space → Prop
  | .memory base size _ => base + size ≤ addressLimit
  | .tiled _ => False
  | _ => True

/-- A state whose context has 48-bit addresses. -/
abbrev Wide (s : State) : Prop := s.limit = addressLimit

theorem bounded_block {sp : Space} {off n : Nat} (h : Bounded sp) : Bounded (sp.block off n) := by
  unfold Space.block
  split
  · exact h
  · trivial

theorem access_ok {s : State} (hw : Wide s) {a n : Nat} (h : a + n ≤ addressLimit) : s.checkAccess a n = .ok () :=
  State.checkAccess_eq_ok.mpr ⟨h, by rw [hw]; exact h⟩

theorem read_bounded (s : State) {sp : Space} (h : Bounded sp) (off n : Nat) (hw : Wide s := by rfl) :
    ∃ v, Space.read s sp off n = .ok v := by
  cases sp with
  | memory base size nc =>
    simp only [Bounded] at h
    simp only [Space.read]
    split
    · rw [access_ok hw (by omega)]; exact ⟨_, rfl⟩
    · exact ⟨_, rfl⟩
  | tiled u => exact absurd h id
  | slm id size => exact ⟨_, rfl⟩
  | zero => exact ⟨_, rfl⟩

theorem write_bounded (s : State) (hw : Wide s) {sp : Space} (h : Bounded sp) (off n v : Nat) :
    ∃ t, Space.write s sp off n v = .ok t ∧ Wide t := by
  cases sp with
  | memory base size nc =>
    simp only [Bounded] at h
    simp only [Space.write]
    split
    · rw [access_ok hw (by omega)]; exact ⟨_, rfl, hw⟩
    · exact ⟨_, rfl, hw⟩
  | tiled u => exact absurd h id
  | slm id size => exact ⟨_, rfl, by split <;> exact hw⟩
  | zero => exact ⟨_, rfl, hw⟩

theorem stores_bounded (l : List (Space × Nat × Nat × Nat)) (h : ∀ e ∈ l, Bounded e.1) :
    ∀ s, Wide s → ∃ s1, Stores s l s1 := by
  induction l with
  | nil => exact fun s _ => ⟨s, rfl⟩
  | cons e rest ih =>
    intro s hw
    obtain ⟨t, ht, hw⟩ := write_bounded s hw (h e List.mem_cons_self) e.2.1 e.2.2.1 e.2.2.2
    obtain ⟨s1, h1⟩ := ih (fun x hx => h x (List.mem_cons_of_mem _ hx)) t hw
    exact ⟨s1, t, ht, h1⟩

theorem performs_bounded (m : Msg) (o : Atomic) (n : Nat) (l : AtomLayout) (mode : Simd) (k : Nat) (loc : Locator)
    (h : ∀ i, Bounded (loc i 0 l.bytes).1) (slots : List Nat) :
    ∀ s, Wide s → ∃ s1 vals, Performs m o n l mode k loc s slots s1 vals := by
  induction slots with
  | nil => exact fun s _ => ⟨s, [], rfl, rfl⟩
  | cons i rest ih =>
    intro s hw
    obtain ⟨old, ho⟩ := read_bounded s (h i) (loc i 0 l.bytes).2 l.bytes hw
    obtain ⟨t, ht, hw⟩ := write_bounded s hw (h i) (loc i 0 l.bytes).2 l.bytes
      (o.result (s.draw i 7) (8 * l.bytes) old (if n ≥ 1 then gather m (l.place mode k 0 i) else 0)
        (if n ≥ 2 then gather m (l.place mode k 1 i) else 0))
    obtain ⟨s1, vals, hp⟩ := ih t hw
    exact ⟨s1, _, old, t, vals, ho, ht, hp, rfl⟩

/-- The stateless storage of `running`; a message with a header has 1 KiB of it (its per-thread scratch size). -/
abbrev general : Space := .memory 0 0x10000 .coherent

/-- The first kibibyte. -/
abbrev kibi : Space := .memory 0 0x400 .coherent

theorem bounded_general : Bounded general := Nat.le_of_ble_eq_true rfl

theorem bounded_kibi : Bounded kibi := Nat.le_of_ble_eq_true rfl

theorem stores_map {α : Type} (l : List α) {sp : α → Space} {off n v : α → Nat} (h : ∀ a, Bounded (sp a)) :
    ∃ s1, Stores running (l.map fun a => (sp a, off a, n a, v a)) s1 :=
  stores_bounded _ (by simpa using fun a _ => h a) _ rfl

theorem stores_flatMap {α : Type} (l : List α) (f : α → List (Space × Nat × Nat × Nat))
    (h : ∀ a, ∀ e ∈ f a, Bounded e.1) : ∃ s1, Stores running (l.flatMap f) s1 :=
  stores_bounded _ (by
    intro e he
    obtain ⟨a, _, he⟩ := List.mem_flatMap.mp he
    exact h a e he) _ rfl

theorem in_map {α : Type} (l : List α) {sp : α → Space} {off n v : α → Nat} (h : ∀ a, Bounded (sp a)) :
    ∀ e ∈ l.map fun a => (sp a, off a, n a, v a), Bounded e.1 := by simpa using fun a _ => h a

/-- Values for reads that all succeed. -/
theorem values {α : Type} {p : α → Prop} {f : α → Exec Nat} (h : ∀ a, ∃ v, f a = .ok v) :
    ∃ v : α → Nat, ∀ a, p a → f a = .ok (v a) :=
  ⟨fun a => (h a).choose, fun a _ => (h a).choose_spec⟩

theorem values2 {p : Nat → Prop} {q : Nat → Nat → Prop} {f : Nat → Nat → Exec Nat} (h : ∀ a b, ∃ v, f a b = .ok v) :
    ∃ v : Nat → Nat → Nat, ∀ a, p a → ∀ b, q a b → f a b = .ok (v a b) :=
  ⟨fun a b => (h a b).choose, fun a _ b _ => (h a b).choose_spec⟩

/-! The shared functions other than the data ports. -/

/-- The sampling engine's message names no surface, and whatever kind of message it is, its states are legal. -/
theorem witness_OpenSharedFunctionsComplete (sfid : Sfid) :
    Issues (sendForm sfid (descOf 15 16 true 0xFF)) running (sendMsg sfid (descOf 15 16 true 0xFF))
      (sendBase (descOf 15 16 true 0xFF)) ∧
    ∃ zero, samplerZeros (sendMsg .sampler (descOf 15 16 true 0xFF)) running = .ok zero := by
  refine ⟨issues _ _, ?_⟩
  have ok {α : Type} {x : Exec α} (h : x.isOk = true) : ∃ v, x = .ok v := by
    cases x with
    | ok v => exact ⟨v, rfl⟩
    | error e => cases h
  unfold samplerZeros
  dsimp only
  apply ok
  cases Config.samplerKind _ <;> decide +kernel

theorem witness_SendOpcodesReachTheirFunction :
    (Issues (sendForm .null (descOf 1 0 false 0)) running (sendMsg .null (descOf 1 0 false 0)) none ∧
      (sendForm .null (descOf 1 0 false 0)).sfid = .null ∧
      sharedFunction (sendMsg .null (descOf 1 0 false 0)) running = .ok (running, []) ∧
      running.eu.ip = running.eu.ip) ∧
    Issues (sendForm .dp0 (descOf 1 1 true (7 * 2 ^ 14))) running (sendMsg .dp0 (descOf 1 1 true (7 * 2 ^ 14))) (some 20) ∧
    (sendForm .dp0 (descOf 1 1 true (7 * 2 ^ 14))).sfid = .dp0 ∧
    (sendMsg .dp0 (descOf 1 1 true (7 * 2 ^ 14))).bits 18 1 = 0 ∧
    (sendMsg .dp0 (descOf 1 1 true (7 * 2 ^ 14))).bits 14 4 = 7 :=
  ⟨⟨issues _ _, rfl, rfl, rfl⟩, issues _ _, rfl, by decide, by decide⟩

/-- A `sendc` whose thread waits for fixed-function thread 0; a predicated `send` with no channel. -/
theorem witness_SendOpcodesReachTheirFunction_waits :
    let s := { running with eu := { running.eu with tdr0 := (Vector.replicate 8 0#16).set 7 0x8000#16 } }
    let f := SendForm.plain true (sendOp .null (descOf 1 0 false 0))
    let g := SendForm.plain false { sendOp .null (descOf 1 0 false 0) with ctl := never }
    (sendWaits f = true ∧ s.eu.hasDependency = true) ∧
    sendWaits g = false ∧ channelOffset (sendCtl g) false = .ok 0 ∧
    checkFlags (sendCtl g) false 0 (sendCtl g).exec.channels = .ok () ∧ (sendCtl g).pred ≠ .none ∧
    (∀ i, i < (sendCtl g).exec.channels → writeEnable running.eu (sendCtl g) (0 + i) = false) ∧
    running.eu.ip.toNat + Ctl.bytes (sendCtl g) < 2 ^ 32 :=
  ⟨⟨rfl, by decide +kernel⟩, rfl, rfl, rfl, by decide, by decide +kernel, by decide +kernel⟩

/-- A group of which the resident thread is one of two, at whose barrier `n` threads have arrived. -/
def grouped (n : Nat) : State :=
  { running with eu := { running.eu with group := some 7 }, groups := [⟨7, 0, [], true, n, 2⟩] }

theorem issues_grouped (n : Nat) (sfid : Sfid) (d : BitVec 31) (h1 : 1 ≤ (d.extractLsb' 25 4).toNat := by decide +kernel)
    (h2 : (d.extractLsb' 20 5).toNat ≤ 16 := by decide +kernel) (h3 : d.getLsbD 29 = false := by decide +kernel) :
    Issues (sendForm sfid d) (grouped n) (sendMsg sfid d) (sendBase d) :=
  let i := issues sfid d h1 h2 h3
  ⟨i.ready, i.channels, i.some, i.sfid, i.desc, i.ex, i.eot, i.width, i.legal, i.payload, i.place, i.fits, i.next⟩

/-- Whichever `Config.gatewayIsBarrier` says, a clause of the statement applies: a first arrival and the last one. -/
theorem witness_GatewayBarrierCountsArrivals :
    let d := descOf 1 0 false 0
    (∀ n, Issues (sendForm .gateway d) (grouped n) (sendMsg .gateway d) none) ∧
    (Config.gatewayIsBarrier ((sendMsg .gateway d).desc.setWidth 32) = false ∨
      Config.gatewayIsBarrier ((sendMsg .gateway d).desc.setWidth 32) = true) ∧
    (grouped 0).ownGroup = some ⟨7, 0, [], true, 0, 2⟩ ∧ 0 + 1 < 2 ∧
    (grouped 1).ownGroup = some ⟨7, 0, [], true, 1, 2⟩ ∧ 2 ≤ 1 + 1 :=
  ⟨fun n => issues_grouped n _ _, by cases Config.gatewayIsBarrier _ <;> simp, rfl, by decide, rfl, by decide⟩

theorem witness_UrbMessagesWriteOrReadRows :
    let d := descOf 2 1 true 0
    Issues (sendForm .urb d) running (sendMsg .urb d) (some 20) ∧
    (Config.urbIsWrite ((sendMsg .urb d).desc.setWidth 32) = true ∨
      Config.urbIsWrite ((sendMsg .urb d).desc.setWidth 32) = false) :=
  ⟨issues _ _, by cases Config.urbIsWrite _ <;> simp⟩

theorem witness_ThreadSpawnerMessagesComplete :
    (∀ rest ∈ [0, 2, 0x10, 0x12], let d := descOf 1 0 false rest
      Issues (sendForm .spawner d) running (sendMsg .spawner d) none ∧ DereferenceLegal (sendMsg .spawner d) ∧
      (sendMsg .spawner d).desc.getLsbD 0 = false) ∧
    ∀ rest ∈ [1, 0x11], let d := descOf 15 0 false rest
      Issues (sendForm .spawner d) running (sendMsg .spawner d) none ∧ SpawnerLegal (sendMsg .spawner d) ∧
      (sendMsg .spawner d).eot = false ∧ (sendMsg .spawner d).desc.getLsbD 0 = true := by
  constructor <;> intro rest hr <;> simp only [List.mem_cons, List.not_mem_nil, or_false] at hr
  · rcases hr with rfl | rfl | rfl | rfl
    all_goals exact ⟨issues _ _, by unfold DereferenceLegal SpawnerLegal; decide +kernel, by decide +kernel⟩
  · rcases hr with rfl | rfl
    all_goals exact ⟨issues _ _, by unfold SpawnerLegal; decide +kernel, rfl, by decide +kernel⟩

/-- The end of the only thread of its group. -/
theorem witness_EndOfThreadEndsTheThread :
    let f := SendForm.plain false { sendOp .spawner (descOf 1 0 false 0) with eot := true }
    let m := { sendMsg .spawner (descOf 1 0 false 0) with eot := true }
    Issues f (grouped 0) m none ∧ m.eot = true ∧ DereferenceLegal m ∧
    ∀ u ∈ (grouped 0).parked, u.group ≠ (grouped 0).eu.group :=
  let i := issues_grouped 0 .spawner (descOf 1 0 false 0)
  ⟨⟨i.ready, i.channels, i.some, i.sfid, i.desc, i.ex, rfl, i.width, i.legal, i.payload, i.place, i.fits, i.next⟩, rfl,
    by unfold DereferenceLegal SpawnerLegal; decide +kernel, by simp [grouped, running, State.reset]⟩

/-! Blocks and scattered messages on stateless memory (binding table index FFh) from address 0. -/

/-- One OWord in the low and in the high half, and eight, in units of OWords or of bytes. -/
theorem witness_OWordBlockMessagesComplete_read :
    ∀ e ∈ [(0, 1, 0), (1, 1, 1), (4, 8, 0)], let d := descOf 1 4 true (e.1 * 2 ^ 8 + 0xFF)
      Issues (sendForm .dp0 d) running (sendMsg .dp0 d) (sendBase d) ∧ (sendMsg .dp0 d).bits 13 1 = 0 ∧
      owordCount ((sendMsg .dp0 d).bits 8 3) = .ok e.2 ∧
      (∀ x ∈ [Index.shared, .stateless], blockSpace running (sendMsg .dp0 d) x = .ok kibi) ∧
      (0 = (sendMsg .dp0 d).globalOffset * 16 ∧ 0 = (sendMsg .dp0 d).globalOffset * 1 ∧ 0 % 1 = 0 ∧ 0 % 4 = 0) ∧
      ∃ v : Nat → Nat, ∀ j, j < e.2.1 → Space.read running (kibi.block 0 (16 * e.2.1)) (0 + 16 * j) 16 = .ok (v j) := by
  intro e he
  simp only [List.mem_cons, List.not_mem_nil, or_false] at he
  rcases he with rfl | rfl | rfl
  all_goals exact ⟨issues _ _, by decide +kernel, by decide +kernel, by decide +kernel, by decide +kernel,
    values fun j => read_bounded _ (bounded_block bounded_kibi) _ _⟩

theorem witness_OWordBlockMessagesComplete_write :
    let d := descOf 5 0 true (4 * 2 ^ 8 + 0xFF)
    let m := sendMsg .dp0 d
    Issues (sendForm .dp0 d) running m none ∧ owordCount (m.bits 8 3) = .ok (8, 0) ∧
    blockSpace running m .shared = .ok kibi ∧ (8 + 0 + 1) / 2 ≤ m.body.length ∧
    ∃ s1, Stores running ((List.range 8).map fun j =>
      (kibi.block (m.globalOffset * 16) (16 * 8), m.globalOffset * 16 + 16 * j, 16,
        (oword (m.reg ((0 + j) / 2)) ((0 + j) % 2)).toNat)) s1 :=
  ⟨issues _ _, by decide +kernel, by decide +kernel, by decide +kernel, by
    generalize sendMsg _ _ = m; exact stores_map _ fun _ => bounded_block bounded_kibi⟩

/-- Blocks of one and of four OWords. -/
theorem witness_OWordBlockMessagesComplete_dual :
    ∀ e ∈ [(0, 1), (2, 4)], let d := descOf 6 4 true (e.1 * 2 ^ 8 + 0xFF)
      let m := sendMsg .dp0 d
      Issues (sendForm .dp0 d) running m (some 20) ∧ dualCount (m.bits 8 2) = .ok e.2 ∧
      (∀ x ∈ [Index.shared, .stateless], blockSpace running m x = .ok kibi) ∧ 1 ≤ m.body.length ∧ m.bits 13 1 = 0 ∧ 1 + e.2 ≤ m.body.length ∧
      (∃ v : Nat → Nat → Nat, ∀ i ∈ plainActive m .s4x2, ∀ k, k < e.2 →
        Space.read running (dualBlock m kibi e.2 i) (16 * (m.globalOffset + (m.dw .s4x2 0 0 i).toNat) + 16 * k) 16 =
          .ok (v i k)) ∧
      ∃ s1, Stores running ((slotSequence running (16 * e.2) (plainActive m .s4x2) ((plainActive m .s4x2).map fun i =>
          16 * (m.globalOffset + (m.dw .s4x2 0 0 i).toNat))).flatMap fun i => (List.range e.2).map fun k =>
        (dualBlock m kibi e.2 i, 16 * (m.globalOffset + (m.dw .s4x2 0 0 i).toNat) + 16 * k, 16,
          (oword (m.reg (1 + k)) i).toNat)) s1 := by
  intro e he
  simp only [List.mem_cons, List.not_mem_nil, or_false] at he
  rcases he with rfl | rfl
  all_goals exact ⟨issues _ _, by decide +kernel, by decide +kernel, by decide +kernel, by decide +kernel, by decide +kernel,
    values2 fun i k => read_bounded _ (bounded_block bounded_kibi) _ _,
    by
      generalize sendMsg _ _ = m; exact stores_flatMap _ _ fun i => in_map _ fun k => bounded_block bounded_kibi⟩

/-- DWords and bytes, with 8 slots and with 16; no header, so all of the stateless memory. -/
theorem witness_ScatteredMessagesComplete :
    ∀ e ∈ [0, 1], let m := sendMsg .dp0 (descOf 4 2 false (e * 2 ^ 8 + 2 * 2 ^ 10 + 0xFF))
      Issues (sendForm .dp0 m.desc) running m (some 20) ∧ (∀ x ∈ [Index.shared, .stateless], blockSpace running m x = .ok general) ∧
      2 * (simd2 (m.bits 8 1)).regs ≤ m.body.length ∧ dataSize (m.bits 10 2) = .ok 4 ∧
      (∃ v : Nat → Nat, ∀ i ∈ plainActive m (simd2 (m.bits 8 1)),
        Space.read running general (4 * (m.globalOffset + (m.dw (simd2 (m.bits 8 1)) 0 0 i).toNat)) 4 = .ok (v i)) ∧
      (∃ v : Nat → Nat, ∀ i ∈ plainActive m (simd2 (m.bits 8 1)),
        Space.read running general (m.globalOffset + (m.dw (simd2 (m.bits 8 1)) 0 0 i).toNat) 4 = .ok (v i)) ∧
      ∀ n addr, ∃ s1, Stores running (scatteredStores running m (simd2 (m.bits 8 1)) n (simd2 (m.bits 8 1)).regs
        (plainActive m (simd2 (m.bits 8 1))) addr general) s1 := by
  intro e he
  simp only [List.mem_cons, List.not_mem_nil, or_false] at he
  rcases he with rfl | rfl
  all_goals exact ⟨issues _ _, by decide +kernel, by decide +kernel, by decide +kernel,
    values fun j => read_bounded _ bounded_general _ _, values fun j => read_bounded _ bounded_general _ _,
    fun n addr => by generalize sendMsg _ _ = m; exact stores_map _ fun _ => bounded_general⟩

theorem scattered_general (m : Msg) (mode : Simd) (addr : Nat → Nat) :
    (∃ v : Nat → Nat, ∀ i ∈ plainActive m mode, Space.read running general (addr i) 4 = .ok (v i)) ∧
    ∃ s1, Stores running (scatteredStores running m mode 4 mode.regs (plainActive m mode) addr general) s1 :=
  ⟨values fun _ => read_bounded _ bounded_general _ _, stores_map _ fun _ => bounded_general⟩

theorem general_space : statelessSpace running false 0 none 0 = .ok general := by decide +kernel

theorem scaled_space (m : Msg) (mode : Simd) (item : Nat) (hb : (dword m.header 5).toNat = 0)
    (hd : m.desc.getLsbD 7 = false) : ∃ addr, scaledA32 running m mode item = .ok (general, addr) := by
  cases hh : m.hasHeader
  · exact ⟨_, by simp only [scaledA32, hh, hd, general_space, Bool.false_eq_true, if_false]; rfl⟩
  · exact ⟨_, by simp only [scaledA32, hh, hb, general_space, if_true]; rfl⟩

/-- The scaled bytes of data port 2: without header, and with one (pitch of one item from base 0). -/
theorem witness_ScatteredMessagesComplete_scaled :
    ∀ h, let m := sendMsg .dp2 (descOf 5 1 h (2 * 2 ^ 10))
      Issues (sendForm .dp2 m.desc) running m (sendBase m.desc) ∧ dataSize (m.bits 10 2) = .ok 4 ∧
      2 * (simd2 (m.bits 12 1)).regs ≤ m.body.length ∧
      ∃ addr, scaledA32 running m (simd2 (m.bits 12 1)) 1 = .ok (general, addr) ∧
        (∃ v : Nat → Nat, ∀ i ∈ plainActive m (simd2 (m.bits 12 1)), Space.read running general (addr i) 4 = .ok (v i)) ∧
        ∃ s1, Stores running (scatteredStores running m (simd2 (m.bits 12 1)) 4 (simd2 (m.bits 12 1)).regs
          (plainActive m (simd2 (m.bits 12 1))) addr general) s1 := by
  intro h
  obtain ⟨addr, ha⟩ : ∃ addr, scaledA32 running (sendMsg .dp2 (descOf 5 1 h (2 * 2 ^ 10)))
      (simd2 ((sendMsg .dp2 (descOf 5 1 h (2 * 2 ^ 10))).bits 12 1)) 1 = .ok (general, addr) :=
    scaled_space _ _ _ (by cases h <;> decide +kernel) (by cases h <;> decide +kernel)
  refine ⟨issues _ _ ?_ ?_ ?_, ?_, ?_, addr, ha, scattered_general _ _ _⟩ <;> cases h <;> decide +kernel

/-! Untyped, A64 and atomic messages. -/

theorem bounded_a64 (nc : Bool) (a n : Nat) (h : n ≤ 256) : Bounded (a64Space nc a n) := by
  unfold a64Space
  split
  · rename_i hi
    simp only [a64Inside, canonical, Bool.and_eq_true, Bool.or_eq_true, decide_eq_true_eq] at hi
    simp only [Bounded, addressLimit]
    omega
  · trivial

theorem bounded_element (z : ElementSize) : z.bytes ≤ 256 := by cases z <;> decide

/-- Storage that is bounded for every element of up to 256 bytes. -/
def BoundedAt (loc : Locator) : Prop := ∀ i d n, n ≤ 256 → Bounded (loc i d n).1

theorem at_general (off : Nat → Nat) : BoundedAt (offsetLocator general off) := fun _ _ _ _ => bounded_general

theorem at_a64 (nc : Bool) (addr : Nat → Nat) : BoundedAt (a64Locator nc addr) := fun _ _ n h => bounded_a64 _ _ n h

theorem reads_at (mask : Nat) (active : List Nat) {loc : Locator} (h : BoundedAt loc) :
    ∃ v, ReadsAt running mask active loc v :=
  ⟨fun i c => (read_bounded running (h i (4 * c) 4 (by omega)) (loc i (4 * c) 4).2 4).choose, fun i _ jc _ =>
    (read_bounded running (h i (4 * jc.2) 4 (by omega)) (loc i (4 * jc.2) 4).2 4).choose_spec⟩

theorem channel_stores (m : Msg) (mode : Simd) (mask k : Nat) (active : List Nat) (addr : Nat → Nat) {loc : Locator}
    (h : BoundedAt loc) : ∃ s1, Stores running (channelStores running m mode mask k active addr loc) s1 :=
  stores_flatMap _ _ fun i => in_map _ fun jc => h i (4 * jc.2) 4 (by omega)

/-- All hypotheses of an untyped read and of an untyped write. -/
def UntypedMeets (sfid : Sfid) (d : BitVec 31) (mode : Simd) (rd wr : SendForm → Instr) (active : List Nat)
    (addr : Nat → Nat) (loc : Locator) (k : Nat) : Prop :=
  let m := sendMsg sfid d
  Issues (sendForm sfid d) running m (sendBase d) ∧ simd3 (m.bits 12 2) = .ok mode ∧
  UntypedForm running m mode rd wr active addr loc k ∧ (∀ i ∈ active, addr i % 4 = 0) ∧ m.bits 8 4 ≠ 15 ∧
  WriteMask (m.bits 8 4) ∧ k + channelRegs mode (maskChannels (m.bits 8 4)).length ≤ m.body.length ∧
  (∃ v, ReadsAt running (m.bits 8 4) active loc v) ∧
  ∃ s1, Stores running (channelStores running m mode (m.bits 8 4) k active addr loc) s1

/-- The descriptor of an untyped message of a type, in a mode's code, on one channel of stateless memory. -/
def untypedDesc (ty e : Nat) : BitVec 31 := descOf 10 2 false (ty + e * 2 ^ 12 + 14 * 2 ^ 8 + 0xFF)

/-- The three modes, and the two codes of the port's data width that a mode has. -/
def modes : List (Nat × Simd) := [(0, .s4x2), (1, .s16), (2, .s8)]

theorem witness_UntypedMessagesComplete_a32 : ∀ e ∈ modes,
    let m := sendMsg .dp1 (untypedDesc (1 * 2 ^ 14) e.1)
    UntypedMeets .dp1 (untypedDesc (1 * 2 ^ 14) e.1) e.2 .mt1rUs .mt1wUs (untypedActive m e.2) (untypedOffset m e.2 none)
      (offsetLocator general (untypedOffset m e.2 none)) (untypedAddressRegs e.2 none) := by
  intro e he
  simp only [modes, List.mem_cons, List.not_mem_nil, or_false] at he
  rcases he with rfl | rfl | rfl
  all_goals exact ⟨issues _ _, by decide +kernel, .a32 _ none (by decide +kernel) (by decide +kernel), by decide +kernel,
    by decide +kernel, .inr (.inr (.inr (by decide +kernel))), by decide +kernel, reads_at _ _ (at_general _),
    channel_stores _ _ _ _ _ _ (at_general _)⟩

theorem witness_UntypedMessagesComplete_a64 : ∀ e ∈ modes,
    let m := sendMsg .dp1 (untypedDesc 0 e.1)
    UntypedMeets .dp1 (untypedDesc 0 e.1) e.2 .mt1rA64Us .mt1wA64Us (plainActive m e.2) (fun i => (m.qw e.2 0 i).toNat)
      (a64Locator false fun i => (m.qw e.2 0 i).toNat) e.2.qregs := by
  intro e he
  simp only [modes, List.mem_cons, List.not_mem_nil, or_false] at he
  rcases he with rfl | rfl | rfl
  all_goals exact ⟨issues _ _, by decide +kernel, .a64 _ (by decide +kernel) (by decide +kernel), by decide +kernel,
    by decide +kernel, .inr (.inr (.inr (by decide +kernel))), by decide +kernel, reads_at _ _ (at_a64 _ _),
    channel_stores _ _ _ _ _ _ (at_a64 _ _)⟩

/-- Data port 2 without a header: bit 7 of the descriptor, the sideband's, is 0. -/
def scaledDesc (e : Nat) : BitVec 31 := descOf 10 2 false (1 * 2 ^ 15 + e * 2 ^ 12 + 14 * 2 ^ 8)

theorem scaled_plain (m : Msg) (mode : Simd) (item : Nat) (hh : m.hasHeader = false) (hd : m.desc.getLsbD 7 = false) :
    scaledA32 running m mode item = .ok (general, fun i => (m.dw mode 0 0 i).toNat + m.sideband) := by
  simp only [scaledA32, hh, hd, general_space, Bool.false_eq_true, if_false]; rfl

theorem scaled64_plain (m : Msg) (mode : Simd) (item : Nat) (hh : m.hasHeader = false) (hd : m.desc.getLsbD 7 = false) :
    scaledA64 m mode item = .ok (fun i => (m.qw mode 0 i).toNat, mode.qregs) := by
  simp only [scaledA64, hh, hd, Bool.false_eq_true, if_false]; rfl

theorem witness_UntypedMessagesComplete_scaled : ∀ e ∈ modes,
    let m := sendMsg .dp2 (scaledDesc e.1)
    UntypedMeets .dp2 (scaledDesc e.1) e.2 .mt2rUs .mt2wUs (untypedActive m e.2)
      (fun i => (m.dw e.2 0 0 i).toNat + m.sideband) (offsetLocator general fun i => (m.dw e.2 0 0 i).toNat + m.sideband)
      e.2.regs := by
  intro e he
  simp only [modes, List.mem_cons, List.not_mem_nil, or_false] at he
  rcases he with rfl | rfl | rfl
  all_goals exact ⟨issues _ _, by decide +kernel, .scaled _ _ (scaled_plain _ _ _ (by decide +kernel) (by decide +kernel))
    (by decide +kernel), by decide +kernel, by decide +kernel, .inr (.inr (.inr (by decide +kernel))), by decide +kernel,
    reads_at _ _ (at_general _), channel_stores _ _ _ _ _ _ (at_general _)⟩

theorem witness_UntypedMessagesComplete_scaledA64 : ∀ e ∈ modes,
    let m := sendMsg .dp2 (scaledDesc e.1)
    UntypedMeets .dp2 (scaledDesc e.1) e.2 .mt2rA64Us .mt2wA64Us (plainActive m e.2) (fun i => (m.qw e.2 0 i).toNat)
      (a64Locator false fun i => (m.qw e.2 0 i).toNat) e.2.qregs := by
  intro e he
  simp only [modes, List.mem_cons, List.not_mem_nil, or_false] at he
  rcases he with rfl | rfl | rfl
  all_goals exact ⟨issues _ _, by decide +kernel, .scaledA64 _ _ (scaled64_plain _ _ _ (by decide +kernel)
    (by decide +kernel)) (by decide +kernel), by decide +kernel, by decide +kernel, .inr (.inr (.inr (by decide +kernel))),
    by decide +kernel, reads_at _ _ (at_a64 _ _), channel_stores _ _ _ _ _ _ (at_a64 _ _)⟩

/-- The hypotheses of the A64 scattered messages but for how the addresses are found. -/
def ElementsMeet (m : Msg) (z : ElementSize) (nc : Bool) (addr : Nat → Nat) (k : Nat) : Prop :=
  let mode := simd2 (m.bits 12 1)
  let n := 2 ^ m.bits 10 2
  elementSize (m.bits 8 2) = .ok z ∧ ElementsLegal z mode n ∧ k + elementRegs z mode n ≤ m.body.length ∧
  (∃ v : Nat → Nat → Nat, ∀ i ∈ plainActive m mode, ∀ e, e < n →
    readAt running (a64Locator nc addr) i (e * z.bytes) z.bytes = .ok (v i e)) ∧
  ∃ s1, Stores running ((slotSequence running (n * z.bytes) (plainActive m mode) ((plainActive m mode).map addr)).flatMap
    fun i => (List.range n).map fun e =>
      ((a64Locator nc addr i (e * z.bytes) z.bytes).1, (a64Locator nc addr i (e * z.bytes) z.bytes).2, z.bytes,
        ((m.reg (elementPlace z mode k e i).1).extractLsb' (elementPlace z mode k e i).2 (8 * z.bytes)).toNat)) s1

theorem elements_meet (m : Msg) (z : ElementSize) (nc : Bool) (addr : Nat → Nat) (k : Nat) (hz : elementSize (m.bits 8 2) = .ok z)
    (hl : ElementsLegal z (simd2 (m.bits 12 1)) (2 ^ m.bits 10 2))
    (hk : k + elementRegs z (simd2 (m.bits 12 1)) (2 ^ m.bits 10 2) ≤ m.body.length) : ElementsMeet m z nc addr k :=
  ⟨hz, hl, hk, values2 fun _ _ => read_bounded _ (bounded_a64 _ _ _ (bounded_element z)) _ _,
    stores_flatMap _ _ fun _ => in_map _ fun _ => bounded_a64 _ _ _ (bounded_element z)⟩

/-- Four bytes, eight DWords and four QWords of 8 slots: the largest counts of R170 in this mode. The port's own 64-bit
addresses, coherent and not, and those of data port 2. -/
theorem witness_ScatteredMessagesComplete_a64 : ∀ e ∈ [(0, 2, ElementSize.byte), (1, 3, .dword), (2, 2, .qword)],
    let addr (m : Msg) := fun i => (m.qw (simd2 (m.bits 12 1)) 0 i).toNat
    (∀ x ∈ [(0xFF, false), (0xFD, true)], let m := sendMsg .dp1 (descOf 15 8 false (e.1 * 2 ^ 8 + e.2.1 * 2 ^ 10 + x.1))
      Issues (sendForm .dp1 m.desc) running m (sendBase m.desc) ∧
      ElementForm m e.2.2 .mt1rA64Sb .mt1wA64Sb x.2 (addr m) (simd2 (m.bits 12 1)).qregs ∧
      ElementsMeet m e.2.2 x.2 (addr m) (simd2 (m.bits 12 1)).qregs) ∧
    let m := sendMsg .dp2 (descOf 15 8 false (e.1 * 2 ^ 8 + e.2.1 * 2 ^ 10))
    Issues (sendForm .dp2 m.desc) running m (sendBase m.desc) ∧
    ElementForm m e.2.2 .mt2rA64Sb .mt2wA64Sb false (addr m) (simd2 (m.bits 12 1)).qregs ∧
    ElementsMeet m e.2.2 false (addr m) (simd2 (m.bits 12 1)).qregs := by
  intro e he
  simp only [List.mem_cons, List.not_mem_nil, or_false] at he
  rcases he with rfl | rfl | rfl
  all_goals
    refine ⟨fun x hx => ?_, issues _ _, .scaled _ _ (scaled64_plain _ _ _ (by decide +kernel) (by decide +kernel))
      (by decide +kernel), elements_meet _ _ _ _ _ (by decide +kernel) ⟨by decide +kernel, by decide +kernel⟩ (by decide +kernel)⟩
    simp only [List.mem_cons, List.not_mem_nil, or_false] at hx
    rcases hx with rfl | rfl
    all_goals exact ⟨issues _ _, .a64 _ (by decide +kernel) (by decide +kernel),
      elements_meet _ _ _ _ _ (by decide +kernel) ⟨by decide +kernel, by decide +kernel⟩ (by decide +kernel)⟩

/-- Aligned and unaligned blocks of eight OWords. -/
theorem witness_A64BlockMessagesComplete_oword : ∀ sub ∈ [0, 1],
    let d := descOf 6 4 false (sub * 2 ^ 11 + 4 * 2 ^ 8 + 0xFF)
    let m := sendMsg .dp1 d
    Issues (sendForm .dp1 d) running m (some 20) ∧ a64Index m = .ok false ∧ 0 = (qword m.first 0).toNat ∧
    owordCount (m.bits 8 3) = .ok (8, 0) ∧
    (m.bits 11 2 = 0 ∧ 0 % 16 = 0 ∨ m.bits 11 2 = 1 ∧ 0 % 4 = 0) ∧ (8 + 0 + 1) / 2 ≤ m.afterFirst.body.length ∧
    (∃ v : Nat → Nat, ∀ j, j < 8 → Space.read running ((a64Space false 0 (16 * 8)).block 0 (16 * 8)) (16 * j) 16 = .ok (v j)) ∧
    ∃ s1, Stores running ((List.range 8).map fun j =>
      ((a64Space false 0 (16 * 8)).block 0 (16 * 8), 16 * j, 16,
        (oword (m.afterFirst.reg ((0 + j) / 2)) ((0 + j) % 2)).toNat)) s1 := by
  intro sub he
  have hb : Bounded ((a64Space false 0 (16 * 8)).block 0 (16 * 8)) := bounded_block (bounded_a64 _ _ _ (by decide))
  simp only [List.mem_cons, List.not_mem_nil, or_false] at he
  rcases he with rfl | rfl
  all_goals exact ⟨issues _ _, by decide +kernel, by decide +kernel, by decide +kernel, by decide +kernel, by decide +kernel,
    values fun _ => read_bounded _ hb _ _, by generalize sendMsg _ _ = m; exact stores_map _ fun _ => hb⟩

/-- Dual blocks of one and of four OWords. -/
theorem witness_A64BlockMessagesComplete_dual : ∀ e ∈ [(1, 1), (3, 4)],
    let d := descOf 6 4 false (2 * 2 ^ 11 + e.1 * 2 ^ 8 + 0xFF)
    let m := sendMsg .dp1 d
    Issues (sendForm .dp1 d) running m (some 20) ∧ a64Index m = .ok false ∧ m.bits 11 2 = 2 ∧
    a64DualCount (m.bits 8 3) = .ok e.2 ∧ (∀ i ∈ plainActive m .s4x2, (qword m.first i).toNat % 16 = 0) ∧
    e.2 ≤ m.afterFirst.body.length ∧
    (∃ v : Nat → Nat → Nat, ∀ i ∈ plainActive m .s4x2, ∀ k, k < e.2 →
      Space.read running (a64Space false (qword m.first i).toNat (16 * e.2)) (16 * k) 16 = .ok (v i k)) ∧
    ∃ s1, Stores running ((slotSequence running (16 * e.2) (plainActive m .s4x2)
        ((plainActive m .s4x2).map fun i => (qword m.first i).toNat)).flatMap fun i => (List.range e.2).map fun k =>
      (a64Space false (qword m.first i).toNat (16 * e.2), 16 * k, 16, (oword (m.afterFirst.reg k) i).toNat)) s1 := by
  intro e he
  simp only [List.mem_cons, List.not_mem_nil, or_false] at he
  rcases he with rfl | rfl
  all_goals exact ⟨issues _ _, by decide +kernel, by decide +kernel, by decide +kernel, by decide +kernel, by decide +kernel,
    values2 fun _ _ => read_bounded _ (bounded_a64 _ _ _ (by decide)) _ _,
    by generalize sendMsg _ _ = m; exact stores_flatMap _ _ fun _ => in_map _ fun _ => bounded_a64 _ _ _ (by decide)⟩

/-- Blocks of one and of eight HWords. -/
theorem witness_A64BlockMessagesComplete_hword : ∀ e ∈ [(1, 1), (4, 8)],
    let d := descOf 10 8 false (3 * 2 ^ 11 + e.1 * 2 ^ 8 + 0xFF)
    let m := sendMsg .dp1 d
    Issues (sendForm .dp1 d) running m (some 20) ∧ a64Index m = .ok false ∧ 0 = (qword m.first 0).toNat ∧ m.bits 11 2 = 3 ∧
    a64HwordCount (m.bits 8 3) = .ok e.2 ∧ 0 % 32 = 0 ∧ false = (dword m.first 5).getLsbD 31 ∧
    e.2 ≤ m.afterFirst.body.length ∧
    (∃ v : Nat → Nat → Nat, ∀ j, j < e.2 → ∀ k ∈ hwordDwords m false j,
      Space.read running ((a64Space false 0 (32 * e.2)).block 0 (32 * e.2)) (32 * j + 4 * k) 4 = .ok (v j k)) ∧
    ∃ s1, Stores running ((List.range e.2).flatMap fun j => (hwordDwords m.afterFirst false j).map fun k =>
      ((a64Space false 0 (32 * e.2)).block 0 (32 * e.2), 32 * j + 4 * k, 4, (dword (m.afterFirst.reg j) k).toNat)) s1 := by
  intro e he
  simp only [List.mem_cons, List.not_mem_nil, or_false] at he
  rcases he with rfl | rfl
  all_goals exact ⟨issues _ _, by decide +kernel, by decide +kernel, by decide +kernel, by decide +kernel, by decide +kernel,
    by decide +kernel, by decide +kernel,
    values2 fun _ _ => read_bounded _ (bounded_block (bounded_a64 _ _ _ (by decide))) _ _,
    by generalize sendMsg _ _ = m; exact stores_flatMap _ _ fun _ => in_map _ fun _ => bounded_block (bounded_a64 _ _ _ (by decide))⟩

/-- An operation without sources that returns (`AOP_PREDEC`), and one with two on two DWords (`CMPWR_2W`), of one slot. -/
theorem witness_UntypedAndA64AtomicsComplete_untyped : ∀ e ∈ [(15, 0), (0, 2)],
    let d := descOf 8 1 false (1 * 2 ^ 13 + 1 * 2 ^ 12 + e.1 * 2 ^ 8 + 0xFF)
    let m := sendMsg .dp1 d
    (Instr.mt1aUi, intOp, reversedMode) ∈ untypedAtomics ∧ Issues (sendForm .dp1 d) running m (some 20) ∧
    untypedSpace running m = .ok (general, none) ∧ (intOp m).sources = .ok e.2 ∧
    untypedAddressRegs (reversedMode m) none + (untypedLayout (intOp m)).sourceRegs (reversedMode m) e.2 ≤ m.body.length ∧
    (∀ i ∈ untypedActive m (reversedMode m),
      untypedOffset m (reversedMode m) none i % (untypedLayout (intOp m)).bytes = 0) ∧
    ∃ s1 vals, Performs m (intOp m) e.2 (untypedLayout (intOp m)) (reversedMode m)
      (untypedAddressRegs (reversedMode m) none) (offsetLocator general (untypedOffset m (reversedMode m) none)) running
      (slotSequence running (untypedLayout (intOp m)).bytes (untypedActive m (reversedMode m))
        ((untypedActive m (reversedMode m)).map (untypedOffset m (reversedMode m) none))) s1 vals := by
  intro e he
  simp only [List.mem_cons, List.not_mem_nil, or_false] at he
  rcases he with rfl | rfl
  all_goals exact ⟨by simp [untypedAtomics], issues _ _, by decide +kernel, by decide +kernel, by decide +kernel,
    by decide +kernel, performs_bounded _ _ _ _ _ _ _ (fun _ => bounded_general) _ _ rfl⟩

theorem layout_bytes (l : AtomLayout) : l.bytes ≤ 256 := by cases l <;> decide

/-- `CMPWR_2W` on 16 bytes, and the float compare and write. -/
theorem witness_UntypedAndA64AtomicsComplete_a64 :
    ∀ e ∈ [(Instr.mt1aA64Ui, intOp, Simd.s8, wideData, 1 * 2 ^ 12 + 0 * 2 ^ 8),
           (Instr.mt1aA64Uf4x2, floatOp, .s4x2, narrowData, 3 * 2 ^ 8)],
    let d := descOf 15 1 false (1 * 2 ^ 13 + e.2.2.2.2 + 0xFF)
    let m := sendMsg .dp1 d
    let l := a64Layout (e.2.2.2.1 m) (e.2.1 m)
    (e.1, e.2.1, e.2.2.1, e.2.2.2.1) ∈ a64Atomics ∧ Issues (sendForm .dp1 d) running m (some 20) ∧ a64Index m = .ok false ∧
    (e.2.1 m).sources = .ok 2 ∧ e.2.2.1.qregs + l.sourceRegs e.2.2.1 2 ≤ m.body.length ∧
    (∀ i ∈ plainActive m e.2.2.1, (m.qw e.2.2.1 0 i).toNat % l.bytes = 0) ∧
    ∃ s1 vals, Performs m (e.2.1 m) 2 l e.2.2.1 e.2.2.1.qregs (a64Locator false fun i => (m.qw e.2.2.1 0 i).toNat) running
      (slotSequence running l.bytes (plainActive m e.2.2.1)
        ((plainActive m e.2.2.1).map fun i => (m.qw e.2.2.1 0 i).toNat)) s1 vals := by
  intro e he
  simp only [List.mem_cons, List.not_mem_nil, or_false] at he
  rcases he with rfl | rfl
  all_goals exact ⟨by simp [a64Atomics], issues _ _, by decide +kernel, by decide +kernel, by decide +kernel,
    by decide +kernel, performs_bounded _ _ _ _ _ _ _ (fun _ => bounded_a64 _ _ _ (layout_bytes _)) _ _ rfl⟩

/-! Typed, media and render target messages: binding table entry 0 is the null surface, 1 a linear 2D surface, 2 a
one-dimensional one, 3 a Y tiled one. -/

def nullFor (k : SurfaceUse) : Surface := surfaceFields k (memDword running.mem 0x2000)

def nullSurface : Surface := nullFor .typed

def linearFor (k : SurfaceUse) : Surface := surfaceFields k (memDword running.mem 0x3000)

def linear : Surface := linearFor .media

def line : Surface := surfaceFields .typed (memDword running.mem 0x4000)

def tiles : Surface := surfaceFields .typed (memDword running.mem 0x5000)

/-- A binding table index that leads to a surface state. -/
theorem target_of {s : State} {k : SurfaceUse} {a : Nat} {u : Surface} (m : Msg) (hr : readSurfaceFor s k a = .ok u)
    (hb : decide (m.bits 0 8 < 0xF0) = true) (ha : surfaceStateAddress s m = .ok a) :
    surfaceTarget s m k = .ok u ∧ resolveTarget s m k .surface = .ok (.surface u) := by
  have h : resolveTarget s m k .surface = .ok (.surface u) := by
    simp only [resolveTarget, hb, ha, Bool.true_or, if_true, Exec.ok_bind, hr, Exec.pure_eq]
  exact ⟨by simp only [surfaceTarget, h, Exec.ok_bind, Exec.pure_eq], h⟩

theorem reads_null (k : SurfaceUse) : readSurfaceFor running k 0x2000 = .ok (nullFor k) := by
  cases k <;> rfl

/-- The fields whose place depends on whether the format is planar are zero either way. -/
theorem aux_zero {u : Surface} {d6 d10 d11 : DWord} (k : SurfaceUse) (h : u.auxMode = 0) (h6 : d6 = 0#32)
    (h10 : d10 = 0#32) (h11 : d11 = 0#32) (hr : u.resourceMode = 0) (hc : u.clear.all (· == 0#32) = true)
    (hu : u.uOffset.2 = 0) : auxOk d6 u k = true ∧ auxBaseOk d10 d11 u k = true ∧ clearOk u k = true := by
  subst h6 h10 h11
  refine ⟨?_, ?_, ?_⟩
  · cases hk : k.readsFormat <;> cases hp : u.planar <;>
      simp [auxOk, hk, hp, h, hu, hr, Surface.colourControlOk, Surface.colourControl]
  · cases hp : u.planar <;> simp [auxBaseOk, hp]
  · have : clearOk u k = (!k.readsFormat || u.clear.all (· == 0#32)) := by simp [clearOk, h]
    rw [this, hc, Bool.or_true]

/-- A surface state that is accepted, and admits the access. -/
theorem read_ok {a : Nat} {k : SurfaceUse} {u : Surface} (hp : parseSurface k (memDword running.mem a) = .ok u)
    (hk : u.admits k = .ok ()) (ha : a + 64 ≤ addressLimit) : readSurfaceFor running k a = .ok u := by
  have hc : running.checkAccess a 64 = .ok () := access_ok rfl ha
  have hs : running.settled a 64 = .ok () := rfl
  simp only [readSurfaceFor, State.checkStructure, hc, hs, hp, hk, Exec.ok_bind, Exec.pure_eq]

/-- A surface state of zeros but for its type, tiles, width and pitch, whatever kind of format 0 is. -/
theorem parse_zeros {a : Nat} {k : SurfaceUse} {u : Surface} (hu : u = surfaceFields k (memDword running.mem a))
    (ho : ∀ i ∈ ([6, 10, 11, 12, 13, 14, 15] : List Nat), memDword running.mem a i = 0#32) :
    u.auxMode = 0 ∧ u.uOffset.2 = 0 ∧ u.clear.all (· == 0#32) = true := by
  subst hu
  have hz (i : Nat) (hi : i ∈ ([6, 10, 11, 12, 13, 14, 15] : List Nat)) : seenDword k (memDword running.mem a) i = 0#32 := by
    rw [seenDword, ho i hi]; simp
  refine ⟨?_, ?_, ?_⟩
  · simp only [surfaceFields, hz 6 (by simp)]; split <;> rfl
  · simp only [surfaceFields, hz 6 (by simp)]; split <;> rfl
  · simp only [surfaceFields, hz 12 (by simp), hz 13 (by simp), hz 14 (by simp), hz 15 (by simp)]; rfl

/-- Where format 0 is one that no restriction names. -/
theorem parse_line (hf : Config.formatKind 0#10 = .other) : parseSurface .typed (memDword running.mem 0x4000) = .ok line := by
  have hz := parse_zeros (u := line) rfl (by decide +kernel)
  have h := aux_zero (u := line) (d6 := memDword running.mem 0x4000 6) (d10 := memDword running.mem 0x4000 10)
    (d11 := memDword running.mem 0x4000 11) .typed hz.1 (by decide +kernel) (by decide +kernel) (by decide +kernel)
    (by decide +kernel) hz.2.2 hz.2.1
  have hk : line.kind = .other := hf
  have hp : line.planar = false := by simp [Surface.planar, hk, isPlanar]
  have h1 : line.formatOk = true := by
    have hc : line.blocky = false := by simp [Surface.blocky, hk]
    have hb : line.isBuffer = false ∧ (line.samplesLog == 0) = true := by decide +kernel
    simp [Surface.formatOk, hp, hc, hb.1, hb.2]
  have h2 : line.sizeOk = true := by
    have hb : (line.boundary == 0) = true ∧ (line.ty != surfBuffer) = true := by decide +kernel
    simp [Surface.sizeOk, hp, hk, hb.1, hb.2]
  unfold parseSurface
  simp only [show (surfaceFields .typed (memDword running.mem 0x4000)).ty ≠ surfNull by decide +kernel, if_false,
    Exec.bind_eq_ok, require_eq_ok, Exec.pure_eq, exists_const]
  repeat' apply And.intro
  all_goals first | exact h1 | exact h2 | decide +kernel | exact h.1 | exact h.2.1 | exact h.2.2 | rfl

theorem parse_tiles : parseSurface .typed (memDword running.mem 0x5000) = .ok tiles := by
  have hz := parse_zeros (u := tiles) rfl (by decide +kernel)
  have h := aux_zero (u := tiles) (d6 := memDword running.mem 0x5000 6) (d10 := memDword running.mem 0x5000 10)
    (d11 := memDword running.mem 0x5000 11) .typed hz.1 (by decide +kernel) (by decide +kernel) (by decide +kernel)
    (by decide +kernel) hz.2.2 hz.2.1
  unfold parseSurface
  simp only [show (surfaceFields .typed (memDword running.mem 0x5000)).ty ≠ surfNull by decide +kernel, if_false,
    Exec.bind_eq_ok, require_eq_ok, Exec.pure_eq, exists_const]
  repeat' apply And.intro
  all_goals first | decide +kernel | exact h.1 | exact h.2.1 | exact h.2.2 | rfl

/-- The linear surface as a media message or one that asks for its fields takes it. -/
theorem parse_linear (k : SurfaceUse) (hk : k = .media ∨ k = .info) :
    parseSurface k (memDword running.mem 0x3000) = .ok (linearFor k) := by
  have hz := parse_zeros (k := k) (u := linearFor k) rfl (by decide +kernel)
  have h := aux_zero (u := linearFor k) (d6 := memDword running.mem 0x3000 6) (d10 := memDword running.mem 0x3000 10)
    (d11 := memDword running.mem 0x3000 11) k hz.1 (by decide +kernel) (by decide +kernel) (by decide +kernel)
    (by rcases hk with rfl | rfl <;> decide +kernel) hz.2.2 hz.2.1
  have ht : (surfaceFields k (memDword running.mem 0x3000)).ty ≠ surfNull := by rcases hk with rfl | rfl <;> decide +kernel
  unfold parseSurface
  simp only [ht, if_false, Exec.bind_eq_ok, require_eq_ok, Exec.pure_eq, exists_const]
  repeat' apply And.intro
  all_goals first | exact h.1 | exact h.2.1 | exact h.2.2 | rfl | (rcases hk with rfl | rfl <;> decide +kernel)

theorem reads_line (hf : Config.formatKind 0#10 = .other) : readSurfaceFor running .typed 0x4000 = .ok line := by
  refine read_ok (parse_line hf) ?_ (by decide)
  have hb : line.base = 0 ∧ line.ty = surf1D ∧ line.ty ≠ surfNull ∧ line.renderCacheMode = false ∧
    (line.viewExtent == line.depth) = true ∧ line.rowOk false = true ∧ line.compressed = false := by decide +kernel
  obtain ⟨h1, h2, h3, h4, h5, h6, h7⟩ := hb
  simp only [Surface.admits, h3, if_false, Exec.bind_eq_ok, require_eq_ok]
  simp [h1, h2, h4, h5, show (SurfaceUse.typed == SurfaceUse.render) = false from rfl, h6, h7]

theorem reads_tiles : readSurfaceFor running .typed 0x5000 = .ok tiles := by
  refine read_ok parse_tiles ?_ (by decide)
  have hb : tiles.tile ≠ 0 ∧ tiles.ty ≠ surfNull ∧ tiles.renderCacheMode = false ∧
    (tiles.viewExtent == tiles.depth) = true ∧ tiles.rowOk false = true ∧ tiles.compressed = false := by decide +kernel
  obtain ⟨h1, h3, h4, h5, h6, h7⟩ := hb
  simp only [Surface.admits, h3, if_false, Exec.bind_eq_ok, require_eq_ok]
  simp [h1, h4, h5, show (SurfaceUse.typed == SurfaceUse.render) = false from rfl, h6, h7]

theorem reads_linear : readSurfaceFor running .media 0x3000 = .ok linear := by
  refine read_ok (parse_linear _ (.inl rfl)) ?_ (by decide)
  change linear.admits .media = .ok ()
  have hb : linear.ty ≠ surfNull ∧ linear.renderCacheMode = false ∧ linear.mip = 0 ∧ linear.rowOk false = true ∧
    linear.samplesLog = 0 ∧ linear.ty = surf2D := by decide +kernel
  obtain ⟨h3, h4, h5, h6, h7, h8⟩ := hb
  simp only [Surface.admits, h3, if_false, Exec.bind_eq_ok, require_eq_ok]
  simp [h4, h5, h7, h8, show (SurfaceUse.media == SurfaceUse.render) = false from rfl, h6, surf2D, surfCube]

theorem reads_linear_info : readSurfaceFor running .info 0x3000 = .ok (linearFor .info) :=
  read_ok (parse_linear _ (.inr rfl)) (by decide +kernel) (by decide)

theorem reads_setReg (s : State) (r : Nat) (v : HWord) (k : SurfaceUse) (a : Nat) :
    readSurfaceFor { s with eu := s.eu.setReg r v } k a = readSurfaceFor s k a := rfl

theorem null_ty : nullSurface.ty = surfNull := by decide +kernel

/-- The one element of the one-dimensional surface is at address 0. -/
theorem line_element {x y r lod k : Nat} (h : line.contains x y r lod k = true) : line.address x y r lod k = 0 := by
  have hb : line.isBuffer = false := by decide +kernel
  have ht : line.ty = surf1D := by decide +kernel
  have hm : line.mip = 0 ∧ line.samplesLog = 0 ∧ line.width = 0 ∧ line.depth = 0 ∧ line.minLod = 0 ∧ line.tile = 0 ∧
    line.resourceMode = 0 ∧ line.base = 0 ∧ line.minArray = 0 := by decide +kernel
  obtain ⟨h1, h2, h3, h4, h5, h6, h7, h8, h9⟩ := hm
  simp only [Surface.contains, hb, ht, h1, h2, h3, h4, h5, Surface.samples, mipExtent, Bool.false_eq_true, if_false,
    if_true, Bool.and_eq_true, decide_eq_true_eq, Nat.pow_zero, Nat.le_zero_eq, Nat.add_zero] at h
  obtain ⟨⟨⟨hl, hk⟩, hx⟩, hy⟩ := h
  subst hl
  obtain rfl : k = 0 := by omega
  obtain rfl : x = 0 := by simpa using hx
  subst hy
  simp [Surface.address, hb, ht, h5, h6, h7, h8, h9]

theorem line_read (s : State) (hw : Wide s) (x y r lod k : Nat) : ∃ t, line.readTexel s x y r lod k = .ok t := by
  simp only [Surface.readTexel]
  split
  · rename_i h
    rw [line_element h.2, access_ok hw (Nat.le_trans (by omega) (show 16 ≤ addressLimit by decide))]; exact ⟨_, rfl⟩
  · exact ⟨_, rfl⟩

theorem line_write (s : State) (hw : Wide s) (x y r lod k : Nat) (v : BitVec 128) :
    ∃ t, line.writeTexel s x y r lod k v = .ok t ∧ Wide t := by
  simp only [Surface.writeTexel]
  split
  · rename_i h
    rw [line_element h.2, access_ok hw (Nat.le_trans (by omega) (show 16 ≤ addressLimit by decide))]; exact ⟨_, rfl, hw⟩
  · exact ⟨_, rfl, hw⟩

theorem stores_texels (m : Msg) (mode : Simd) (mask : Nat) (slots : List Nat) :
    ∀ s, Wide s → ∃ s1, StoresTexels m line mode mask s slots s1 := by
  induction slots with
  | nil => exact fun s _ => ⟨s, rfl⟩
  | cons i rest ih =>
    intro s hw
    obtain ⟨old, ho⟩ := line_read s hw (typedAt m line mode i).x (typedAt m line mode i).y (typedAt m line mode i).r
      (typedAt m line mode i).lod (typedAt m line mode i).sample
    obtain ⟨t, ht, hw⟩ := line_write s hw (typedAt m line mode i).x (typedAt m line mode i).y (typedAt m line mode i).r
      (typedAt m line mode i).lod (typedAt m line mode i).sample (typedTexel m line mode mask i old)
    obtain ⟨s1, h1⟩ := ih t hw
    exact ⟨s1, old, t, ho, ht, h1⟩

/-- A typed atomic and a counter message on the null surface, an increment of one slot. -/
theorem witness_TypedAtomicsComplete :
    ∀ mode ∈ [Simd.s8, .s4x2], let d := descOf 6 1 false (1 * 2 ^ 13 + 5 * 2 ^ 8)
    let m := sendMsg .dp1 d
    Issues (sendForm .dp1 d) running m (some 20) ∧ surfaceTarget running m .typed = .ok nullSurface ∧
    (intOp m).sources = .ok 0 ∧ typedRegs nullSurface mode + (untypedLayout (intOp m)).sourceRegs mode 0 ≤ m.body.length ∧
    LodsLegal m nullSurface mode (typedActive m mode (atomicGroup m mode)) ∧
    (∃ s1 vals, Performs m (intOp m) 0 (untypedLayout (intOp m)) mode (typedRegs nullSurface mode)
      (typedLocator m nullSurface mode) running
      (slotSequence running (untypedLayout (intOp m)).bytes (typedActive m mode (atomicGroup m mode))
        ((typedActive m mode (atomicGroup m mode)).map (typedAddress m nullSurface mode))) s1 vals) ∧
    ∃ s1 vals, Performs m (intOp m) 0 (untypedLayout (intOp m)) mode 0
      (fun _ d _ => (if nullSurface.ty = surfNull then .zero else .memory (Machine.counterAddress nullSurface) 8 nullSurface.coherency, d))
      running (slotSequence running (untypedLayout (intOp m)).bytes (typedActive m mode (atomicGroup m mode))
        ((typedActive m mode (atomicGroup m mode)).map fun _ => Machine.counterAddress nullSurface)) s1 vals := by
  intro mode he
  simp only [List.mem_cons, List.not_mem_nil, or_false] at he
  rcases he with rfl | rfl
  all_goals exact ⟨issues _ _, (target_of _ (reads_null _) (by decide +kernel) (by decide +kernel)).1, by decide +kernel,
    by decide +kernel, by unfold LodsLegal; decide +kernel,
    performs_bounded _ _ _ _ _ _ _ (fun _ => by simp [typedLocator, Surface.holds, null_ty, Bounded]) _ _ rfl,
    performs_bounded _ _ _ _ _ _ _ (fun _ => by simp [null_ty, Bounded]) _ _ rfl⟩

/-- A slot one column past the last of the Y tiled surface: it reads zeros, and its write is dropped. -/
theorem witness_TypedSurfaceMessagesComplete :
    let s := { running with eu := running.eu.setReg 10 32#256 }
    let d := descOf 8 4 false (1 * 2 ^ 12 + 3)
    let m := { sendMsg .dp1 d with payload := 32#256 :: List.replicate 7 0#256 }
    Issues (sendForm .dp1 d) s m (some 20) ∧ slotGroup3 m = .ok (.s8, 0) ∧
    surfaceTarget s m .typed = .ok tiles ∧ m.bits 8 4 ≠ 15 ∧
    typedRegs tiles .s8 + channelRegs .s8 (typedChannels tiles .s8 (m.bits 8 4)).length ≤ m.body.length ∧
    LodsLegal m tiles .s8 (typedActive m .s8 0) ∧ typedActive m .s8 0 = [0] ∧ typedAt m tiles .s8 0 = ⟨32, 0, 0, 0, 0⟩ ∧
    tiles.width = 31 ∧ slotSequence s 16 [0] [typedAddress m tiles .s8 0] = [0] ∧
    tiles.readTexel s 32 0 0 0 0 = .ok 0#128 ∧
    StoresTexels m tiles .s8 (m.bits 8 4) s [0] s :=
  ⟨⟨.inl rfl, ⟨0, rfl, rfl, by decide +kernel⟩, .inl rfl, rfl, by decide +kernel, by decide +kernel, by decide +kernel, rfl,
      by decide +kernel, by decide +kernel, rfl, by decide +kernel, by decide +kernel⟩, by decide +kernel,
    (target_of _ ((reads_setReg running ..).trans reads_tiles) (by decide +kernel) (by decide +kernel)).1, by decide +kernel,
    by decide +kernel, by unfold LodsLegal; decide +kernel, by decide +kernel, by decide +kernel, by decide +kernel,
    by simp [slotSequence, apart], rfl, ⟨0#128, _, rfl, rfl, rfl⟩⟩

/-- A read and a write of one slot at the surface's element, all channels, where format 0 is one that no restriction names. -/
theorem witness_TypedSurfaceMessagesComplete_inside (hf : Config.formatKind 0#10 = .other) :
    let d := descOf 8 4 false (1 * 2 ^ 12 + 2)
    let m := sendMsg .dp1 d
    Issues (sendForm .dp1 d) running m (some 20) ∧ slotGroup3 m = .ok (.s8, 0) ∧
    surfaceTarget running m .typed = .ok line ∧ m.bits 8 4 ≠ 15 ∧
    typedRegs line .s8 + channelRegs .s8 (typedChannels line .s8 (m.bits 8 4)).length ≤ m.body.length ∧
    LodsLegal m line .s8 (typedActive m .s8 0) ∧ typedActive m .s8 0 = [0] ∧ typedAt m line .s8 0 = ⟨0, 0, 0, 0, 0⟩ ∧
    (∃ texel : Nat → BitVec 128, ∀ i ∈ typedActive m .s8 0,
      line.readTexel running (typedAt m line .s8 i).x (typedAt m line .s8 i).y (typedAt m line .s8 i).r
        (typedAt m line .s8 i).lod (typedAt m line .s8 i).sample = .ok (texel i)) ∧
    ∃ s1, StoresTexels m line .s8 (m.bits 8 4) running
      (slotSequence running 16 (typedActive m .s8 0) ((typedActive m .s8 0).map (typedAddress m line .s8))) s1 :=
  ⟨issues _ _, by decide +kernel, (target_of _ (reads_line hf) (by decide +kernel) (by decide +kernel)).1, by decide +kernel,
    by decide +kernel, by unfold LodsLegal; decide +kernel, by decide +kernel, by decide +kernel,
    ⟨fun i => (line_read running rfl _ _ _ _ _).choose, fun i _ => (line_read running rfl _ _ _ _ _).choose_spec⟩,
    stores_texels _ _ _ _ _ rfl⟩

/-- The null surface: nothing is stored. -/
theorem witness_TypedSurfaceMessagesComplete_null :
    let d := descOf 8 0 false (1 * 2 ^ 12)
    let m := sendMsg .dp1 d
    Issues (sendForm .dp1 d) running m none ∧ slotGroup3 m = .ok (.s8, 0) ∧
    surfaceTarget running m .typed = .ok nullSurface ∧ m.bits 8 4 ≠ 15 ∧
    typedRegs nullSurface .s8 + channelRegs .s8 (typedChannels nullSurface .s8 (m.bits 8 4)).length ≤ m.body.length ∧
    LodsLegal m nullSurface .s8 (typedActive m .s8 0) ∧ nullSurface.ty = surfNull :=
  ⟨issues _ _, by decide +kernel, (target_of _ (reads_null _) (by decide +kernel) (by decide +kernel)).1, by decide +kernel,
    by decide +kernel, by unfold LodsLegal; decide +kernel, null_ty⟩

theorem witness_ReadSurfaceInfoAnswers :
    let d := descOf 1 2 false (6 * 2 ^ 14 + 1)
    let m := sendMsg .readOnly d
    Issues (sendForm .readOnly d) running m (some 20) ∧ 1 ≤ m.body.length ∧
    surfaceTarget running m .info = .ok (linearFor .info) ∧ (dword (m.reg 0) 3).extractLsb' 0 4 ≠ 15#4 :=
  ⟨issues _ _, by decide +kernel, (target_of _ reads_linear_info (by decide +kernel) (by decide +kernel)).1, by decide +kernel⟩

/-- A block of one byte, at a header of zeros; and a transpose of one DWord. -/
theorem witness_MediaBlockMessagesComplete_read :
    let d := descOf 1 1 true 1
    let m := sendMsg .dp1 d
    let c := blockControl m
    Issues (sendForm .dp1 d) running m (some 20) ∧ m.hasHeader = true ∧ surfaceTarget running m .media = .ok linear ∧
    c = ⟨0, 1, 1, 1, 0⟩ ∧ MergeLegal c ∧
    (∀ e ∈ blockCells c.w c.h, mediaByte running linear (m.bits 8 3) ((dword m.header 0).toInt + e.2)
      ((dword m.header 1).toInt + e.1) = .ok 0) ∧
    1 = 2 ^ ((dword m.header 2).extractLsb' 0 2).toNat ∧ 1 = 2 ^ ((dword m.header 2).extractLsb' 20 2).toNat ∧
    (dword m.header 0).toInt % (4 * 1) = 0 ∧ (dword m.header 1).toInt % 1 = 0 ∧
    ∀ r : Nat, r < 1 → ∀ b : Nat, b < 4 * 1 → mediaByte running linear (m.bits 8 3) ((dword m.header 0).toInt + b)
      ((dword m.header 1).toInt + r) = .ok 0 :=
  ⟨issues _ _, by decide +kernel, (target_of _ reads_linear (by decide +kernel) (by decide +kernel)).1, by decide +kernel,
    by unfold MergeLegal; decide +kernel, by decide +kernel, by decide +kernel, by decide +kernel, by decide +kernel,
    by decide +kernel, by decide +kernel⟩

theorem stores_bytes (vlso : Nat) (x y : Int) (byte : Nat → Nat → Byte) (cells : List (Nat × Nat)) :
    ∀ s, Wide s → ∃ s1, StoresBytes linear vlso x y byte s cells s1 := by
  have hm : linear.ty ≠ surfNull ∧ linear.height = 0 ∧ linear.width = 31 ∧ linear.tile = 0 ∧ linear.base = 0 ∧
    linear.pitch = 31 ∧ linear.vls = 0 ∧ linear.vlso = 0 := by decide +kernel
  obtain ⟨h1, h2, h3, h4, h5, h6, h7, h8⟩ := hm
  induction cells with
  | nil => exact fun s _ => ⟨s, rfl⟩
  | cons e rest ih =>
    intro s hw
    obtain ⟨t, ht, hw⟩ : ∃ t, mediaWrite s linear vlso (x + e.2) (y + e.1) (byte e.1 e.2) = .ok t ∧ Wide t := by
      simp only [mediaWrite]
      split
      · exact ⟨_, rfl, hw⟩
      · rename_i h
        simp only [h2, Surface.rowBytes, h3] at h
        have hl : (lineStride linear vlso).2 < 2 := by
          simp only [lineStride, h7, h8]; split <;> simp <;> omega
        rw [access_ok hw]
        · exact ⟨_, rfl, hw⟩
        · simp only [Surface.byteAddress, h4, h5, h6, if_true, addressLimit]
          split <;> omega
    obtain ⟨s1, h1⟩ := ih t hw
    exact ⟨s1, t, ht, h1⟩

/-- The header of a media block write in register 10: its DWords 2 (block control) and 3 (mask). -/
def blockState (control mask : Nat) : State :=
  { running with eu := running.eu.setReg 10 (BitVec.ofNat 256 (control * 2 ^ 64 + mask * 2 ^ 96)) }

theorem reads_block (c b : Nat) (k : SurfaceUse) (a : Nat) :
    readSurfaceFor (blockState c b) k a = readSurfaceFor running k a := reads_setReg running _ _ k a

/-- The message it sends. -/
def blockMsg (control mask : Nat) : Msg :=
  { sendMsg .dp1 (descOf 5 0 true 1) with
    payload := BitVec.ofNat 256 (control * 2 ^ 64 + mask * 2 ^ 96) :: List.replicate 4 0#256 }

/-- A plain write of 4 bytes, a pixel masked one, and a byte masked one of 32 bytes. -/
theorem witness_MediaBlockMessagesComplete_write : ∀ e ∈ [(3, 0, 4, 1), (2 ^ 30, 1, 32, 4), (2 ^ 31 + 31, 0xF, 32, 1)],
    let m := blockMsg e.1 e.2.1
    Issues (sendForm .dp1 (descOf 5 0 true 1)) (blockState e.1 e.2.1) m none ∧ m.hasHeader = true ∧
    surfaceTarget (blockState e.1 e.2.1) m .media = .ok linear ∧
    (∃ keep, MediaWriteForm m (blockControl m) e.2.2.1 e.2.2.2 keep) ∧
    ((e.2.2.2 - 1) * basePitch e.2.2.1 + e.2.2.1 + 31) / 32 ≤ m.body.length ∧
    ∀ byte cells, ∃ s1, StoresBytes linear (m.bits 8 3) (dword m.header 0).toInt (dword m.header 1).toInt byte
      (blockState e.1 e.2.1) cells s1 := by
  intro e he
  simp only [List.mem_cons, List.not_mem_nil, or_false] at he
  rcases he with rfl | rfl | rfl
  all_goals
    refine ⟨⟨.inl rfl, ⟨0, rfl, rfl, by decide +kernel⟩, .inl rfl, rfl, by decide +kernel, by decide +kernel, rfl, rfl,
      by decide +kernel, by decide +kernel, rfl, rfl, by decide +kernel⟩, by decide +kernel,
      (target_of _ ((reads_block ..).trans reads_linear) (by decide +kernel) (by decide +kernel)).1, ?_, by decide +kernel,
      fun byte cells => stores_bytes _ _ _ _ _ _ rfl⟩
  · exact ⟨_, .plain (by decide +kernel) (by decide +kernel) (by decide +kernel) (by decide +kernel)⟩
  · exact ⟨_, .pixelMasked (by decide +kernel) (by decide +kernel) (by decide +kernel) (by decide +kernel) (by decide +kernel)⟩
  · exact ⟨_, .byteMasked (by decide +kernel) (by decide +kernel) (by decide +kernel) (by decide +kernel) (by decide +kernel)⟩

/-- The null surface as a render target. -/
def nullTarget : Surface := nullFor .render

theorem renders_null (m : Msg) (r : RtMessage) (l : List (Nat × Nat)) : RendersSamples 0 nullTarget m r running l running := by
  induction l with
  | nil => rfl
  | cons e rest ih => exact ⟨running, rfl, ih⟩

theorem target_null (m : Msg) (hx : (m.ex == 0#20) = true) (hb : decide (m.bits 0 8 < 0xF0) = true)
    (ha : surfaceStateAddress running m = .ok 0x2000) : rtSurface running m = .ok nullTarget := by
  simp only [rtSurface, hx, require, if_true, Exec.ok_bind, (target_of m (reads_null .render) hb ha).2, Exec.pure_eq,
    nullTarget]

/-- Each subtype's code, with its kind. -/
def subtypes : List (Nat × RtKind) :=
  [(0, .simd16), (1, .replicated false), (2, .dual false), (3, .dual true), (4, .simd8), (7, .replicated true)]

theorem witness_RenderTargetMessagesComplete_write : ∀ e ∈ subtypes,
    let d := descOf 15 0 false (12 * 2 ^ 14 + e.1 * 2 ^ 8)
    let m := sendMsg .renderCache d
    let r : RtMessage := ⟨e.2, false, false, false, false, false, false, 0⟩
    Issues (sendForm .renderCache d) running m none ∧ Renders running m nullTarget r 0xFFFF#16 0 ∧
    RendersSamples 0 nullTarget m r running (renderSamples running m nullTarget r 0xFFFF#16) running ∧
    m.bits 14 4 = 12 := by
  intro e he
  simp only [subtypes, List.mem_cons, List.not_mem_nil, or_false] at he
  rcases he with rfl | rfl | rfl | rfl | rfl | rfl
  all_goals exact ⟨issues _ _, ⟨by decide +kernel, target_null _ (by decide +kernel) (by decide +kernel) (by decide +kernel),
    ⟨nofun, by decide +kernel⟩, fun _ => .inr (by decide +kernel), fun _ => .inr (by decide +kernel), by decide +kernel, by decide +kernel, by decide +kernel⟩,
    renders_null _ _ _, by decide +kernel⟩

theorem witness_RenderTargetMessagesComplete_write_all : renderWrites ≠ [] := by simp [renderWrites]

/-- SIMD8, no header, the null surface. -/
theorem witness_RenderTargetMessagesComplete_read :
    let d := descOf 1 4 false (13 * 2 ^ 14 + 1 * 2 ^ 8)
    let m := sendMsg .renderCache d
    Issues (sendForm .renderCache d) running m (some 20) ∧ m.rtControl.extractLsb' 11 4 = 0#4 ∧
    rtSurface running m = .ok nullTarget ∧ RenderLegal nullTarget m (m.desc.getLsbD 13) ∧
    (if m.hasHeader then 2 else 0) ≤ m.payload.length ∧ rtEnables running m (m.bits 11 1) = .ok 0xFFFF#16 ∧
    8 = (if m.desc.getLsbD 8 then 8 else 16) ∧ m.desc.getLsbD 13 = false ∧
    ∀ x y a k, nullTarget.readTexel running x y a nullTarget.mip k = .ok 0#128 :=
  ⟨issues _ _, by decide +kernel, target_null _ (by decide +kernel) (by decide +kernel) (by decide +kernel),
    ⟨by decide +kernel, by decide +kernel⟩, by decide +kernel, by decide +kernel, by decide +kernel, by decide +kernel,
    fun _ _ _ _ => rfl⟩

/-- A scratch block read and write of one register. -/
theorem witness_PortsDispatchOnTheMessageType_scratch :
    let r := sendMsg .dp0 (descOf 1 1 true (2 * 2 ^ 17))
    let w := sendMsg .dp0 (descOf 2 0 true (3 * 2 ^ 17))
    (Issues (sendForm .dp0 r.desc) running r (some 20) ∧ r.bits 17 2 = 2 ∧ r.bits 15 1 = 0 ∧ r.hasHeader = true ∧
      statelessSpace running false r.bufferBase r.scratch 0 = .ok kibi ∧
      ∃ v : Nat × Nat → Nat, ∀ e, e ∈ scratchCells r →
        Space.read running (scratchBlockOf r kibi) (32 * r.bits 0 12 + 32 * e.1 + 4 * e.2) 4 = .ok (v e)) ∧
    Issues (sendForm .dp0 w.desc) running w none ∧ w.bits 17 2 = 3 ∧ w.bits 15 1 = 0 ∧ w.hasHeader = true ∧
    statelessSpace running false w.bufferBase w.scratch 0 = .ok kibi ∧ 2 ^ w.bits 12 2 ≤ w.body.length ∧
    ∃ s1, Stores running ((scratchCells w).map fun e =>
      (scratchBlockOf w kibi, 32 * w.bits 0 12 + 32 * e.1 + 4 * e.2, 4, (dword (w.reg e.1) e.2).toNat)) s1 :=
  ⟨⟨issues _ _, by decide +kernel, by decide +kernel, by decide +kernel, by decide +kernel,
      values fun _ => read_bounded _ (bounded_block bounded_kibi) _ _⟩,
    issues _ _, by decide +kernel, by decide +kernel, by decide +kernel, by decide +kernel, by decide +kernel,
    stores_map _ fun _ => bounded_block bounded_kibi⟩

/-- The types of the other messages stated in full (the rest of their hypotheses: the witnesses of the statements of those
messages, above), and a descriptor of every type of each table. -/
theorem witness_PortsDispatchOnTheMessageType :
    ((sendMsg .dp0 (descOf 1 1 true (7 * 2 ^ 14))).bits 18 1 = 0 ∧
      (sendMsg .dp0 (descOf 1 1 true (7 * 2 ^ 14))).bits 14 4 = 7) ∧
    (∀ e ∈ modes, (sendMsg .dp1 (untypedDesc (1 * 2 ^ 14) e.1)).bits 14 5 = 1) ∧
    (∀ e ∈ modes, (sendMsg .dp2 (scaledDesc e.1)).bits 15 4 = 1) ∧
    (sendMsg .readOnly (descOf 1 2 false (6 * 2 ^ 14 + 1))).bits 14 4 = 6 ∧
    (∀ t ∈ (types0 ++ typesReadOnly ++ typesRender).map Prod.fst,
      ((descOf 1 0 false (t * 2 ^ 14)).extractLsb' 14 4).toNat = t ∧
      ((descOf 1 0 false (t * 2 ^ 14)).extractLsb' 18 1).toNat = 0) ∧
    (∀ t ∈ types1.map Prod.fst, ((descOf 1 0 false (t * 2 ^ 14)).extractLsb' 14 5).toNat = t) ∧
    ∀ t ∈ types2.map Prod.fst, ((descOf 1 0 false (t * 2 ^ 15)).extractLsb' 15 4).toNat = t := by
  decide +kernel

/-! ### Witnesses: frames -/

/-- A `mov`, and the INT DIV with both results. -/
theorem witness_ComputingInstructionsWriteOnlyTheirDestination :
    (∃ w s', computing (native (.mov (one .z .ud (.reg (reg 4 .ud))))) = some w ∧
      exec (.mov (one .z .ud (.reg (reg 4 .ud)))) running = .next s') ∧
    ∃ w s', computing (native (.compactTwo (compactTwo 1 2 0))) = some w ∧
      exec (.compactTwo (compactTwo 1 2 0)) running = .next s' :=
  ⟨⟨_, _, rfl, rfl⟩, ⟨_, _, rfl, rfl⟩⟩

theorem witness_ControlTransfersMoveOnlyPointers :
    (transfers (.nop false) = true ∧ ∃ s', exec (.nop false) running = .next s') ∧
    (transfers (.wait (waitOn 0)) = true ∧ ∃ s', exec (.wait (waitOn 0)) running = .next s') ∧
    transfers .illegal = true ∧ ∃ s', exec .illegal running = .next s' :=
  ⟨⟨rfl, nop_runs _ (by decide +kernel)⟩, ⟨rfl, _, rfl⟩, rfl, _, rfl⟩

/-- An outcome with a next state. -/
def answers (o : Host.Outcome State Fault Refusal) : Bool :=
  match o with
  | .next _ => true
  | _ => false

theorem next_of_answers {o : Host.Outcome State Fault Refusal} (h : answers o = true) : ∃ s, o = .next s := by
  cases o with
  | next s => exact ⟨s, rfl⟩
  | fault _ => cases h
  | refused _ => cases h

theorem witness_MessagesChangeOnlyWhatTheySend :
    let f := sendForm .dp0 (descOf 1 1 true (0 * 2 ^ 8 + 0xFF))
    Instr.mt0rB ∈ storesNothing ∧ (Instr.mt0rB f).shape = .send f ∧ sendEot f = false ∧
    ∃ s', exec (.mt0rB f) running = .next s' :=
  ⟨by simp [storesNothing], rfl, rfl, next_of_answers (by decide +kernel)⟩

/-- A block, scattered DWords, an untyped write, an A64 atomic and a render target write. -/
theorem witness_StoresChangeOnlyTheirElements_block :
    let d := descOf 5 0 true (4 * 2 ^ 8 + 0xFF)
    (∃ es, StoreForm running (sendMsg .dp0 d) .mt0wB es) ∧ Issues (sendForm .dp0 d) running (sendMsg .dp0 d) none ∧
    (∃ s', exec (.mt0wB (sendForm .dp0 d)) running = .next s') ∧ sendEot (sendForm .dp0 d) = false :=
  ⟨⟨_, .block 8 0 kibi (by decide +kernel) (by decide +kernel)⟩, issues _ _, next_of_answers (by decide +kernel), rfl⟩

theorem witness_StoresChangeOnlyTheirElements_scattered :
    let d := descOf 4 0 false (2 * 2 ^ 10 + 0xFF)
    let m := sendMsg .dp0 d
    (∃ es, StoreForm running m .mt0wDws es) ∧ (∃ es, StoreForm running m .mt0wBs es) ∧
    Issues (sendForm .dp0 d) running m none ∧ (∃ s', exec (.mt0wDws (sendForm .dp0 d)) running = .next s') ∧
    ∃ s', exec (.mt0wBs (sendForm .dp0 d)) running = .next s' :=
  ⟨⟨_, .dwords general (by decide +kernel)⟩, ⟨_, .bytes 4 general (by decide +kernel) (by decide +kernel)⟩, issues _ _,
    next_of_answers (by decide +kernel), next_of_answers (by decide +kernel)⟩

theorem witness_StoresChangeOnlyTheirElements_untyped :
    let d := untypedDesc (9 * 2 ^ 14) 2
    let m := sendMsg .dp1 d
    (∃ es, StoreForm running m .mt1wUs es) ∧ Issues (sendForm .dp1 d) running m (some 20) ∧
    (∃ s', exec (.mt1wUs (sendForm .dp1 d)) running = .next s') ∧
    (∃ es, StoreForm running m .mt1aA64Ui4x2 es) ∧ Issues (sendForm .dp1 d) running m (some 20) ∧
    ∃ s', exec (.mt1aA64Ui4x2 (sendForm .dp1 d)) running = .next s' :=
  ⟨⟨_, .untyped .s8 _ _ _ _ _ _ (by decide +kernel) (.a32 general none (by decide +kernel) (by decide +kernel))⟩, issues _ _,
    next_of_answers (by decide +kernel), ⟨_, .a64Atomic _ intOp .s4x2 wideData false (by simp [a64Atomics])
      (by decide +kernel)⟩, issues _ _,
    next_of_answers (by decide +kernel)⟩

/-- A block write of 4 bytes, to the null surface. -/
theorem witness_StoresChangeOnlyTheirElements_media :
    let d := descOf 5 0 true 0
    let m := { blockMsg 3 0 with desc := d }
    (∃ es, StoreForm (blockState 3 0) m .mt1wMb es) ∧ Issues (sendForm .dp1 d) (blockState 3 0) m none ∧
    ∃ s', exec (.mt1wMb (sendForm .dp1 d)) (blockState 3 0) = .next s' :=
  ⟨⟨_, .media (nullFor .media) _ 4 1 (target_of _ ((reads_block ..).trans (reads_null _)) (by decide +kernel)
      (by decide +kernel)).1 rfl (.inr (by decide +kernel))⟩,
    ⟨.inl rfl, ⟨0, rfl, rfl, by decide +kernel⟩, .inl rfl, rfl, by decide +kernel, by decide +kernel, by decide +kernel, rfl,
      by decide +kernel, by decide +kernel, rfl, rfl, by decide +kernel⟩, next_of_answers (by decide +kernel)⟩

/-- The other storing messages, each answered. -/
theorem witness_StoresChangeOnlyTheirElements_more :
    let stored (sfid : Sfid) (d : BitVec 31) (mk : SendForm → Instr) : Prop :=
      Issues (sendForm sfid d) running (sendMsg sfid d) (sendBase d) ∧ (∃ es, StoreForm running (sendMsg sfid d) mk es) ∧
      ∃ s', exec (mk (sendForm sfid d)) running = .next s'
    stored .dp0 (descOf 3 0 true 0xFF) .mt0wOwdb ∧ stored .dp2 (descOf 3 0 false 0) .mt2wBs ∧
    stored .dp1 (descOf 4 0 false 0xFF) .mt1wA64Sb ∧
    stored .dp1 (descOf 3 0 false (2 * 2 ^ 11 + 1 * 2 ^ 8 + 0xFF)) .mt1wA64B ∧
    stored .dp1 (descOf 3 0 false (3 * 2 ^ 11 + 1 * 2 ^ 8 + 0xFD)) .mt1wA64B ∧
    stored .dp1 (descOf 3 0 false (0 * 2 ^ 11 + 1 * 2 ^ 8 + 0xFF)) .mt1wA64B ∧
    stored .dp0 (descOf 3 0 true (3 * 2 ^ 17)) .sfidDp0 ∧
    stored .dp1 (descOf 3 0 false (1 * 2 ^ 12 + 5 * 2 ^ 8 + 0xFF)) .mt1aUi ∧
    stored .dp1 (descOf 6 0 false (5 * 2 ^ 8)) .mt1aTa ∧ stored .dp1 (descOf 6 0 false (5 * 2 ^ 8)) .mt1aTc ∧
    stored .dp1 (descOf 8 0 false (1 * 2 ^ 12)) .mt1wTs ∧ stored .renderCache (descOf 15 0 false 0) .mtRtw :=
  ⟨⟨issues _ _, ⟨_, .dual 1 kibi (by decide +kernel) (by decide +kernel)⟩, next_of_answers (by decide +kernel)⟩,
    ⟨issues _ _, ⟨_, .scaledBytes 1 general _ (by decide +kernel)
      (scaled_plain _ _ _ (by decide +kernel) (by decide +kernel))⟩, next_of_answers (by decide +kernel)⟩,
    ⟨issues _ _, ⟨_, .elements .byte _ _ _ _ _ (by decide +kernel) (.a64 false (by decide +kernel) (by decide +kernel))⟩,
      next_of_answers (by decide +kernel)⟩,
    ⟨issues _ _, ⟨_, .a64Dual false 1 (by decide +kernel) (by decide +kernel) (by decide +kernel)⟩,
      next_of_answers (by decide +kernel)⟩,
    ⟨issues _ _, ⟨_, .a64Hwords true 1 (by decide +kernel) (by decide +kernel) (by decide +kernel)⟩,
      next_of_answers (by decide +kernel)⟩,
    ⟨issues _ _, ⟨_, .a64Block false 1 1 (by decide +kernel) (by decide +kernel) (by decide +kernel)⟩,
      next_of_answers (by decide +kernel)⟩,
    ⟨issues _ _, ⟨_, .scratch kibi (by decide +kernel) (by decide +kernel)⟩, next_of_answers (by decide +kernel)⟩,
    ⟨issues _ _, ⟨_, .untypedAtomic _ intOp reversedMode general none (by simp [untypedAtomics]) (by decide +kernel)⟩,
      next_of_answers (by decide +kernel)⟩,
    ⟨issues _ _, ⟨_, .typedAtomic _ .s8 nullSurface (.inl ⟨rfl, rfl⟩)
      (target_of _ (reads_null _) (by decide +kernel) (by decide +kernel)).1⟩,
      next_of_answers (by decide +kernel)⟩,
    ⟨issues _ _, ⟨_, .counter _ .s8 nullSurface (.inl ⟨rfl, rfl⟩)
      (target_of _ (reads_null _) (by decide +kernel) (by decide +kernel)).1⟩,
      next_of_answers (by decide +kernel)⟩,
    ⟨issues _ _, ⟨_, .typed .s8 0 nullSurface (by decide +kernel)
      (target_of _ (reads_null _) (by decide +kernel) (by decide +kernel)).1⟩,
      next_of_answers (by decide +kernel)⟩,
    ⟨issues _ _, ⟨_, .renderTarget _ nullTarget ⟨.simd16, false, false, false, false, false, false, 0⟩ 0xFFFF#16
      (by simp [renderWrites]) (by decide +kernel) (target_null _ (by decide +kernel) (by decide +kernel) (by decide +kernel))
      (by decide +kernel)⟩,
      next_of_answers (by decide +kernel)⟩⟩

/-- An outcome with a given fault. -/
def faultsWith (f : Fault) (o : Host.Outcome State Fault Refusal) : Bool :=
  match o with
  | .fault g => g == f
  | _ => false

theorem fault_of_faultsWith {o : Host.Outcome State Fault Refusal} {f : Fault} (h : faultsWith f o = true) : o = .fault f := by
  cases o with
  | next _ => cases h
  | fault g => rw [show g = f by simpa [faultsWith] using h]
  | refused _ => cases h

/-- A step that faults: a read of a DWord at FFFFFFFFh in a context with 32-bit addresses. -/
theorem witness_StepRunsTheDecodedInstruction_fault :
    let s := { running with
      ctx := { Context.reset with generalBase := 0xFFFFFFFF#48, generalSize := BitVec.allOnes 48 }
      rcs := { Engine.reset .rcs with ccid := some 8#64 } }
    let i := Instr.mt0rDws (sendForm .dp0 (descOf 1 1 false (3 * 2 ^ 14 + 0xFF)))
    let u := State.placeWord s (encode i)
    ThreadActs u u ∧ u.fetch = .ok (encode i) ∧ decode (encode i) = .ok i ∧ debugBit (encode i) = false ∧
    u.blocked i = false ∧ exec i (u.markRaces i) = .fault (.outsideAddressSpace 0xFFFFFFFF) :=
  ⟨⟨0, rfl, rfl, rfl⟩, by decide +kernel, by decide +kernel, by decide +kernel, by decide +kernel,
    fault_of_faultsWith (by decide +kernel)⟩

/-! ### Witnesses: interrupts, engines, contexts, responses, blitter, dispatch -/

/-- The machine after reset but for one engine. -/
def withEngine (e : EngineId) (v : Engine) : State := State.reset.setEngine e v

/-- Where the outside world alone can act, its only event does. -/
theorem event_acts (e : EngineId) (v : Engine) (ev : HostEvent) :
    EventActs { withEngine e v with inputs := [ev] } { withEngine e v with inputs := [] } ev := by
  cases e <;> exact ⟨rfl, [], rfl, rfl⟩

theorem engine_of (e : EngineId) (v : Engine) : ({ withEngine e v with inputs := [] } : State).engine e = v := by
  cases e <;> rfl

theorem witness_InterruptGroupsLatchAndClear (g : IrqGroup) (r : IrqReg) (v : DWord) :
    ∀ ev ∈ [HostEvent.writeIrq g r v, .raise g v, .lower g v], ∃ s u, EventActs s u ev :=
  fun ev _ => ⟨_, _, event_acts .rcs (Engine.reset .rcs) ev⟩

/-- A busy engine, whose page faults are handled in a mode. -/
def busy (e : EngineId) (mode : QWord) : Engine := { Engine.reset e with ccid := some (0x1001#64 ||| mode <<< 6) }

/-- Without a context, stuck, at a semaphore, and with a fault of its own (`event_acts`: any event can be the next). -/
theorem witness_EnginesReportErrorsAndFaults_inert (e : EngineId) : ∀ v ∈
    [Engine.reset e, { busy e 0 with stuck := true }, { busy e 0 with semaphoreWaiting := true },
      { busy e 0 with faults := [⟨0#32, .streamer⟩] }],
    v.ccid = none ∨ v.stuck = true ∨ v.semaphoreWaiting = true ∨ ∃ f ∈ v.faults, f.source = .streamer := by
  intro v hv
  simp only [List.mem_cons, List.not_mem_nil, or_false] at hv
  rcases hv with rfl | rfl | rfl | rfl
  · exact .inl rfl
  · exact .inr (.inl rfl)
  · exact .inr (.inr (.inl rfl))
  · exact .inr (.inr (.inr ⟨_, .head _, rfl⟩))

/-- A client no engine supports, with the error masked and not; and a privileged command in a batch that is not. -/
theorem witness_EnginesReportErrorsAndFaults_command (e : EngineId) :
    (busy e 0).parses = true ∧ clientOf 0x20000000#32 ∉ [0, 2, 3] ∧ (busy e 0).emr.getLsbD 0 = true ∧
    ({ busy e 0 with emr := 0#32, engineMask := 0#32 } : Engine).parses = true ∧
    (0#32).getLsbD 0 = false ∧ 0#32 &&& e.errorBit = 0#32 ∧
    clientOf 0#32 = 0 ∧ (busy e 0).batchPrivileged = false := by cases e <;> decide

/-- The legal bits, and a reserved one. -/
theorem witness_EnginesReportErrorsAndFaults_eir (e : EngineId) :
    e.errorBits &&& ~~~e.errorBits = 0#32 ∧ (4#64).setWidth 32 &&& ~~~e.errorBits = 0#32 ∧
    (0x80000000#64).setWidth 32 &&& ~~~e.errorBits ≠ 0#32 := by cases e <;> decide

/-- Fault and Halt, Fault and Stream for a thread and for a parser, Fault and Hang, and no context; a thread whose access
waits. -/
theorem witness_EnginesReportErrorsAndFaults_fault (e : EngineId) :
    FaultWaits (busy e 1) .streamer false ∧ FaultWaits (busy .rcs 2) (.thread 7) true ∧
    ¬ FaultWaits (busy .rcs 2) (.thread 7) false ∧ ¬ FaultWaits (busy e 2) .streamer true ∧
    ¬ FaultWaits (busy e 0) .streamer true ∧ ¬ FaultWaits (Engine.reset e) .streamer true ∧
    State.reset.rcs.irq.isr.getLsbD 7 = false ∧ ({ Device.reset with faultRepair := true } : Device).faultRepair = true ∧
    let s := { running with rcs := { running.rcs with faults := [⟨0#32, .thread 0⟩] } }
    s.eu.run = .running ∧ ∃ f ∈ s.rcs.faults, f.source = .thread s.eu.tid := by
  refine ⟨.inl ?_, .inr ⟨rfl, rfl, 7, rfl⟩, ?_, ?_, ?_, ?_, rfl, rfl, rfl, _, .head _, rfl⟩
  · cases e <;> rfl
  all_goals (try cases e) <;> simp [FaultWaits, Engine.faultMode, busy, Engine.reset, descField]

/-- Contexts whose pages are the second and the third of memory. -/
def ctxA : QWord := 0x1001#64
def ctxB : QWord := 0x2001#64

theorem flushed_of (e : EngineId) (v : Engine) : ({ withEngine e v with inputs := [] } : State).flushed e = true := by
  cases e <;> rfl

/-- One and two contexts, for an idle engine whose last context was `ctxA`, and for one that has saved an image of it; a busy
engine. -/
theorem witness_ExeclistsSwitchContexts_submit (e : EngineId) (i : ContextImage) (h : i.lrca = contextLrca ctxA) :
    submitted 0#64 ctxA = [ctxA] ∧ submitted ctxA ctxB = [ctxA, ctxB] ∧ checkDescriptor ctxA = .ok () ∧
    checkDescriptor ctxB = .ok () ∧ (∀ v, ({ withEngine e v with inputs := [] } : State).flushed e = true) ∧
    ({ Engine.reset e with lrca := some (contextLrca ctxA) } : Engine).restores ctxA = false ∧
    (Engine.reset e).restores ctxA = true ∧ Apart (Engine.reset e) ctxA ∧
    [i].find? (fun x => x.lrca == contextLrca ctxA) = some i ∧ (busy e 0).ccid ≠ none :=
  ⟨by decide +kernel, by decide +kernel, rfl, rfl, flushed_of e, by cases e <;> decide +kernel,
    by cases e <;> decide +kernel, by cases e <;> exact .inl (by decide +kernel), by simp [List.find?, h], nofun⟩

/-- An engine with a second element, a pending execlist and a semaphore to wait for. -/
def leaving (e : EngineId) : Engine :=
  { busy e 0 with execlist := [ctxA, ctxB], semaphoreWaiting := true, pendingList := [ctxB] }

/-- A context that is done, preempted, at a semaphore, or leaves at a vertical blank; and an engine that cannot switch. -/
theorem witness_ExeclistsSwitchContexts_switch (e : EngineId) :
    (∀ why ∈ [SwitchReason.complete, .preempted, .semaphore true, .vblank 0x18#7],
      checkReason why = .ok () ∧ (leaving e).mayLeave why = true) ∧
    (leaving e).ccid = some (0x1001#64 ||| 0#64 <<< 6) ∧ (leaving e).switches = true ∧
    (∀ v, ({ withEngine e v with inputs := [] } : State).flushed e = true) ∧
    (∀ d ∈ [ctxA, ctxB], Apart (leaving e) d) ∧
    following (leaving e) .complete = [ctxB] ∧ following (leaving e) .preempted = [ctxB] ∧
    (Engine.reset e).ccid = none ∧ ({ busy e 0 with stuck := true } : Engine).switches = false ∧
    (busy e 0).mayLeave .preempted = false := by
  refine ⟨by cases e <;> decide +kernel, by cases e <;> rfl, by cases e <;> rfl, flushed_of e, ?_, by cases e <;> rfl,
    by cases e <;> rfl, by cases e <;> rfl, by cases e <;> rfl, by cases e <;> rfl⟩
  intro d hd
  simp only [List.mem_cons, List.not_mem_nil, or_false] at hd
  rcases hd with rfl | rfl
  all_goals exact .inl (by cases e <;> decide +kernel)

/-- A response alone. -/
theorem witness_ResponsesArriveAndBlockedThreadsWait_response :
    State.turn { State.reset with pending := [⟨7, 20, [⟨0#256, 0#32⟩], 0#4096⟩] } = some (.response 7 20) := rfl

def addWord : Instr := .add (two .none .ud (reg 2 .ud) (.reg (reg 4 .ud)))

/-- A thread before an addition, its registers all busy. -/
def blockedState (parked : List Thread) (pending : List Response) : State :=
  let s := State.placeWord running (encode addWord)
  { s with eu := { s.eu with sb := BitVec.allOnes 128 }, parked, pending }

/-- Alone; beside a thread that is over; and with a response of its own on the way, where the free choice is the thread. -/
theorem witness_ResponsesArriveAndBlockedThreadsWait_blocked (h : Config.schedule running.draws % 2 = 0) :
    ∀ e ∈ [([], []), ([Thread.none], []), ([], [⟨0, 3, [⟨0#256, 0#32⟩], 0#4096⟩])],
      let s := blockedState e.1 e.2
      ThreadActs s s ∧ s.fetch = .ok (encode addWord) ∧ decode (encode addWord) = .ok addWord ∧
      debugBit (encode addWord) = false ∧ s.blocked addWord = true := by
  intro e he
  simp only [List.mem_cons, List.not_mem_nil, or_false] at he
  rcases he with rfl | rfl | rfl
  · exact ⟨⟨0, rfl, rfl, rfl⟩, by decide +kernel, by decide +kernel, by decide +kernel, by decide +kernel⟩
  · exact ⟨⟨0, rfl, rfl, rfl⟩, by decide +kernel, by decide +kernel, by decide +kernel, by decide +kernel⟩
  · refine ⟨⟨0, ?_, rfl, rfl⟩, by decide +kernel, by decide +kernel, by decide +kernel, by decide +kernel⟩
    show [Agent.thread 0, .response 0 3][Config.schedule running.draws % 2]? = _
    rw [h]
    rfl

theorem witness_ResponsesArriveAndBlockedThreadsWait_notified :
    let s := { running with eu := { running.eu with run := .waiting 3, n0 := (Vector.replicate 4 0#32).set 3 1#32 } }
    s.turn = some (.thread 0) ∧ s.withThread 0 = s ∧ s.eu.run = .waiting 3 ∧ s.eu.n0.get 3 ≠ 0#32 :=
  ⟨rfl, rfl, rfl, by decide +kernel⟩

/-- Both widths of an atomic operation, at the greatest values the clauses admit. -/
theorem witness_BinaryAtomicsFollowTheirTable : ∀ w ∈ [32, 64],
    2 ^ w - 1 < 2 ^ w ∧ 2 ^ w - 1 + 0 < 2 ^ w ∧ 0 ≤ 2 ^ w - 1 ∧ 2 ^ (w - 1) - 1 < 2 ^ (w - 1) ∧ 2 ^ (w - 1) - 1 < 2 ^ w := by
  decide

/-- The fill of 95_test_vectors.md C5: 4 pixels by 2 rows, 64 bytes a row, at 10000h. -/
def fillState : State :=
  { State.reset with blt := { Blitter.reset with br :=
      ((((Vector.replicate 31 0#32).set 13 0x8FF00040#32).set 14 0x00020010#32).set 16 0xFF112233#32).set 9 0x00010000#32 } }

theorem witness_SolidBlitFillsItsRectangle :
    let b := Blitter.blit { fillState.blt with br := fillState.blt.br.set 27 0#32 }
    0#32 &&& blitterReserved 27 = 0#32 ∧ fillState.blt.stuck = false ∧ b.bytes = 4 ∧ b.depth = 3 ∧ b.rop = 0xF0#8 ∧
    b.solid = true ∧ b.clip = false ∧ b.writeAlpha = true ∧ b.writeRgb = true ∧ b.dstTiled = false ∧ b.colorSource = false ∧
    b.monoSource = false ∧ b.colorPattern = false ∧ b.monoPattern = false ∧ b.transparency = 0 ∧
    4 * (b.width : Int) ≤ b.dstPitch ∧ b.dst + b.height * b.dstPitch.toNat ≤ fillState.bcs.limit ∧ b.dst % 64 = 0 := by
  decide +kernel

/-- A request; the descriptor at its table, in a memory of zeros but for DWord 6, has the kernel 0. -/
def request (gpgpu : Bool) : DispatchRequest :=
  { gpgpu, table := 0#32, index := 0, curbe := 0, dmask := 0xFFFF#32, vmask := 0xFFFF#32, header := 1#256
    payload := List.replicate 127 0#256, x := 0, y := 0, useScoreboard := false, fftid := 0#8, scratch := 0#4, child := false }

/-- A group of `n` threads: byte 24 of the descriptor; with a barrier or not: bit 5 of byte 26. -/
def dispatchState (n barrier : Byte) : State :=
  { State.reset with mem := (24, n) :: if barrier = 0#8 then [] else [(26, barrier)] }

/-- A payload that fills the register file; the group's one thread, or its second one, has room. -/
theorem witness_DispatchStartsItsThreads : ∀ e ∈ [(0, none), (1, some 0)], ∃ d, ∀ gpgpu,
    let h : HeldDispatch := ⟨request gpgpu, 0, e.1, e.2⟩
    readDescriptor (dispatchState 2#8 0#8) h = .ok d ∧ 1 ≤ d.threads ∧ d.barrier = false ∧
    1 + d.readLength + (request gpgpu).payload.length ≤ 128 ∧
    1 + d.crossLength + d.readLength + (request gpgpu).payload.length ≤ 128 := by
  intro e he
  refine ⟨⟨0#32, 0#16, false, false, false, false, false, false, 0#32, 0#32, 0, 0, 0#2, false, 0, 2, 0⟩, ?_⟩
  simp only [List.mem_cons, List.not_mem_nil, or_false] at he
  rcases he with rfl | rfl
  all_goals decide +kernel

/-- A group with a barrier, of one thread, for which there is room; and the same where as many threads are resident as there
can be. -/
theorem witness_DispatchStartsItsThreads_barrier (ht : 1 ≤ Config.threadsPerSubslice) : ∃ d,
    readDescriptor (dispatchState 1#8 0x20#8) ⟨request true, 0, 0, none⟩ = .ok d ∧ d.barrier = true ∧ 1 ≤ d.threads ∧
    d.threads ≤ Config.threadsPerSubslice ∧ 1 + d.crossLength + d.readLength + (request true).payload.length ≤ 128 ∧
    d.threads - 0 ≤ (dispatchState 1#8 0x20#8).room ∧
    let full := { dispatchState 1#8 0x20#8 with parked := List.replicate threadCapacity (loadedThread 0) }
    readDescriptor full ⟨request true, 0, 0, none⟩ = .ok d ∧ full.room < d.threads - 0 := by
  refine ⟨⟨0#32, 0#16, false, false, false, false, false, false, 0#32, 0#32, 0, 0, 0#2, true, 0, 1, 0⟩, by decide +kernel,
    rfl, by decide, ht, by decide +kernel, ?_, by decide +kernel, ?_⟩
  · show 1 - 0 ≤ threadCapacity - 0
    have : 1 ≤ threadCapacity := Nat.le_max_left _ _
    omega
  · show threadCapacity - List.countP _ (Thread.none :: _) < 1
    rw [List.countP_cons, List.countP_replicate]
    simp [Thread.resident, loadedThread]

theorem witness_AtomicOperationsFollowTheirTables : (0 : Nat) < 2 ^ 32 ∧ 2 ^ 64 - 1 < 2 ^ 64 ∧ 0 + 1 < 2 ^ 32 := by decide

/-! ### WellFormed: an ill-formed term for each check -/

theorem test_ctl_refuses :
    ({ ctl1 with cmpt := true }.wf || { ctl1 with pred := .x }.wf
      || { ctl1 with access := .align16, pred := .anyv }.wf) = false ∧ ctl1.wf = true := by decide

theorem test_srcOp_refuses :
    ({ reg 2 .ud with region := .align1 .vxh .w1 .s0 }.wf .align1 || (reg 2 .ud).wf .align16 || (reg 128 .ud).wf .align1 ||
      { reg 2 .ud with loc := .direct 2#8 4#5, region := .align16 .s4 0xE4#8 }.wf .align16 ||
      { reg 2 .ud with loc := .indirect 0#3 8#10, region := .align16 .s4 0xE4#8 }.wf .align16 ||
      { reg 2 .ud with loc := .indirect 0#3 0#10, region := .align16 .vxh 0xE4#8 }.wf .align16) = false ∧
    { reg 2 .ud with loc := .indirect 0#3 8#10, region := .align1 .vxh .w1 .s0 }.wf .align1 = true := by decide

theorem test_dstOp_refuses :
    ((dest .ud).wf .align16 || { dest .ud with loc := .direct 128#8 0#5 }.wf .align1 ||
      { dest .ud with loc := .direct 3#8 8#5, region := .align16 15#4 }.wf .align16) = false ∧
    { dest .ud with loc := .direct 3#8 16#5, region := .align16 15#4 }.wf .align16 = true := by decide

theorem test_oneSrc_refuses :
    ((one .none .ud (.reg { reg 2 .ud with loc := .indirect 0#3 0x200#10 })).wf ||
      { one .none .ud (.reg (reg 2 .ud)) with ctl := { ctl1 with cmpt := true } }.wf ||
      { one .none .ud (.reg (reg 2 .ud)) with dst := { dest .ud with loc := .direct 200#8 0#5 } }.wf) = false ∧
    (one .none .ud (.reg { reg 2 .ud with loc := .indirect 0#3 0x1FF#10 })).wf = true := by decide

theorem test_twoSrc_refuses :
    ((two .none .ud (reg 128 .ud) (.imm .ud 0#32)).wf || (two .none .ud (reg 2 .ud) (.reg (reg 255 .ud))).wf) = false ∧
    (two .none .ud (reg 127 .ud) (.reg (reg 127 .ud))).wf = true := by decide

theorem test_threeSrc_refuses :
    ({ three .none .f with s1 := tri 128#8 }.wf || { three .none .f with dstReg := 128#8 }.wf) = false ∧
    (three .none .f).wf = true := by decide

theorem test_branchOne_refuses :
    ((br1 ctl1 (.reg (reg 2 .d))).wf 0x25#7 || (br1 { ctl1 with sat := true } (.jip 8#32)).wf 0x25#7 ||
      { br1 ctl1 (.jip 8#32) with tag1 := .reg .grf .d }.wf 0x20#7) = false ∧
    (br1 ctl1 (.jip 8#32)).wf 0x25#7 = true := by decide

theorem test_branchTwo_refuses :
    (br2 { ctl1 with sat := true } 8#32 8#32).wf = false ∧ (br2 ctl1 8#32 8#32).wf = true := by decide

theorem test_mathOp_refuses :
    ({ ctl := ctl1, dst := dest .f, src0 := reg 2 .f, src1 := reg 128 .f : MathOp }.wf) = false ∧
    ({ ctl := ctl1, dst := dest .f, src0 := reg 2 .f, src1 := reg 4 .f : MathOp }.wf) = true := by decide

theorem test_sendOp_refuses :
    ({ sendOp .dp1 0 with src0 := .direct 10#8 8#5 }.wf || { sendOp .dp1 0 with src0 := .direct 130#8 0#5 }.wf ||
      { sendOp .dp1 0 with ctl := { ctl1 with sat := true } }.wf) = false ∧ (sendOp .dp1 0).wf = true := by decide

/-- A split send of one register, to the null register. -/
def split : SendsOp :=
  { ctl := ctl1, sfid := .spawner, dstFile := .arf, dstTy := .ud, dst := .direct 0#8 0#5, src0 := .direct 10#8 0#5
    src1File := .grf, src1 := 11#8, ex := 0#16, exLen := 0#4, eot := true, desc := .imm 0x02000000#31 }

theorem test_sendsOp_refuses :
    ({ split with src1 := 128#8 }.wf || { split with dstFile := .grf, dst := .direct 128#8 0#5 }.wf ||
      { split with src0 := .indirect 0#3 8#10 }.wf || { split with ctl := { ctl1 with sat := true } }.wf) = false ∧
    split.wf = true := by decide

theorem test_compact_refuses :
    ({ compactTwo 0x5B#7 0 0 with op := 0x5B#7 }.wf || { compactTwo 0x40#7 0 0 with op := 0x0B#7 }.wf
      || { compactThree with op := 0x40#7 }.wf) = false ∧ (compactTwo 0x40#7 0 0).wf = true ∧ compactThree.wf = true := by
  decide

/-- Fields that belong to another row's constructor. -/
theorem test_instr_refuses :
    ((Instr.mt1rUs (.plain false (sendOp .spawner (descOf 1 0 false 0)))).wf ||
      (Instr.send (sendOp .null 0x02000000)).wf) = false ∧
    (Instr.mt1rUs (.plain false (sendOp .dp1 (descOf 1 1 false (1 * 2 ^ 14))))).wf = true := by decide +kernel

/-! ### Decoding: one word of every row, its codes placed by R44-R93, R95 and R185-R190 -/

/-- The word decodes to an instruction of a constructor. -/
def is (w : BitVec 128) (p : Instr → Bool) : Bool :=
  match decode w with
  | .ok i => p i
  | .error _ => false

theorem test_decode_opcodes1 : (
    (is 0x00000000000000000000000000000000#128 fun | .illegal => true | _ => false) &&
    (is 0x00000000000000000000000000000001#128 fun | .mov _ => true | _ => false) &&
    (is 0x00000000000000000000000000000002#128 fun | .sel _ => true | _ => false) &&
    (is 0x00000000000000000000000000000003#128 fun | .movi _ => true | _ => false) &&
    (is 0x00000000000000000000000000000004#128 fun | .not _ => true | _ => false) &&
    (is 0x00000000000000000000000000000005#128 fun | .and _ => true | _ => false) &&
    (is 0x00000000000000000000000000000006#128 fun | .or _ => true | _ => false) &&
    (is 0x00000000000000000000000000000007#128 fun | .xor _ => true | _ => false) &&
    (is 0x00000000000000000000000000000008#128 fun | .shr _ => true | _ => false) &&
    (is 0x00000000000000000000000000000009#128 fun | .shl _ => true | _ => false) &&
    (is 0x0000000000000000000000000000000A#128 fun | .smov _ => true | _ => false) &&
    (is 0x0000000000000000000000000000000C#128 fun | .asr _ => true | _ => false) &&
    (is 0x00000000000000000000000000000010#128 fun | .cmp _ => true | _ => false) &&
    (is 0x00000000000000000000000000000011#128 fun | .cmpn _ => true | _ => false) &&
    (is 0x00000000000000000000000000000012#128 fun | .csel _ => true | _ => false) &&
    (is 0x00000000000000000000000000000017#128 fun | .bfrev _ => true | _ => false) &&
    (is 0x00000000000000000000000000000018#128 fun | .bfe _ => true | _ => false) &&
    (is 0x00000000000000000000000000000019#128 fun | .bfi1 _ => true | _ => false) &&
    (is 0x0000000000000000000000000000001A#128 fun | .bfi2 _ => true | _ => false) &&
    (is 0x00000000000000000000000000000020#128 fun | .jmpi _ => true | _ => false) &&
    (is 0x00000000000000000000000000000021#128 fun | .brd _ => true | _ => false) &&
    (is 0x00000000000000000000000000000022#128 fun | .ifOp _ => true | _ => false) &&
    (is 0x00000000000000000000000000000023#128 fun | .brc _ => true | _ => false) &&
    (is 0x00000000000000000000000000000024#128 fun | .elseOp _ => true | _ => false)) = true := by
  decide +kernel

theorem test_decode_opcodes2 : (
    (is 0x00000000000000000000000000000025#128 fun | .endif _ => true | _ => false) &&
    (is 0x00000000000000000000000000000027#128 fun | .whileOp _ => true | _ => false) &&
    (is 0x00000000000000000000000000000028#128 fun | .breakOp _ => true | _ => false) &&
    (is 0x00000000000000000000000000000029#128 fun | .cont _ => true | _ => false) &&
    (is 0x0000000000000000000000000000002A#128 fun | .halt _ => true | _ => false) &&
    (is 0x0000000000000000000000000000002B#128 fun | .calla _ => true | _ => false) &&
    (is 0x0000000000000000000000000000002C#128 fun | .call _ => true | _ => false) &&
    (is 0x0000000000000000000000000000002D#128 fun | .ret _ => true | _ => false) &&
    (is 0x0000000000000000000000000000002E#128 fun | .goto _ => true | _ => false) &&
    (is 0x0000000000000000000000000000002F#128 fun | .join _ => true | _ => false) &&
    (is 0x00000000000000000000000000000030#128 fun | .wait _ => true | _ => false) &&
    (is 0x00000000000000000000000000000031#128 fun | .send _ => true | _ => false) &&
    (is 0x00000000000000000000000000000032#128 fun | .sendc _ => true | _ => false) &&
    (is 0x00000000000000000000000000000033#128 fun | .sends _ => true | _ => false) &&
    (is 0x00000000000000000000000000000034#128 fun | .sendsc _ => true | _ => false) &&
    (is 0x00000000000000000000000000000040#128 fun | .add _ => true | _ => false) &&
    (is 0x00000000000000000000000000000041#128 fun | .mul _ => true | _ => false) &&
    (is 0x00000000000000000000000000000042#128 fun | .avg _ => true | _ => false) &&
    (is 0x00000000000000000000000000000043#128 fun | .frc _ => true | _ => false) &&
    (is 0x00000000000000000000000000000044#128 fun | .rndu _ => true | _ => false) &&
    (is 0x00000000000000000000000000000045#128 fun | .rndd _ => true | _ => false) &&
    (is 0x00000000000000000000000000000046#128 fun | .rnde _ => true | _ => false) &&
    (is 0x00000000000000000000000000000047#128 fun | .rndz _ => true | _ => false) &&
    (is 0x00000000000000000000000000000048#128 fun | .mac _ => true | _ => false)) = true := by
  decide +kernel

theorem test_decode_opcodes3 : (
    (is 0x00000000000000000000000000000049#128 fun | .mach _ => true | _ => false) &&
    (is 0x0000000000000000000000000000004A#128 fun | .lzd _ => true | _ => false) &&
    (is 0x0000000000000000000000000000004B#128 fun | .fbh _ => true | _ => false) &&
    (is 0x0000000000000000000000000000004C#128 fun | .fbl _ => true | _ => false) &&
    (is 0x0000000000000000000000000000004D#128 fun | .cbit _ => true | _ => false) &&
    (is 0x0000000000000000000000000000004E#128 fun | .addc _ => true | _ => false) &&
    (is 0x0000000000000000000000000000004F#128 fun | .subb _ => true | _ => false) &&
    (is 0x00000000000000000000000000000050#128 fun | .sad2 _ => true | _ => false) &&
    (is 0x00000000000000000000000000000051#128 fun | .sada2 _ => true | _ => false) &&
    (is 0x00000000000000000000000000000054#128 fun | .dp4 _ => true | _ => false) &&
    (is 0x00000000000000000000000000000055#128 fun | .dph _ => true | _ => false) &&
    (is 0x00000000000000000000000000000056#128 fun | .dp3 _ => true | _ => false) &&
    (is 0x00000000000000000000000000000057#128 fun | .dp2 _ => true | _ => false) &&
    (is 0x00000000000000000000000000000059#128 fun | .line _ => true | _ => false) &&
    (is 0x0000000000000000000000000000005A#128 fun | .pln _ => true | _ => false) &&
    (is 0x0000000000000000000000000000005B#128 fun | .mad _ => true | _ => false) &&
    (is 0x0000000000000000000000000000005C#128 fun | .lrp _ => true | _ => false) &&
    (is 0x0000000000000000000000000000005D#128 fun | .madm _ => true | _ => false) &&
    (is 0x0000000000000000000000000000007E#128 fun | .nop _ => true | _ => false)) = true := by
  decide +kernel

theorem test_decode_math : (
    (is 0x00000000000000000000000000000038#128 fun | .math _ => true | _ => false) &&
    (is 0x00000000000000000000000001000038#128 fun | .mathInv _ => true | _ => false) &&
    (is 0x00000000000000000000000002000038#128 fun | .mathLog _ => true | _ => false) &&
    (is 0x00000000000000000000000003000038#128 fun | .mathExp _ => true | _ => false) &&
    (is 0x00000000000000000000000004000038#128 fun | .mathSqrt _ => true | _ => false) &&
    (is 0x00000000000000000000000005000038#128 fun | .mathRsq _ => true | _ => false) &&
    (is 0x00000000000000000000000006000038#128 fun | .mathSin _ => true | _ => false) &&
    (is 0x00000000000000000000000007000038#128 fun | .mathCos _ => true | _ => false) &&
    (is 0x00000000000000000000000009000038#128 fun | .mathFdiv _ => true | _ => false) &&
    (is 0x0000000000000000000000000A000038#128 fun | .mathPow _ => true | _ => false) &&
    (is 0x0000000000000000000000000B000038#128 fun | .mathIntDivQr _ => true | _ => false) &&
    (is 0x0000000000000000000000000C000038#128 fun | .mathIntDivQ _ => true | _ => false) &&
    (is 0x0000000000000000000000000D000038#128 fun | .mathIntDivR _ => true | _ => false) &&
    (is 0x0000000000000000000000000E000038#128 fun | .mathInvm _ => true | _ => false) &&
    (is 0x0000000000000000000000000F000038#128 fun | .mathRsqrtm _ => true | _ => false)) = true := by
  decide +kernel

theorem test_decode_sharedFunctions : (
    (is 0x02000000060000000000020000000031#128 fun | .sfidNull _ => true | _ => false) &&
    (is 0x00000000000000000000020002000031#128 fun | .sfidSampler _ => true | _ => false) &&
    (is 0x00000000000000000000020003000031#128 fun | .sfidGateway _ => true | _ => false) &&
    (is 0x00000000000000000000020004000031#128 fun | .sfidDp2 _ => true | _ => false) &&
    (is 0x00000000000000000000020005000031#128 fun | .sfidRenderCache _ => true | _ => false) &&
    (is 0x00000000000000000000020006000031#128 fun | .sfidUrb _ => true | _ => false) &&
    (is 0x00000000000000000000020007000031#128 fun | .sfidSpawner _ => true | _ => false) &&
    (is 0x00000000000000000000020008000031#128 fun | .sfidVme _ => true | _ => false) &&
    (is 0x00000000000000000000020009000031#128 fun | .sfidReadOnly _ => true | _ => false) &&
    (is 0x0000000000000000000002000A000031#128 fun | .sfidDp0 _ => true | _ => false) &&
    (is 0x0000000000000000000002000B000031#128 fun | .sfidPixelInterp _ => true | _ => false) &&
    (is 0x0000000000000000000002000C000031#128 fun | .sfidDp1 _ => true | _ => false) &&
    (is 0x0000000000000000000002000D000031#128 fun | .sfidCre _ => true | _ => false)) = true := by
  decide +kernel

theorem test_decode_messages1 : (
    (is 0x1E00000006000000000002000A000031#128 fun | .mt0rB _ => true | _ => false) &&
    (is 0x1E00400006000000000002000A000031#128 fun | .mt0rAb _ => true | _ => false) &&
    (is 0x1E00800006000000000002000A000031#128 fun | .mt0rOwdb _ => true | _ => false) &&
    (is 0x1E00C00006000000000002000A000031#128 fun | .mt0rDws _ => true | _ => false) &&
    (is 0x1E01000006000000000002000A000031#128 fun | .mt0rBs _ => true | _ => false) &&
    (is 0x1E01C00006000000000002000A000031#128 fun | .mt0Memfence _ => true | _ => false) &&
    (is 0x1E02000006000000000002000A000031#128 fun | .mt0wB _ => true | _ => false) &&
    (is 0x1E02800006000000000002000A000031#128 fun | .mt0wOwdb _ => true | _ => false) &&
    (is 0x1E02C00006000000000002000A000031#128 fun | .mt0wDws _ => true | _ => false) &&
    (is 0x1E03000006000000000002000A000031#128 fun | .mt0wBs _ => true | _ => false) &&
    (is 0x1E00000006000000000002000C000031#128 fun | .mt1rT _ => true | _ => false) &&
    (is 0x1E00400006000000000002000C000031#128 fun | .mt1rUs _ => true | _ => false) &&
    (is 0x1E00800006000000000002000C000031#128 fun | .mt1aUi _ => true | _ => false) &&
    (is 0x1E00C00006000000000002000C000031#128 fun | .mt1aUi4x2 _ => true | _ => false) &&
    (is 0x1E01000006000000000002000C000031#128 fun | .mt1rMb _ => true | _ => false) &&
    (is 0x1E01400006000000000002000C000031#128 fun | .mt1rTs _ => true | _ => false) &&
    (is 0x1E01800006000000000002000C000031#128 fun | .mt1aTa _ => true | _ => false) &&
    (is 0x1E01C00006000000000002000C000031#128 fun | .mt1aTa4x2 _ => true | _ => false) &&
    (is 0x1E02400006000000000002000C000031#128 fun | .mt1wUs _ => true | _ => false) &&
    (is 0x1E02800006000000000002000C000031#128 fun | .mt1wMb _ => true | _ => false) &&
    (is 0x1E02C00006000000000002000C000031#128 fun | .mt1aTc _ => true | _ => false) &&
    (is 0x1E03000006000000000002000C000031#128 fun | .mt1aTc4x2 _ => true | _ => false) &&
    (is 0x1E03400006000000000002000C000031#128 fun | .mt1wTs _ => true | _ => false) &&
    (is 0x1E04000006000000000002000C000031#128 fun | .mt1rA64Sb _ => true | _ => false)) = true := by
  decide +kernel

theorem test_decode_messages2 : (
    (is 0x1E04400006000000000002000C000031#128 fun | .mt1rA64Us _ => true | _ => false) &&
    (is 0x1E04800006000000000002000C000031#128 fun | .mt1aA64Ui _ => true | _ => false) &&
    (is 0x1E04C00006000000000002000C000031#128 fun | .mt1aA64Ui4x2 _ => true | _ => false) &&
    (is 0x1E05000006000000000002000C000031#128 fun | .mt1rA64B _ => true | _ => false) &&
    (is 0x1E05400006000000000002000C000031#128 fun | .mt1wA64B _ => true | _ => false) &&
    (is 0x1E06400006000000000002000C000031#128 fun | .mt1wA64Us _ => true | _ => false) &&
    (is 0x1E06800006000000000002000C000031#128 fun | .mt1wA64Sb _ => true | _ => false) &&
    (is 0x1E06C00006000000000002000C000031#128 fun | .mt1aUf _ => true | _ => false) &&
    (is 0x1E07000006000000000002000C000031#128 fun | .mt1aUf4x2 _ => true | _ => false) &&
    (is 0x1E07400006000000000002000C000031#128 fun | .mt1aA64Uf _ => true | _ => false) &&
    (is 0x1E07800006000000000002000C000031#128 fun | .mt1aA64Uf4x2 _ => true | _ => false) &&
    (is 0x1E008000060000000000020004000031#128 fun | .mt2rUs _ => true | _ => false) &&
    (is 0x1E010000060000000000020004000031#128 fun | .mt2rA64Sb _ => true | _ => false) &&
    (is 0x1E018000060000000000020004000031#128 fun | .mt2rA64Us _ => true | _ => false) &&
    (is 0x1E020000060000000000020004000031#128 fun | .mt2rBs _ => true | _ => false) &&
    (is 0x1E048000060000000000020004000031#128 fun | .mt2wUs _ => true | _ => false) &&
    (is 0x1E050000060000000000020004000031#128 fun | .mt2wA64Us _ => true | _ => false) &&
    (is 0x1E058000060000000000020004000031#128 fun | .mt2wA64Sb _ => true | _ => false) &&
    (is 0x1E060000060000000000020004000031#128 fun | .mt2wBs _ => true | _ => false) &&
    (is 0x1E000000060000000000020009000031#128 fun | .mtCcOwb _ => true | _ => false) &&
    (is 0x1E004000060000000000020009000031#128 fun | .mtCcOwub _ => true | _ => false) &&
    (is 0x1E008000060000000000020009000031#128 fun | .mtCcOwdb _ => true | _ => false) &&
    (is 0x1E00C000060000000000020009000031#128 fun | .mtCcDws _ => true | _ => false) &&
    (is 0x1E010000060000000000020009000031#128 fun | .mtScOwub _ => true | _ => false)) = true := by
  decide +kernel

theorem test_decode_messages3 : (
    (is 0x1E014000060000000000020009000031#128 fun | .mtScMb _ => true | _ => false) &&
    (is 0x1E018000060000000000020009000031#128 fun | .mtRsi _ => true | _ => false) &&
    (is 0x1E030500060000000000020005000031#128 fun | .mtRtw _ => true | _ => false) &&
    (is 0x1E034000060000000000020005000031#128 fun | .mtRtr _ => true | _ => false) &&
    (is 0x1E030000060000000000020005000031#128 fun | .mtRtwSimd16 _ => true | _ => false) &&
    (is 0x1E030100060000000000020005000031#128 fun | .mtRtwSimd16Repdata _ => true | _ => false) &&
    (is 0x1E030200060000000000020005000031#128 fun | .mtRtwSimd8DualsrcLo _ => true | _ => false) &&
    (is 0x1E030300060000000000020005000031#128 fun | .mtRtwSimd8DualsrcHi _ => true | _ => false) &&
    (is 0x1E030400060000000000020005000031#128 fun | .mtRtwSimd8Lo _ => true | _ => false) &&
    (is 0x1E030700060000000000020005000031#128 fun | .mtRtwSimd16RepdataTm _ => true | _ => false) &&
    (is 0x02000000060000000000020007000031#128 fun | .tsDereference _ => true | _ => false) &&
    (is 0x02000001060000000000020007000031#128 fun | .tsSpawn _ => true | _ => false)) = true := by
  decide +kernel

theorem test_decode_compact : (
    (is 0x00000000000000000000000020000001#128 fun | .compactTwo _ => true | _ => false) &&
    (is 0x0000000000000000000000002000005B#128 fun | .compactThree _ => true | _ => false)) = true := by
  decide +kernel

/-- A native word from its DWords, lowest first, as 95_test_vectors.md prints them. -/
def word (d0 d1 d2 d3 : DWord) : BitVec 128 := d3 ++ d2 ++ d1 ++ d0

/-- The instruction of a word, if it is well formed. -/
def decoded (w : BitVec 128) : Option Instr :=
  match decode w with
  | .ok i => some i
  | .error _ => none

/-- Eight channels, every mask on. -/
def ctl8 : Ctl := { ctl1 with exec := .s8, noMask := false }

/-- `rn.0<8;8,1>`. -/
def vec (r : BitVec 8) (ty : RType) : SrcOp := { reg r ty with region := .align1 .s8 .w8 .s1 }

def dstAt (r : BitVec 8) (ty : RType) : DstOp := { dest ty with loc := .direct r 0#5 }

/-- Vectors C2 and B3: `mov`, `add`, `add.sat`. -/
theorem test_decode_arithmetic :
    decoded (word 0x00600001 0x2040060C 0x00000000 0x12345678) =
      some (.mov { ctl := { ctl8 with noMask := true }, cond := .none, dst := dstAt 2 .ud, src0 := .imm .ud 0x12345678#32 }) ∧
    decoded (word 0x00600040 0x2060020C 0x028D0040 0x008D0040) =
      some (.add { ctl := { ctl8 with noMask := true }, cond := .none, dst := dstAt 3 .ud, src0 := vec 2 .ud
                   src1 := .reg (vec 2 .ud) }) ∧
    decoded (word 0x80600040 0x2080020C 0x068D0040 0xF0000000) =
      some (.add { ctl := { ctl8 with noMask := true, sat := true }, cond := .none, dst := dstAt 4 .ud, src0 := vec 2 .ud
                   src1 := .imm .ud 0xF0000000#32 }) := by decide +kernel

/-- Vector C7: `cmp.l.f0.0`, `(+f0.0) if`, the negated `mov`. -/
theorem test_decode_branches :
    decoded (word 0x05600010 0x20000A20 0x0E8D0040 0x00000000) =
      some (.cmp { ctl := ctl8, cond := .l, dst := { nullDest with ty := .d }, src0 := vec 2 .d, src1 := .imm .d 0#32 }) ∧
    decoded (word 0x00610022 0x00000000 0x00000040 0x00000030) =
      some (.ifOp { ctl := { ctl8 with pred := .seq }, dst := { nullDest with region := .align1 .s0 }, tag0 := .reg .arf .ud
                    jip := 0x30#32, uip := 0x40#32 }) ∧
    decoded (word 0x00600001 0x20600A28 0x008D4040 0x00000000) =
      some (.mov { ctl := ctl8, cond := .none, dst := dstAt 3 .d
                   src0 := .reg { vec 2 .d with mod := ⟨true, false⟩ } }) := by decide +kernel

/-- Vectors C4 and B7: the two ends of a thread, and a send with every bit of its extended function control. -/
theorem test_decode_sends :
    decoded (word 0x07600031 0x00000204 0x06000000 0x82000000) =
      some (.tsDereference (.plain false
        { ctl := { ctl8 with noMask := true }, sfid := .spawner, dst := { nullDest with region := .align1 .s0 }
          tag0 := .reg .grf .ud, src0 := .direct 0#8 0#5, ex := 0#16, eot := true, desc := .imm 0x02000000#31 })) ∧
    decoded (word 0x07600033 0x00001014 0x00000000 0x82000000) =
      some (.tsDereference (.split false
        { split with ctl := { ctl8 with noMask := true }, src0 := .direct 0#8 0#5, src1 := 1#8 })) ∧
    (is (word 0x0C600031 0x2180020C 0x56A3014C 0x02106EFE) fun
      | .mt1rUs (.plain false o) => o.ex == 0xA53C#16 && o.src0 == .direct 10#8 0#5
      | _ => false) = true := by decide +kernel

/-- Vector C3: the compact `add`; B2: a reserved bit is refused. -/
theorem test_decode_compact_reserved :
    decoded (word 0x20016D40 0x05020300 0 0) =
      some (.compactTwo { compactTwo 0x40#7 0 0 with
        control := 13#5, dataType := 11#5, subReg := 0#5, cond := 0#4, src0Index := 0#5, src1Index := 0#5, dst := 3#8
        src0 := 2#8, src1 := 5#8 }) ∧
    decoded (word 0x00000680 0 0 0) = none := by decide +kernel

/-! ### One step of the programs C1 to C9 of 95_test_vectors.md -/

/-- A register of eight DWords. -/
def row (l : List Nat) : HWord := BitVec.ofNat 256 (l.foldr (fun d r => d % 2 ^ 32 + 2 ^ 32 * r) 0)

/-- The conventions of part C: eight dispatched channels at `ip`, each PcIP there, `sip` = 1000h; r2 and r5 given. -/
def atIp (ip : DWord) (r2 r5 : List Nat) : State :=
  { State.reset with
    eu := { loadedThread 0 with
      ip, dmask := 0xFF#32, pcip := Vector.replicate 32 ip
      grf := ((Vector.replicate 128 0#256).set 2 (row r2)).set 5 (row r5) }
    ctx := { Context.reset with sip := 0x1000#32 }
    nextTid := 1 }

/-- A fact of the thread after the step that fetches the word. -/
def after (s : State) (w : BitVec 128) (p : Thread → Bool) : Bool :=
  match step (s.withFetchWord 128 w.toNat) with
  | .next s' => p s'.eu
  | _ => false

/-- C1: `nop` only advances; `nop` with a breakpoint enters the system routine before it executes. -/
theorem test_step_nop_breakpoint :
    (after (atIp 0x40 [] []) (word 0x0000007E 0 0 0) (fun t => t.ip == 0x50#32 && t.cr0 == (atIp 0 [] []).eu.cr0) &&
     after (atIp 0x50 [] []) (word 0x4000007E 0 0 0) fun t =>
      t.ip == 0x1000#32 && t.cr0[2] == 0x50#32 && t.cr0[1].getLsbD 15 && t.cr0[0].getLsbD 31) = true := by decide +kernel

/-- C2. -/
theorem test_step_mov_immediate :
    after (atIp 0 [] []) (word 0x00600001 0x2040060C 0x00000000 0x12345678) (fun t =>
      t.ip == 0x10#32 && t.grf[2] == row (List.replicate 8 0x12345678)) = true := by decide +kernel

/-- C2: the wrapped and the saturated sum, and with `NoMask` removed only the dispatched channels. -/
theorem test_step_add_saturate :
    (after (atIp 0x30 (List.replicate 8 0x12345678) []) (word 0x00600040 0x2080020C 0x068D0040 0xF0000000)
      (fun t => t.grf[4] == row (List.replicate 8 0x02345678)) &&
     after (atIp 0x20 (List.replicate 8 0x12345678) []) (word 0x80600040 0x2080020C 0x068D0040 0xF0000000)
      (fun t => t.grf[4] == row (List.replicate 8 0xFFFFFFFF) && t.ip == 0x30#32) &&
     after { atIp 0x30 (List.replicate 8 0x12345678) [] with eu.dmask := 0xF#32 }
      (word 0x00600040 0x20800208 0x068D0040 0xF0000000)
      (fun t => t.grf[4] == row (List.replicate 4 0x02345678))) = true := by decide +kernel

/-- C3, with the source index whose entry is the example's T = 468h (28, log 7): ip + 8, and the two sums. -/
theorem test_step_compact :
    (after (atIp 0 (List.replicate 8 0x10) []) (word 0x20016D40 0x05020307 0 0)
      (fun t => t.ip == 8#32 && t.grf[3] == row (List.replicate 8 0x15)) &&
     after (atIp 8 (List.replicate 8 0x10) []) (word 0x20016D40 0xFB0203FF 0 0)
      (fun t => t.ip == 0x10#32 && t.grf[3] == row (List.replicate 8 0xB))) = true := by decide +kernel

/-- C4: the thread ends. -/
theorem test_step_end_of_thread :
    (after (atIp 0 [] []) (word 0x07600031 0x00000204 0x06000000 0x82000000) (fun t => t.run == .ended) &&
     after (atIp 0 [] []) (word 0x07600033 0x00001014 0x00000000 0x82000000) fun t => t.run == .ended) = true := by
  decide +kernel

/-- C7, the data. -/
def c7 : List Nat := [5, 0xFFFFFFFD, 0, 0xFFFFFFFF, 7, 0xFFFFFFF8, 2, 0xFFFFFFFE]

/-- C7: each channel's PcIP. -/
def pcips (t : Thread) : List Nat := (t.pcip.toList.take 8).map BitVec.toNat

/-- C7: the flag of the negative channels; the null destination is not written. -/
theorem test_step_cmp :
    after (atIp 0 c7 []) (word 0x05600010 0x20000A20 0x0E8D0040 0x00000000) (fun t =>
      t.ip == 0x10#32 && t.flag[0] == 0xAA#32 && t.grf == (atIp 0 c7 []).eu.grf) = true := by decide +kernel

/-- C7: the channels without the predicate wait at +30h; with none of it, they jump there. -/
theorem test_step_if :
    (after { atIp 0x10 c7 [] with eu.flag := (Vector.replicate 2 0#32).set 0 0xAA#32 }
      (word 0x00610022 0 0x00000040 0x00000030)
      (fun t => t.ip == 0x20#32 && pcips t == [0x40, 0x20, 0x40, 0x20, 0x40, 0x20, 0x40, 0x20]) &&
     after (atIp 0x10 c7 []) (word 0x00610022 0 0x00000040 0x00000030) (fun t => t.ip == 0x40#32)) = true := by
  decide +kernel

/-- C7: only the live channels are written. -/
theorem test_step_masked_mov :
    after { atIp 0x20 c7 [] with eu.pcip := Vector.ofFn fun k => if k.val % 2 = 0 then 0x40#32 else 0x20#32 }
      (word 0x00600001 0x20600A28 0x008D4040 0x00000000)
      (fun t => t.grf[3] == row [0, 3, 0, 1, 0, 8, 0, 2] &&
        pcips t == [0x40, 0x30, 0x40, 0x30, 0x40, 0x30, 0x40, 0x30]) = true := by decide +kernel

/-- C7. -/
theorem test_step_else :
    after { atIp 0x30 c7 [] with eu.pcip := Vector.ofFn fun k => if k.val % 2 = 0 then 0x40#32 else 0x30#32 }
      (word 0x00600024 0 0x00000020 0x00000020)
      (fun t => t.ip == 0x40#32 && pcips t == [0x40, 0x50, 0x40, 0x50, 0x40, 0x50, 0x40, 0x50]) = true := by decide +kernel

/-- C7. -/
theorem test_step_endif :
    after (atIp 0x50 c7 []) (word 0x00600025 0 0x00000000 0x00000010)
      (fun t => t.ip == 0x60#32 && pcips t == List.replicate 8 0x60) = true := by decide +kernel

/-- C8, the first and the last pass. -/
theorem test_step_while :
    (after { atIp 0x30 [] [] with eu.flag := (Vector.replicate 2 0#32).set 0 0x05#32 }
      (word 0x00610027 0 0x0E000000 0xFFFFFFD0)
      (fun t => t.ip == 0#32 && pcips t == [0, 0x40, 0, 0x40, 0x40, 0x40, 0x40, 0x40]) &&
     after (atIp 0x30 [] []) (word 0x00610027 0 0x0E000000 0xFFFFFFD0)
      (fun t => t.ip == 0x40#32 && pcips t == List.replicate 8 0x40)) = true := by decide +kernel

/-- C9: shared local memory of 1024 bytes, offsets in r10, data in r11. -/
def slmState : State :=
  let s := atIp 0 [] []
  { s with
    eu := { s.eu with group := some 0, grf := ((s.eu.grf.set 10 (row [0, 4, 8, 12, 16, 20, 24, 1024])).set 11
      (row [1, 2, 3, 4, 5, 6, 7, 8])) }
    groups := [{ id := 0, slmSize := 1024, barrier := false, count := 0, expected := 1
                 slm := (List.range 32).map fun k => (k, BitVec.ofNat 8 (if k % 4 = 1 then k / 4 + 1 else 0)) }] }

/-- C9: what the step leaves in shared local memory. -/
def slmAfter (w : BitVec 128) : List Nat :=
  match step (slmState.withFetchWord 128 w.toNat) with
  | .next s' => (s'.slmOf 0).map fun c => c.2.toNat
  | _ => []

/-- C9: slots 0 to 6 add, the slot at 1024 is out of bounds. -/
theorem test_step_slm_atomic_add :
    slmAfter (word 0x0C600031 0x2180020C 0x06000140 0x0410B7FE) =
      [1, 1, 0, 0, 2, 2, 0, 0, 3, 3, 0, 0, 4, 4, 0, 0, 5, 5, 0, 0, 6, 6, 0, 0, 7, 7, 0, 0, 0, 8, 0, 0] := by decide +kernel

/-- C9: the read changes nothing; its response is r13's. -/
theorem test_step_slm_read :
    slmAfter (word 0x0C600031 0x21A0020C 0x06000140 0x02106EFE) = (slmState.slmOf 0).map (fun c => c.2.toNat) := by
  decide +kernel

/-! ### Values of B5, B8 to B11 and B13 of 95_test_vectors.md, one channel each -/

/-- The running thread with DWords in r2, r4 and r5. -/
def with3 (r2 r4 r5 : List Nat) : State :=
  { running with eu := ((running.eu.setReg 2 (row r2)).setReg 4 (row r4)).setReg 5 (row r5) }

/-- Whether an instruction leaves the value in r3's first DWord. -/
def gives (i : Instr) (s : State) (v : Nat) : Bool :=
  match exec i s with
  | .next s' => (s'.eu.reg 3).toNat % 2 ^ 32 == v
  | _ => false

/-- Whether an instruction leaves bit 0 of f0.0 as stated. -/
def flags (i : Instr) (s : State) (b : Bool) : Bool :=
  match exec i s with
  | .next s' => s'.eu.flag[0].getLsbD 0 == b
  | _ => false

def sat1 : Ctl := { ctl1 with sat := true }

/-- A one-source instruction of r2. -/
def un (f : OneSrc → Instr) (dt st : RType) (a v : Nat) : Bool := gives (f (one .none dt (.reg (reg 2 st)))) (with3 [a] [] []) v

/-- The same, saturating. -/
def unSat (f : OneSrc → Instr) (dt st : RType) (a v : Nat) : Bool :=
  gives (f { one .none dt (.reg (reg 2 st)) with ctl := sat1 }) (with3 [a] [] []) v

/-- A two-source instruction of r2 and r4. -/
def bin (f : TwoSrc → Instr) (dt st : RType) (a b v : Nat) : Bool :=
  gives (f (two .none dt (reg 2 st) (.reg (reg 4 st)))) (with3 [a] [b] []) v

/-- The same with a condition: the flag. -/
def binFlag (f : TwoSrc → Instr) (c : CondMod) (st : RType) (a b : Nat) (v : Bool) : Bool :=
  flags (f (two c st (reg 2 st) (.reg (reg 4 st)))) (with3 [a] [b] []) v

/-- A three-source instruction of r2, r4 and r5. -/
def ter (f : ThreeSrc → Instr) (c : CondMod) (ty : TType) (a b d v : Nat) : Bool :=
  gives (f { three c ty with s2 := tri 5#8 }) (with3 [a] [b] [d]) v

theorem test_shifts :
    (bin .shr .ud .ud 0x80000000 31 1 && bin .shr .ud .ud 0x80000000 32 0x80000000 &&
     bin .shr .ud .ud 0x80000000 33 0x40000000 && bin .shl .ud .ud 3 31 0x80000000 &&
     gives (.shl { two .none .ud (reg 2 .ud) (.reg (reg 4 .ud)) with ctl := sat1 }) (with3 [3] [31] []) 0xFFFFFFFF &&
     bin .asr .d .d 0x80000000 4 0xF8000000 && bin .asr .ud .ud 0x80000000 4 0x08000000) = true := by decide +kernel

/-- R140: the sum before saturation decides the conditions. -/
theorem test_add_exact :
    (bin .add .d .d 0x7FFFFFFF 1 0x80000000 && binFlag .add .o .d 0x7FFFFFFF 1 true && binFlag .add .l .d 0x7FFFFFFF 1 false &&
     gives (.add (two .none .ud (reg 2 .ud) (.reg { reg 4 .ud with mod := ⟨true, false⟩ }))) (with3 [5] [7] []) 0xFFFFFFFE &&
     gives (.add { two .l .ud (reg 2 .ud) (.reg { reg 4 .ud with mod := ⟨true, false⟩ }) with ctl := sat1 })
      (with3 [5] [7] []) 0 &&
     flags (.add (two .l .ud (reg 2 .ud) (.reg { reg 4 .ud with mod := ⟨true, false⟩ }))) (with3 [5] [7] []) true) = true := by
  decide +kernel

theorem test_mov_converts :
    (un .mov .d .f 0x40200000 2 && un .mov .d .f 0xC0200000 0xFFFFFFFE && un .mov .d .f 0x50DF8476 0x7FFFFFFF &&
     un .mov .d .f 0xD0DF8476 0x80000000 && un .mov .f .d 16777217 0x4B800000 &&
     un .mov .ub .d 0x1FF 0xFF && unSat .mov .ub .d 0x1FF 0xFF && unSat .mov .ub .d 0xFFFFFFFF 0) = true := by decide +kernel

/-- R101 of a packed immediate, and B5. -/
theorem test_mov_saturates :
    (gives (.mov (one .none .f (.imm .vf 0x00484030#32))) running 0x3F800000 &&
     gives (.mov { one .none .d (.reg { reg 2 .d with mod := ⟨true, false⟩ }) with ctl := sat1 })
      (with3 [0x80000000] [] []) 0x7FFFFFFF &&
     unSat .mov .f .f 0x3FC00000 0x3F800000 && unSat .mov .f .f 0xFF800000 0 &&
     unSat .mov .b .d 200 0x7F && un .mov .b .d 200 0xC8 && unSat .mov .uw .d 70000 0xFFFF && un .mov .uw .d 70000 0x1170)
    = true := by decide +kernel

theorem test_logic :
    (un .not .ud .ud 0x0000FFFF 0xFFFF0000 && flags (.not (one .z .ud (.reg (reg 2 .ud)))) (with3 [0xFFFF] [] []) false &&
     gives (.and (two .none .uw (reg 2 .uw) (.reg { reg 4 .uw with mod := ⟨true, false⟩ }))) (with3 [0xF0F] [0xFF] []) 0xF00)
    = true := by decide +kernel

theorem test_avg_mul :
    (bin .avg .d .d 1 2 2 && bin .avg .d .d 0xFFFFFFFD 0xFFFFFFFE 0xFFFFFFFE && bin .avg .ud .ud 0xFFFFFFFF 1 0x80000000 &&
     bin .mul .d .d 0x10000 0x10000 0 && bin .mul .d .d 0xFFFFFFFE 3 0xFFFFFFFA && bin .mul .d .w 0x8000 0x8000 0x40000000)
    = true := by decide +kernel

theorem test_cmp :
    (bin (fun o => .cmp { o with cond := .l }) .d .d 0xFFFFFFFF 0 0xFFFFFFFF &&
     bin (fun o => .cmp { o with cond := .l }) .ud .ud 0xFFFFFFFF 0 0 &&
     binFlag .cmp .l .f 0x7FC00000 0x3F800000 false && binFlag .cmp .ge .f 0x7FC00000 0x3F800000 false &&
     binFlag .cmp .z .f 0x7FC00000 0x3F800000 false && binFlag .cmp .nz .f 0x7FC00000 0x3F800000 true &&
     binFlag .cmp .z .f 0x80000000 0 true) = true := by decide +kernel

theorem test_cmpn :
    (binFlag .cmpn .l .f 0x3F800000 0x7FC00000 true && binFlag .cmpn .l .f 0x7FC00000 0x3F800000 false) = true := by
  decide +kernel

theorem test_sel :
    (bin (fun o => .sel { o with cond := .l }) .d .d 3 5 3 && bin (fun o => .sel { o with cond := .ge }) .d .d 3 5 5 &&
     bin (fun o => .sel { o with cond := .l }) .f .f 0x7FC00000 0x40000000 0x40000000 &&
     bin (fun o => .sel { o with ctl := { ctl1 with pred := .seq } }) .d .d 7 9 9) = true := by decide +kernel

theorem test_csel :
    (ter .csel .g .f 0x3F800000 0x40000000 0xBF000000 0x40000000 && ter .csel .g .f 0x3F800000 0x40000000 0x3F000000 0x3F800000)
    = true := by decide +kernel

theorem test_bit_fields :
    (un .bfrev .ud .ud 1 0x80000000 && un .bfrev .ud .ud 0xFFFF 0xFFFF0000 && ter .bfe .none .ud 8 4 0x12345678 0x67 &&
     ter .bfe .none .d 4 28 0xF0000000 0xFFFFFFFF && ter .bfe .none .ud 0 4 0x12345678 0 && bin .bfi1 .ud .ud 8 4 0xFF0 &&
     bin .bfi1 .ud .ud 0 4 0 && bin .bfi1 .ud .ud 31 1 0xFFFFFFFE && ter .bfi2 .none .ud 0xFF0 0xAB 0xFFFFFFFF 0xFFFFFABF)
    = true := by decide +kernel

theorem test_bit_counts :
    (un .lzd .ud .ud 0 32 && un .lzd .ud .ud 1 31 && un .lzd .ud .ud 0x80000000 0 && un .fbh .ud .ud 0 0xFFFFFFFF &&
     un .fbh .ud .ud 1 31 && un .fbh .ud .d 0xFFFFFFFF 0xFFFFFFFF && un .fbh .ud .d 0xFFFFFFF0 28 &&
     un .fbl .ud .ud 0 0xFFFFFFFF && un .fbl .ud .ud 8 3 && un .fbl .ud .ud 0x80000000 31 && un .cbit .ud .ub 0xFF 8 &&
     un .cbit .ud .ud 0 0 && un .cbit .ud .ud 0xF0F0F0F0 16) = true := by decide +kernel

/-- Whether the accumulator's first channel holds the carry. -/
def carries (f : TwoSrc → Instr) (a b v c : Nat) : Bool :=
  match exec (f { two .none .ud (reg 2 .ud) (.reg (reg 4 .ud)) with ctl := { ctl1 with accWr := true } }) (with3 [a] [b] []) with
  | .next s' => (s'.eu.reg 3).toNat % 2 ^ 32 == v && s'.eu.acc[0].bits.toNat == c
  | _ => false

theorem test_carries :
    (carries .addc 0xFFFFFFFF 1 0 1 && carries .addc 1 1 2 0 && carries .subb 0 1 0xFFFFFFFF 1 && carries .subb 5 3 2 0)
    = true := by decide +kernel

theorem test_rounding :
    (un .frc .f .f 0x3FE00000 0x3F400000 && un .frc .f .f 0xBFA00000 0x3F400000 && un .rndd .f .f 0xBFA00000 0xC0000000 &&
     un .rndu .f .f 0xBFA00000 0xBF800000 && un .rnde .f .f 0xBFA00000 0xBF800000 && un .rndz .f .f 0xBFA00000 0xBF800000 &&
     un .rnde .f .f 0x40200000 0x40000000 && un .rnde .f .f 0x40600000 0x40800000 && un .rnde .f .f 0xBF000000 0x80000000)
    = true := by decide +kernel

theorem test_mad : ter .mad .none .f 0x3F800000 0x40000000 0x40400000 0x40E00000 = true := by decide +kernel

/-- B5, B13: a NaN becomes 0 as an integer, +0.0 saturated. -/
theorem test_nan_converts (free : QWord) :
    toDst running.eu.floatEnv .d false free (.flt .f 0x7FC00000) = 0#64 ∧
    toDst running.eu.floatEnv .f true free (.flt .f 0x7FC00000) = 0#64 := by
  have h : saturateFloat .f free 0x7FC00000 = 0 := by
    simp only [saturateFloat, show decodeFloat .f 0x7FC00000 = .nan from by decide +kernel]
  exact ⟨rfl, by simp only [toDst, RType.fmt, if_true, h]⟩

/-- R53: the least negative double saturates to +0.0 as a single, though it would round to -0.0. -/
theorem test_saturate_before_rounding (free : QWord) :
    toDst running.eu.floatEnv .f true free (.flt .df 0x8000000000000001) = 0#64 := by
  have h : saturateFloat .df free 0x8000000000000001 = 0 := by
    simp only [saturateFloat, show decodeFloat .df 0x8000000000000001 = .fin true 1 (-1074) from by decide +kernel]
    rfl
  simp only [toDst, RType.fmt, if_true, h]
  rfl

/-- R4, R139: a remainder region may end at the last byte of r127, and not after it. -/
theorem test_remainder_region :
    (Place.grf (126 * 32 + 28)).shift 1 4 = .ok (.grf (127 * 32 + 28)) ∧
    (Place.grf (126 * 32 + 30)).shift 1 4 = .error (.refuse .outsideGrf) := by decide +kernel

/-- R537: the size and the printed default words of VEBOX_IECP_STATE, by sub-structure (C77). -/
theorem test_iecp_state :
    layoutVeboxIecpState.words = 91 ∧
    [0, 29, 42, 53, 55].map (layoutVeboxIecpState.defaultWords.getD · 0#32) =
      [0x9A6E39F0#32, 0x00000068#32, 0xDCDCDC00#32, 0x01000001#32, 0x00010000#32] := by decide +kernel

/-- B13: whatever the order of evaluation (a draw). -/
def always (l : List Nat) (v : Nat) : Bool := !l.isEmpty && l.all (· == v)

/-- Sums of a dot product of (1, 2, 3, 4) and (5, 6, 7, 8). -/
def dot (terms : FloatEnv → Fmt → QWord → (Nat → Nat) → (Nat → Nat) → List Nat) : List Nat :=
  let ts := terms running.eu.floatEnv .f 0#64 ([0x3F800000, 0x40000000, 0x40400000, 0x40800000].getD · 0)
    ([0x40A00000, 0x40C00000, 0x40E00000, 0x41000000].getD · 0)
  sumOrders running.eu.floatEnv .f 0#64 ts.length ts

theorem test_dot_products :
    (always (dot (products 4)) 0x428C0000 && always (dot (products 3)) 0x42180000 && always (dot (products 2)) 0x41880000)
    = true := by decide +kernel

theorem test_lrp_pln :
    (always (lerpResults running.eu.floatEnv 0#64 0x3E800000 0x41000000 0x40800000) 0x40A00000 &&
     always (planeResults running.eu.floatEnv .f 0#64 0x40000000 0x40400000 0x3F800000 0x3F800000 0x3F800000) 0x40C00000)
    = true := by decide +kernel

/-- The position of `jmpi` in R119's vector. -/
theorem test_step_jmpi :
    after (atIp 0x100 [] []) (word 0x00000020 0x00000000 0x0E000000 0x00000020) (fun t => t.ip == 0x130#32) = true := by
  decide +kernel

/-- R96: a scalar source inside the vector, and a destination that overlaps its source. -/
theorem test_step_regions :
    (after (atIp 0 [1, 10, 3, 4, 5, 6, 7, 8] []) (word 0x00600040 0x2060020C 0x028D0040 0x00000044)
      (fun t => t.grf[3] == row [11, 20, 13, 14, 15, 16, 17, 18]) &&
     after (atIp 0 [1, 2, 3, 4, 5, 6, 7, 8] []) (word 0x00400001 0x2044020C 0x00690040 0)
      (fun t => t.grf[2] == row [1, 1, 2, 3, 4, 6, 7, 8])) = true := by decide +kernel

/-- B8: new value and returned value. -/
def atomicVector (op old a b new ret : Nat) : Bool := intResult op 32 old a b == new && intReturn op 32 old a b == ret

theorem test_atomics :
    (atomicVector 7 0xFFFFFFFF 2 0 1 0xFFFFFFFF && atomicVector 8 0 1 0 0xFFFFFFFF 0 && atomicVector 9 3 1 0 0xFFFFFFFE 3 &&
     atomicVector 0xA 0xFFFFFFFF 1 0 1 0xFFFFFFFF && atomicVector 0xC 0xFFFFFFFF 1 0 0xFFFFFFFF 0xFFFFFFFF &&
     atomicVector 0xB 0x80000000 0x7FFFFFFF 0 0x80000000 0x80000000 &&
     atomicVector 0xD 0x80000000 0x7FFFFFFF 0 0x7FFFFFFF 0x80000000 &&
     atomicVector 1 0xF0F0F0F0 0x0FF00FF0 0 0x00F000F0 0xF0F0F0F0 && atomicVector 4 0x11111111 0x22222222 0 0x22222222 0x11111111 &&
     atomicVector 5 0xFFFFFFFF 0 0 0 0xFFFFFFFF && atomicVector 6 0 0 0 0xFFFFFFFF 0 &&
     atomicVector 0xF 0 0 0 0xFFFFFFFF 0xFFFFFFFF && atomicVector 0xE 5 5 9 9 5 && atomicVector 0xE 5 6 9 5 5 &&
     floatCompareWrite 0x80000000 0 0x3F800000 == 0x3F800000 && floatMax 0#64 0x80000000 0 == 0x80000000) = true := by
  decide +kernel

/-- B9. -/
theorem test_bounds :
    ((Space.memory 0 1024 .coherent).inside 1020 4 && !(Space.memory 0 1024 .coherent).inside 1021 4 && (Space.memory 0 1024 .coherent).inside 992 32 &&
     !(Space.memory 0 1024 .coherent).inside 1008 32 && !canonical 0x0000800000000000 && canonical 0xFFFF800000000000 &&
     !a64Inside 0x00007FFFFFFFFFF0 32) = true := by decide +kernel

/-- B10: bit 4 through the sequence, IIR, hidden bit and request after each step. -/
theorem test_interrupt_sequence :
    let pulse := fun q : Irq => (q.raise 16#32).lower 16#32
    let q2 := (pulse Irq.reset).write .imr 0#32 0xFFFFFFEF#32
    let q4 := (pulse q2).write .ier 0#32 16#32
    let q6 := pulse (pulse q4)
    let q8 := (q6.write .iir 0#32 16#32).write .iir 0#32 1#32
    let q9 := q8.write .iir 0#32 16#32
    (q2.iir == 0#32 && (pulse q2).iir == 16#32 && !(pulse q2).request && q4.request && q4.iir2 == 0#32 &&
     q6.iir == 16#32 && q6.iir2 == 16#32 && q8.iir == 16#32 && q8.iir2 == 0#32 && q8.request && q9.iir == 0#32 &&
     !q9.request) = true := by decide +kernel

/-- B11: the raster operations on F0h, CCh, AAh. -/
theorem test_raster_operations :
    ([0xCC, 0xF0, 0xAA, 0x00, 0xFF, 0x5A, 0x66, 0x88, 0xEE, 0x55].all fun rop =>
      rasterOp (BitVec.ofNat 8 rop) 0xF0 0xCC 0xAA 8 == rop) = true ∧
    pitchOf 0xFFC0#16 false = -64 ∧ pitchOf 0x40#16 true = 256 := by decide +kernel

/-- C5: the blitter after its registers are written; with a source (a draw without one), which F0h does not use. -/
def blitState : State :=
  { State.reset with
    blt := { Blitter.reset with
      br := (((((Blitter.reset.br.set 13 0x8FF00040#32).set 14 0x00020010#32).set 16 0xFF112233#32).set 9 0x00010000#32).set
        0 8#32).set 12 0x00010000#32 } }

/-- C5: the two lines of four pixels. -/
theorem test_blitter_fill :
    (match blitState.writeBr 27 0#32 [] with
     | .ok s => s.mem.map (fun c => (c.1 - 0x10000, c.2.toNat)) ==
         (List.range 16 ++ (List.range 16).map (· + 64)).map fun k => (k, [0x33, 0x22, 0x11, 0xFF].getD (k % 4) 0)
     | .error _ => false) = true := by decide +kernel

end Sys2Proof.Tests
end

section

/-! ## Descriptor control fields (R171, R190, R207 to R209, R217 to R219, R222)

For each field: the values that its rule prints as reserved stop the message, and a written mask is one of the four
that R222 lists. -/

namespace Sys2Proof.Proofs.ControlFields

open Sys2Proof.Machine

theorem dataSize_reserved {c : Nat} (h : 2 < c) : dataSize c = refuse (.messageDescriptor "DataSize") := by
  match c with
  | _ + 3 => rfl

theorem simd3_reserved {c : Nat} (h : 2 < c) : simd3 c = refuse (.messageDescriptor "SimdMode") := by
  match c with
  | _ + 3 => rfl

theorem simd2RS_reserved {c : Nat} (h : c ≠ 1) : simd2RS c = refuse (.messageDescriptor "SimdMode") := if_neg h

theorem simd2S_reserved {c : Nat} (h : c ≠ 0) : simd2S c = refuse (.messageDescriptor "SimdMode") := if_neg h

theorem simd3S_reserved {c : Nat} (h : c = 1 ∨ 2 < c) : simd3S c = refuse (.messageDescriptor "SimdMode") := by
  match c with
  | 1 => rfl
  | _ + 3 => rfl

theorem a64HwordCount_reserved {c : Nat} (h : c = 0 ∨ 4 < c) :
    a64HwordCount c = refuse (.messageDescriptor "DataBlocks") := by
  match c with
  | 0 => rfl
  | _ + 5 => rfl

theorem checkWriteMask_eq_ok {c : Nat} {u : Unit} :
    checkWriteMask c = .ok u ↔ c = 0 ∨ c = 8 ∨ c = 12 ∨ c = 14 := by
  simp [checkWriteMask, require_eq_ok, or_assoc]

/-- The four masks of R222 include a prefix of the channels. -/
theorem maskChannels_of_writeMask :
    (maskChannels 0).map (·.2) = [0, 1, 2, 3] ∧ (maskChannels 8).map (·.2) = [0, 1, 2] ∧
    (maskChannels 12).map (·.2) = [0, 1] ∧ (maskChannels 14).map (·.2) = [0] := by decide

/-- Settles O53: the listed values by computation, the reserved ones and the masks by the fields' own lemmas. -/
theorem controlFieldsSelectWhatTheyList : Obligations.ControlFieldsSelectWhatTheyList := by
  unfold Obligations.ControlFieldsSelectWhatTheyList
  refine ⟨?dataSize, ?simd2, ?fewerModes, ?simd3, ?hwords, ?writeMask⟩
  case dataSize => exact ⟨rfl, rfl, rfl, _, dataSize_reserved (by decide)⟩
  case simd2 => exact ⟨rfl, rfl, rfl, rfl, rfl, rfl⟩
  case fewerModes =>
    exact ⟨rfl, ⟨_, simd2RS_reserved (by decide)⟩, rfl, ⟨_, simd2S_reserved (by decide)⟩, rfl, rfl,
      fun _ hc => ⟨_, simd3S_reserved (by omega)⟩⟩
  case simd3 => exact ⟨rfl, rfl, rfl, _, simd3_reserved (by decide)⟩
  case hwords => exact ⟨rfl, rfl, rfl, rfl, fun _ hc => ⟨_, a64HwordCount_reserved hc⟩⟩
  case writeMask =>
    obtain ⟨all, three, two, one⟩ := maskChannels_of_writeMask
    refine ⟨all, three, two, one, fun c => ?_⟩
    simp only [checkWriteMask_eq_ok, exists_const]

end Sys2Proof.Proofs.ControlFields

end

section

/-! ## Integer atomic operations (R180 to R182)

Each operation's stored value as its table prints it, where the exact result is in range; the values returned; and the
codes that each of the three tables lists. -/

namespace Sys2Proof.Proofs.IntegerAtomics

open Sys2Proof.Machine Sys2Proof.Claims

/-! ### What is stored -/

/-- A difference modulo `m` that does not borrow is the exact one. -/
theorem add_sub_mod_of_le {m x y : Nat} (hx : x < m) (hy : y ≤ x) : (x + m - y) % m = x - y := by
  rw [Nat.sub_add_comm hy, Nat.add_mod_right, Nat.mod_eq_of_lt (by omega)]

/-- Below half the range the signed reading is the unsigned one. -/
theorem signedOf_of_lt_half {w v : Nat} (h : v < 2 ^ (w - 1)) : signedOf w v = v := by
  have hw : 2 ^ (w - 1) ≤ 2 ^ w := Nat.pow_le_pow_right (by decide) (w.sub_le 1)
  have hv : v % 2 ^ w = v := Nat.mod_eq_of_lt (by omega)
  have hcast : (v : Int) % 2 ^ w = v := by exact_mod_cast hv
  rw [signedOf, hv, if_neg (by omega), hcast]

section

variable {w old a b : Nat}

theorem intResult_inc (h : old + 1 < 2 ^ w) : intResult 0x5 w old a b = old + 1 := Nat.mod_eq_of_lt h

theorem intResult_dec (hold : old < 2 ^ w) (h : 0 < old) : intResult 0x6 w old a b = old - 1 := add_sub_mod_of_le hold h

theorem intResult_predec : intResult 0xF w old a b = intResult 0x6 w old a b := rfl

theorem intResult_add (h : old + a < 2 ^ w) : intResult 0x7 w old a b = old + a := Nat.mod_eq_of_lt h

theorem intResult_sub (hold : old < 2 ^ w) (h : a ≤ old) : intResult 0x8 w old a b = old - a := by
  simp only [intResult, Nat.mod_eq_of_lt (show a < 2 ^ w by omega), add_sub_mod_of_le hold h]

theorem intResult_revsub (ha : a < 2 ^ w) (h : old ≤ a) : intResult 0x9 w old a b = a - old := by
  simp only [intResult, Nat.mod_eq_of_lt (show old < 2 ^ w by omega), add_sub_mod_of_le ha h]

theorem intResult_imax (hold : old < 2 ^ (w - 1)) (ha : a < 2 ^ (w - 1)) : intResult 0xA w old a b = max old a := by
  simp only [intResult, signedOf_of_lt_half hold, signedOf_of_lt_half ha]
  split <;> omega

theorem intResult_imin (hold : old < 2 ^ (w - 1)) (ha : a < 2 ^ (w - 1)) : intResult 0xB w old a b = min old a := by
  simp only [intResult, signedOf_of_lt_half hold, signedOf_of_lt_half ha]
  split <;> omega

/-! ### What is returned -/

theorem intReturn_predec : intReturn 0xF w old a b = intResult 0xF w old a b := if_pos rfl

theorem intReturn_of_ne {op : Nat} (h : op ≠ 0xF) : intReturn op w old a b = old := if_neg h

end

/-! ### Which codes a table lists -/

theorem intSources_reserved {op : Nat} (h : 0xF < op) : intSources op = none := by
  match op with
  | _ + 16 => rfl

theorem sources_int_eq_ok {op n : Nat} : (Atomic.int op).sources = .ok n ↔ intSources op = some n := by
  cases h : intSources op <;> simp [Atomic.sources, h, refuse]

/-- A list of four-bit codes that agrees with `intSources` on those is the table of the operations with `n` sources. -/
theorem sources_int_eq_ok_iff_mem {n : Nat} {codes : List Nat} (bound : ∀ op ∈ codes, op < 16)
    (agree : ∀ op < 16, intSources op = some n ↔ op ∈ codes) (op : Nat) :
    (Atomic.int op).sources = .ok n ↔ op ∈ codes := by
  rw [sources_int_eq_ok]
  by_cases h : op < 16
  · exact agree op h
  · have absent : op ∉ codes := fun hmem => h (bound op hmem)
    simp [intSources_reserved (show 0xF < op by omega), absent]

/-- R182. -/
theorem sources_int_eq_zero (op : Nat) : (Atomic.int op).sources = .ok 0 ↔ op ∈ [0x5, 0x6, 0xF] :=
  sources_int_eq_ok_iff_mem (by decide) (by decide) op

/-- R180. -/
theorem sources_int_eq_one (op : Nat) :
    (Atomic.int op).sources = .ok 1 ↔ op ∈ [0x1, 0x2, 0x3, 0x4, 0x7, 0x8, 0x9, 0xA, 0xB, 0xC, 0xD] :=
  sources_int_eq_ok_iff_mem (by decide) (by decide) op

/-- R181. -/
theorem sources_int_eq_two (op : Nat) : (Atomic.int op).sources = .ok 2 ↔ op ∈ [0x0, 0xE] :=
  sources_int_eq_ok_iff_mem (by decide) (by decide) op

/-- An operation of one source is not `AOP_PREDEC`, so it returns the old value. -/
theorem intReturn_of_one_source {op : Nat} (h : (Atomic.int op).sources = .ok 1) (w old a b : Nat) :
    intReturn op w old a b = old :=
  intReturn_of_ne fun hop => absurd ((sources_int_eq_one op).mp h) (by rw [hop]; decide)

/-! ### The width of `CMPWR_2W` -/

theorem untypedLayout_double : (untypedLayout (.int 0x0)).bytes = 2 * (untypedLayout (.int 0xE)).bytes := by decide

theorem a64Layout_double (wide : Bool) : (a64Layout wide (.int 0x0)).bytes = 2 * (a64Layout wide (.int 0xE)).bytes := by
  cases wide <;> decide

/-! ### The printed tables -/

/-- Settles O52: the stored and returned values operation by operation, the codes by the tables of R182 and R181. -/
theorem atomicOperationsFollowTheirTables : Obligations.AtomicOperationsFollowTheirTables := by
  unfold Obligations.AtomicOperationsFollowTheirTables
  intro w old a b hold
  have inc : intReturn 0x5 w old a b = old := intReturn_of_ne (by decide)
  have dec : intReturn 0x6 w old a b = old := intReturn_of_ne (by decide)
  have cmpwr2 : intReturn 0x0 w old a b = old := intReturn_of_ne (by decide)
  have cmpwr : intReturn 0xE w old a b = old := intReturn_of_ne (by decide)
  have unary (op : Nat) : (Atomic.int op).sources = .ok 0 ↔ op = 0x5 ∨ op = 0x6 ∨ op = 0xF := by
    simpa using sources_int_eq_zero op
  have trinary (op : Nat) : (Atomic.int op).sources = .ok 2 ↔ op = 0x0 ∨ op = 0xE := by
    simpa using sources_int_eq_two op
  exact ⟨intResult_inc, inc, intResult_dec hold, dec, fun h => intResult_predec.trans (intResult_dec hold h),
    intReturn_predec, rfl, cmpwr2, untypedLayout_double, a64Layout_double, rfl, cmpwr, unary, trinary⟩

/-- Settles O54: the bitwise operations, the move and the unsigned maximum and minimum hold by definition; the sums,
differences and signed comparisons by their lemmas, the codes by the table of R180. -/
theorem binaryAtomicsFollowTheirTable : Obligations.BinaryAtomicsFollowTheirTable := by
  unfold Obligations.BinaryAtomicsFollowTheirTable
  intro w old a b hold ha
  refine ⟨?and, ?or, ?xor, ?mov, intResult_add, intResult_sub hold, intResult_revsub ha, ?signed, ?umax, ?umin,
    sources_int_eq_one, fun op h => intReturn_of_one_source h w old a b⟩
  case signed => exact fun hold' ha' => ⟨intResult_imax hold' ha', intResult_imin hold' ha'⟩
  all_goals rfl

end Sys2Proof.Proofs.IntegerAtomics

end

section
/-! PROOF SUPPORT. What the answers of a part of an instruction's meaning have in common, part by part; and the storing
messages: everything a shared function stores, it stores element by element through `Space.write`. -/

namespace Sys2Proof.Proofs.Stores

open Sys2Proof.Machine Sys2Proof.Claims

/-! ### Answers -/

/-- Every answer of a part has a property. -/
def Yields {α : Type} (P : α → Prop) (x : Exec α) : Prop := ∀ a, x = .ok a → P a

theorem Yields.ok {α : Type} {P : α → Prop} {a : α} (h : P a) : Yields P (.ok a) := fun _ e => Except.ok.inj e ▸ h

theorem Yields.pure {α : Type} {P : α → Prop} {a : α} (h : P a) : Yields P (Pure.pure a : Exec α) := Yields.ok h

theorem Yields.refuse {α : Type} {P : α → Prop} {r : Refusal} : Yields P (Machine.refuse r : Exec α) := by
  intro a h; cases h

/-- What follows a part whose answer may be anything. -/
theorem Yields.bind {α β : Type} {P : β → Prop} {x : Exec α} {f : α → Exec β} (h : ∀ a, Yields P (f a)) :
    Yields P (x >>= f) := by
  intro b hb
  obtain ⟨a, _, hf⟩ := Exec.bind_eq_ok.1 hb
  exact h a b hf

/-- What follows a part of whose answers something is known. -/
theorem Yields.andThen {α β : Type} {Q : α → Prop} {P : β → Prop} {x : Exec α} {f : α → Exec β} (hx : Yields Q x)
    (h : ∀ a, Q a → Yields P (f a)) : Yields P (x >>= f) := by
  intro b hb
  obtain ⟨a, ha, hf⟩ := Exec.bind_eq_ok.1 hb
  exact h a (hx a ha) b hf

theorem Yields.mono {α : Type} {P Q : α → Prop} {x : Exec α} (h : Yields P x) (i : ∀ a, P a → Q a) : Yields Q x :=
  fun a ha => i a (h a ha)

/-! ### Elements stored -/

/-- A run of `Space.write`s of elements of a kind. -/
inductive Stored (E : Element → Prop) (s : State) : State → Prop
  | refl : Stored E s s
  | write {t u : State} {sp : Space} {off n v : Nat} (h : Stored E s t) (e : E (sp, off, n))
      (w : Space.write t sp off n v = .ok u) : Stored E s u

theorem Stored.mono {E F : Element → Prop} {s t : State} (i : ∀ e, E e → F e) (h : Stored E s t) : Stored F s t := by
  induction h with
  | refl => exact .refl
  | write _ e w ih => exact ih.write (i _ e) w

/-- Stores keep the form of memory and stores. -/
theorem Stored.inv {E : Element → Prop} {s t : State} (h : Stored E s t) (hs : s.Inv) : t.Inv := by
  induction h with
  | refl => exact hs
  | write _ _ w ih => exact Space.write_inv w ih

/-- A write of an element changes graphics memory, what is remembered of its stores, and shared memory. -/
theorem Space.write_frame {s t : State} {sp : Space} {off n v : Nat} (h : Space.write s sp off n v = .ok t) :
    t = { s with mem := t.mem, stores := t.stores, groups := t.groups } := by
  rcases Space.write_cases h with rfl | ⟨_, _, _, _, _, _, rfl⟩ | ⟨u, _, _, _, rfl⟩ | ⟨_, _, _, _, rfl⟩
  · rfl
  · rfl
  · conv_lhs => rw [writeTiled_frame]
    rw [writeTiled_frame]
  · rfl

/-- Stores change graphics memory, what is remembered of them, and shared memory. -/
theorem Stored.frame {E : Element → Prop} {s t : State} (h : Stored E s t) :
    t = { s with mem := t.mem, stores := t.stores, groups := t.groups } := by
  induction h with
  | refl => rfl
  | write _ _ w ih =>
    have hw := Space.write_frame w
    rw [ih] at hw
    exact hw

/-- A store is run after others. -/
theorem Stored.runAll {α : Type} {E : Element → Prop} {s t : State} {l : List α} {f : State → α → Exec State}
    (h : runAll s l f = .ok t) (step : ∀ a ∈ l, ∀ u, Stored E s u → Yields (Stored E s) (f u a)) : Stored E s t :=
  runAll_induction (Stored E s) h .refl fun a ha u u' hu hf => step a ha u hu u' hf

theorem Stored.runSlots {α : Type} {E : Element → Prop} {s t : State} {as : List α} {l : List Nat}
    {f : State → Nat → Exec (State × α)} (h : runSlots s l f = .ok (t, as))
    (step : ∀ i ∈ l, ∀ u, Stored E s u → Yields (fun r => Stored E s r.1) (f u i)) : Stored E s t :=
  runSlots_induction (Stored E s) h .refl fun a ha u u' r hu hf => step a ha u hu (u', r) hf

/-- An element written after others. -/
theorem Stored.yields {E : Element → Prop} {s t : State} {sp : Space} {off n v : Nat} (h : Stored E s t)
    (e : E (sp, off, n)) : Yields (Stored E s) (Space.write t sp off n v) := fun _ w => h.write e w

/-- A texel's write is the write of its element. -/
theorem writeTexel_eq_write (s : State) (u : Surface) (x y r lod k : Nat) (v : BitVec 128) :
    u.writeTexel s x y r lod k v =
      Space.write s (texelElement u x y r lod k).1 (texelElement u x y r lod k).2.1 (texelElement u x y r lod k).2.2
        v.toNat := by
  by_cases h : u.ty ≠ surfNull ∧ u.contains x y r lod k = true
  · simp only [Surface.writeTexel, texelElement, if_pos h, Space.write, Nat.zero_add, Nat.le_refl, if_true, Nat.add_zero]
  · simp only [Surface.writeTexel, texelElement, if_neg h, Space.write]

/-- A byte of a media block is the write of its element. -/
theorem mediaWrite_eq_write (s : State) (u : Surface) (vlso : Nat) (x y : Int) (v : Byte) :
    mediaWrite s u vlso x y v =
      Space.write s (mediaElement u vlso x y).1 (mediaElement u vlso x y).2.1 (mediaElement u vlso x y).2.2 v.toNat := by
  by_cases h : u.ty = surfNull ∨ x < 0 ∨ x ≥ (u.rowBytes : Int) ∨ y < 0 ∨ y > (u.height : Int)
  · simp only [mediaWrite, mediaElement, if_pos h, Space.write, Exec.pure_eq]
  · simp only [mediaWrite, mediaElement, if_neg h, Space.write, Nat.zero_add, Nat.le_refl, if_true, Nat.add_zero]

/-! ### The order of the slots -/

theorem mem_of_mem_permute {α : Type} {a : α} : ∀ {n code : Nat} {l : List α}, a ∈ permute n code l → a ∈ l
  | 0, _, _, h => h
  | n + 1, code, l, h => by
    unfold permute at h
    split at h
    · exact h
    · rename_i b rest hd
      have hl : ∀ {c}, c ∈ rest ∨ c = b → c ∈ l := by
        intro c hc
        refine List.mem_of_mem_drop (i := code % l.length) ?_
        rw [hd]
        rcases hc with hc | rfl
        · exact List.mem_cons_of_mem _ hc
        · exact List.mem_cons_self
      rcases List.mem_cons.1 h with rfl | h
      · exact hl (.inr rfl)
      · rcases List.mem_append.1 (mem_of_mem_permute h) with h | h
        · exact List.mem_of_mem_take h
        · exact hl (.inl h)

/-- The slots that are performed are the active ones. -/
theorem mem_of_mem_slotSequence {s : State} {n i : Nat} {slots addrs : List Nat} (h : i ∈ slotSequence s n slots addrs) :
    i ∈ slots := by
  unfold slotSequence at h
  split at h
  · exact h
  · exact mem_of_mem_permute h

/-! ### The operations of the data ports -/

/-- A shared function's part only reads. -/
abbrev Reads (s : State) : Exec (State × Answer) → Prop := Yields fun r => r.1 = s

/-- A shared function's part stores elements of a kind. -/
abbrev Keeps (E : Element → Prop) (s : State) : Exec (State × Answer) → Prop := Yields fun r => Stored E s r.1

theorem Reads.keeps {s : State} {x : Exec (State × Answer)} {E : Element → Prop} (h : Reads s x) : Keeps E s x :=
  h.mono fun _ e => e ▸ .refl

/-- Parts that are stored one after another. -/
theorem keeps_runAll {α : Type} {E : Element → Prop} {s : State} {l : List α} {f : State → α → Exec State} {d : Answer}
    (step : ∀ a ∈ l, ∀ u, Stored E s u → Yields (Stored E s) (f u a)) :
    Keeps E s (runAll s l f >>= fun s1 => pure (s1, d)) :=
  Yields.andThen (Q := Stored E s) (fun _ h => Stored.runAll h step) fun _ h => .pure h

theorem channelRead_reads {s : State} {mode : Simd} {mask : Nat} {active : List Nat} {loc : Locator} :
    Reads s (channelRead s mode mask active loc) := .bind fun _ => .bind fun _ => .pure rfl

theorem scatteredRead_reads {s : State} {mode : Simd} {n : Nat} {active : List Nat} {loc : Locator} :
    Reads s (scatteredRead s mode n active loc) := .bind fun _ => .pure rfl

theorem elementRead_reads {s : State} {z : ElementSize} {mode : Simd} {n : Nat} {active : List Nat} {loc : Locator} :
    Reads s (elementRead s z mode n active loc) := .bind fun _ => .bind fun _ => .pure rfl

theorem blockRead_reads {s : State} {n half off : Nat} {sp : Space} : Reads s (blockRead s n half sp off) :=
  .bind fun _ => .pure rfl

theorem dualRead_reads {s : State} {n : Nat} {active : List Nat} {blk : Nat → Space × Nat} :
    Reads s (dualRead s n active blk) := .bind fun _ => .pure rfl

theorem hwordRead_reads {s : State} {m : Msg} {n off : Nat} {byDword : Bool} {sp : Space} :
    Reads s (hwordRead s m n byDword sp off) := .bind fun _ => .pure rfl

theorem typedRead_reads {s : State} {m : Msg} {u : Surface} {mode : Simd} {mask : Nat} {active : List Nat} :
    Reads s (typedRead s m u mode mask active) :=
  .bind fun _ => .bind fun _ => .bind fun _ => .bind fun _ => .pure rfl

theorem mediaRead_reads {s : State} {m : Msg} {u : Surface} {vlso w h rpc sro : Nat} {x y : Int} :
    Reads s (mediaRead s m u vlso w h rpc sro x y) := .bind fun _ => .pure rfl

theorem channelWrite_keeps {s : State} {m : Msg} {mode : Simd} {mask k : Nat} {active : List Nat} {addr : Nat → Nat}
    {loc : Locator} :
    Keeps (· ∈ channelElements mask active loc) s (channelWrite s m mode mask k active addr loc) := by
  refine .bind fun _ => .bind fun _ => keeps_runAll fun e he u hu => hu.yields ?_
  obtain ⟨i, hi, hj⟩ := List.mem_flatMap.1 he
  obtain ⟨jc, hjc, rfl⟩ := List.mem_map.1 hj
  exact List.mem_flatMap.2 ⟨i, mem_of_mem_slotSequence hi, List.mem_map.2 ⟨jc, hjc, rfl⟩⟩

theorem scatteredWrite_keeps {s : State} {m : Msg} {mode : Simd} {n k : Nat} {active : List Nat} {addr : Nat → Nat}
    {loc : Locator} :
    Keeps (· ∈ slotElements n active loc) s (scatteredWrite s m mode n k active addr loc) := by
  refine .bind fun _ => keeps_runAll fun i hi u hu => hu.yields ?_
  exact List.mem_map.2 ⟨i, mem_of_mem_slotSequence hi, rfl⟩

theorem elementWrite_keeps {s : State} {m : Msg} {z : ElementSize} {mode : Simd} {n k : Nat} {active : List Nat}
    {addr : Nat → Nat} {loc : Locator} :
    Keeps (· ∈ active.flatMap fun i => (List.range n).map fun e =>
      ((loc i (e * z.bytes) z.bytes).1, (loc i (e * z.bytes) z.bytes).2, z.bytes)) s
      (elementWrite s m z mode n k active addr loc) := by
  refine .bind fun _ => .bind fun _ => keeps_runAll fun e he u hu => hu.yields ?_
  obtain ⟨i, hi, hj⟩ := List.mem_flatMap.1 he
  obtain ⟨x, hx, rfl⟩ := List.mem_map.1 hj
  exact List.mem_flatMap.2 ⟨i, mem_of_mem_slotSequence hi, List.mem_map.2 ⟨x, hx, rfl⟩⟩

theorem atomicMessage_keeps {s : State} {m : Msg} {o : Atomic} {l : AtomLayout} {mode : Simd} {k : Nat} {returns : Bool}
    {active : List Nat} {addr : Nat → Nat} {loc : Locator} :
    Keeps (· ∈ slotElements l.bytes active loc) s (atomicMessage s m o l mode k returns active addr loc) := by
  refine .bind fun _ => .bind fun _ => .andThen (Q := fun r => Stored (· ∈ slotElements l.bytes active loc) s r.1)
    (fun r hr => Stored.runSlots hr fun i hi u hu => ?_) fun _ h => .pure h
  refine .bind fun _ => .andThen (hu.yields ?_) fun _ h => .pure h
  exact List.mem_map.2 ⟨i, mem_of_mem_slotSequence hi, rfl⟩

theorem blockWrite_keeps {s : State} {m : Msg} {n half off : Nat} {sp : Space} :
    Keeps (· ∈ (List.range n).map fun j => (sp.block off (16 * n), off + 16 * j, 16)) s
      (blockWrite s m n half sp off) :=
  .bind fun _ => keeps_runAll fun j hj _ hu => hu.yields (List.mem_map.2 ⟨j, hj, rfl⟩)

theorem dualWrite_keeps {s : State} {m : Msg} {n k : Nat} {active : List Nat} {addr : Nat → Nat}
    {blk : Nat → Space × Nat} :
    Keeps (· ∈ active.flatMap fun i => (List.range n).map fun e => ((blk i).1, (blk i).2 + 16 * e, 16)) s
      (dualWrite s m n k active addr blk) := by
  refine .bind fun _ => keeps_runAll fun e he u hu => hu.yields ?_
  obtain ⟨i, hi, hj⟩ := List.mem_flatMap.1 he
  obtain ⟨x, hx, rfl⟩ := List.mem_map.1 hj
  exact List.mem_flatMap.2 ⟨i, mem_of_mem_slotSequence hi, List.mem_map.2 ⟨x, hx, rfl⟩⟩

theorem hwordWrite_keeps {s : State} {m : Msg} {n off : Nat} {byDword : Bool} {sp : Space} :
    Keeps (· ∈ ((List.range n).flatMap fun j => (hwordDwords m byDword j).map fun d => (j, d)).map fun e =>
      (sp.block off (32 * n), off + 32 * e.1 + 4 * e.2, 4)) s (hwordWrite s m n byDword sp off) :=
  .bind fun _ => keeps_runAll fun e he _ hu => hu.yields (List.mem_map.2 ⟨e, he, rfl⟩)

theorem typedWrite_keeps {s : State} {m : Msg} {u : Surface} {mode : Simd} {mask : Nat} {active : List Nat} :
    Keeps (· ∈ active.map fun i => texelElement u (typedAt m u mode i).x (typedAt m u mode i).y (typedAt m u mode i).r
      (typedAt m u mode i).lod (typedAt m u mode i).sample) s (typedWrite s m u mode mask active) := by
  refine .bind fun _ => .bind fun _ => .bind fun _ => keeps_runAll fun i hi t ht => .bind fun old => ?_
  rw [writeTexel_eq_write]
  exact ht.yields (List.mem_map.2 ⟨i, mem_of_mem_slotSequence hi, rfl⟩)

theorem mediaStore_keeps {s : State} {m : Msg} {u : Surface} {vlso w h : Nat} {x y : Int} {keep : Nat → Nat → Bool} :
    Keeps (· ∈ (blockCells w h).map fun e => mediaElement u vlso (x + e.2) (y + e.1)) s
      (mediaStore s m u vlso w h x y keep) := by
  refine .bind fun _ => keeps_runAll fun c hc t ht => ?_
  rw [mediaWrite_eq_write]
  exact ht.yields (List.mem_map.2 ⟨c, (List.mem_filter.1 hc).1, rfl⟩)

end Sys2Proof.Proofs.Stores
end

section
/-! PROOF SUPPORT. The shared functions: which only read, and that the others store elements. -/

namespace Sys2Proof.Proofs.Stores

open Sys2Proof.Machine Sys2Proof.Claims

/-- A shared function that leaves the state as it is. -/
def Reading (h : Handler) : Prop := ∀ m s, Reads s (h m s)

/-- A shared function that stores elements and does nothing else. -/
def Storing (h : Handler) : Prop := ∀ m s, Keeps (fun _ => True) s (h m s)

theorem Reading.storing {h : Handler} (r : Reading h) : Storing h := fun m s => (r m s).keeps

theorem keeps_any {E : Element → Prop} {s : State} {x : Exec (State × Answer)} (h : Keeps E s x) :
    Keeps (fun _ => True) s x := h.mono fun _ hr => hr.mono fun _ _ => trivial

/-! ### Data port 0 and the read-only port -/

theorem owordBlockRead_reading (x : Index) (unit align : Nat) : Reading (owordBlockRead x unit align) :=
  fun _ _ => .bind fun _ => .bind fun _ => .bind fun _ => blockRead_reads

theorem owordDualRead_reading (x : Index) : Reading (owordDualRead x) :=
  fun _ _ => .bind fun _ => .bind fun _ => .bind fun _ => .bind fun _ => dualRead_reads

theorem dwordScatteredRead_reading (x : Index) : Reading (dwordScatteredRead x) :=
  fun _ _ => .bind fun _ => .bind fun _ => scatteredRead_reads

theorem byteScatteredRead_reading : Reading byteScatteredRead :=
  fun _ _ => .bind fun _ => .bind fun _ => .bind fun _ => scatteredRead_reads

theorem mediaBlockRead_reading (merged : Bool) : Reading (mediaBlockRead merged) :=
  fun _ _ => .bind fun _ => .bind fun _ => .bind fun _ => .bind fun _ => .bind fun _ => .bind fun _ => .bind fun _ =>
    .bind fun _ => .bind fun _ => mediaRead_reads

theorem readSurfaceInfo_reading : Reading readSurfaceInfo :=
  fun _ _ => .bind fun _ => .bind fun _ => .bind fun _ => .pure rfl

theorem readOnlyPort_reading : Reading readOnlyPort := by
  intro m s
  unfold readOnlyPort
  split
  · exact owordBlockRead_reading _ _ _ m s
  · exact owordBlockRead_reading _ _ _ m s
  · exact owordDualRead_reading _ m s
  · exact dwordScatteredRead_reading _ m s
  · exact owordBlockRead_reading _ _ _ m s
  · exact mediaBlockRead_reading _ m s
  · exact readSurfaceInfo_reading m s
  · exact .refuse

theorem owordBlockWrite_storing (unit align : Nat) : Storing (owordBlockWrite unit align) :=
  fun _ _ => .bind fun _ => .bind fun _ => keeps_any blockWrite_keeps

theorem owordDualWrite_storing : Storing owordDualWrite :=
  fun _ _ => .bind fun _ => .bind fun _ => keeps_any dualWrite_keeps

theorem dwordScatteredWrite_storing : Storing dwordScatteredWrite :=
  fun _ _ => .bind fun _ => keeps_any scatteredWrite_keeps

theorem byteScatteredWrite_storing : Storing byteScatteredWrite :=
  fun _ _ => .bind fun _ => .bind fun _ => keeps_any scatteredWrite_keeps

theorem scratchBlock_storing : Storing scratchBlock :=
  fun _ _ => .bind fun _ => .bind fun _ => .bind fun _ => by
    dsimp only
    split
    · exact keeps_any hwordWrite_keeps
    · exact hwordRead_reads.keeps

/-! ### Data port 1 -/

theorem untypedRead_reading : Reading untypedRead :=
  fun _ _ => .bind fun _ => .bind fun _ => .bind fun _ => .bind fun _ => channelRead_reads

theorem untypedWrite_storing : Storing untypedWrite :=
  fun _ _ => .bind fun _ => .bind fun _ => .bind fun _ => keeps_any channelWrite_keeps

theorem untypedAtomic_storing (o : Msg → Atomic) (mode : Msg → Simd) : Storing (untypedAtomic o mode) :=
  fun _ _ => .bind fun _ => .bind fun _ => keeps_any atomicMessage_keeps

theorem typedReadMessage_reading : Reading typedReadMessage :=
  fun _ _ => .bind fun _ => .bind fun _ => typedRead_reads

theorem typedWriteMessage_storing : Storing typedWriteMessage :=
  fun _ _ => .bind fun _ => .bind fun _ => keeps_any typedWrite_keeps

theorem counterAtomic_keeps {s : State} {m : Msg} {u : Surface} {op : Nat} {mode : Simd} {returns : Bool} {active : List Nat} :
    Keeps (· ∈ slotElements (untypedLayout (.int op)).bytes active fun _ d _ =>
      (if u.ty = surfNull then .zero else .memory (Machine.counterAddress u) 8 u.coherency, d)) s
      (counterAtomic s m u op mode returns active) := by
  have e : untypedLayout (.int op) = if op = 0 then AtomLayout.split else AtomLayout.dword := by
    simp only [untypedLayout, Atomic.int.injEq]
  rw [e]
  exact atomicMessage_keeps

theorem typedAtomic_keeps {s : State} {m : Msg} {u : Surface} {op : Nat} {mode : Simd} {returns : Bool} {active : List Nat} :
    Keeps (· ∈ slotElements (untypedLayout (.int op)).bytes active (typedLocator m u mode)) s
      (typedAtomic s m u op mode returns active) := by
  have e : untypedLayout (.int op) = if op = 0 then AtomLayout.split else AtomLayout.dword := by
    simp only [untypedLayout, Atomic.int.injEq]
  rw [e]
  exact .bind fun _ => atomicMessage_keeps

theorem typedAtomicMessage_storing (mode : Simd) (counter : Bool) : Storing (typedAtomicMessage mode counter) :=
  fun _ _ => .bind fun _ => by
    dsimp only
    split
    · exact keeps_any counterAtomic_keeps
    · exact .bind fun _ => keeps_any typedAtomic_keeps

theorem transposeRead_reading : Reading transposeRead :=
  fun _ _ => .bind fun _ => .bind fun _ => .bind fun _ => .bind fun _ => .pure rfl

theorem mediaBlockWrite_storing : Storing mediaBlockWrite :=
  fun _ _ => .bind fun _ => .bind fun _ => by
    dsimp only
    split
    · exact .bind fun _ => .bind fun _ => keeps_any mediaStore_keeps
    · exact .bind fun _ => .bind fun _ => keeps_any mediaStore_keeps
    · exact .bind fun _ => .bind fun _ => keeps_any mediaStore_keeps
    · exact .refuse

theorem a64ScatteredRead_reading : Reading a64ScatteredRead :=
  fun _ _ => .bind fun _ => .bind fun _ => .bind fun _ => elementRead_reads

theorem a64ScatteredWrite_storing : Storing a64ScatteredWrite :=
  fun _ _ => .bind fun _ => .bind fun _ => keeps_any elementWrite_keeps

theorem a64UntypedRead_reading : Reading a64UntypedRead :=
  fun _ _ => .bind fun _ => .bind fun _ => .bind fun _ => .bind fun _ => channelRead_reads

theorem a64UntypedWrite_storing : Storing a64UntypedWrite :=
  fun _ _ => .bind fun _ => .bind fun _ => .bind fun _ => keeps_any channelWrite_keeps

theorem a64Atomic_storing (o : Msg → Atomic) (mode : Simd) (wide : Msg → Bool) : Storing (a64Atomic o mode wide) :=
  fun _ _ => .bind fun _ => .bind fun _ => keeps_any atomicMessage_keeps

theorem a64BlockRead_reading : Reading a64BlockRead :=
  fun _ _ => .bind fun _ => by
    dsimp only
    split
    · exact .bind fun _ => .bind fun _ => blockRead_reads
    · exact .bind fun _ => .bind fun _ => blockRead_reads
    · exact .bind fun _ => .bind fun _ => dualRead_reads
    · exact .bind fun _ => .bind fun _ => hwordRead_reads

theorem a64BlockWrite_storing : Storing a64BlockWrite :=
  fun _ _ => .bind fun _ => by
    dsimp only
    split
    · exact .bind fun _ => .bind fun _ => keeps_any blockWrite_keeps
    · exact .bind fun _ => .bind fun _ => keeps_any blockWrite_keeps
    · exact .bind fun _ => .bind fun _ => keeps_any dualWrite_keeps
    · exact .bind fun _ => .bind fun _ => keeps_any hwordWrite_keeps

theorem dataPort1_storing : Storing dataPort1 := by
  intro m s
  unfold dataPort1
  split
  · exact transposeRead_reading.storing m s
  · exact untypedRead_reading.storing m s
  · exact untypedAtomic_storing _ _ m s
  · exact untypedAtomic_storing _ _ m s
  · exact (mediaBlockRead_reading true).storing m s
  · exact typedReadMessage_reading.storing m s
  · exact typedAtomicMessage_storing _ _ m s
  · exact typedAtomicMessage_storing _ _ m s
  · exact untypedWrite_storing m s
  · exact mediaBlockWrite_storing m s
  · exact typedAtomicMessage_storing _ _ m s
  · exact typedAtomicMessage_storing _ _ m s
  · exact typedWriteMessage_storing m s
  · exact a64ScatteredRead_reading.storing m s
  · exact a64UntypedRead_reading.storing m s
  · exact a64Atomic_storing _ _ _ m s
  · exact a64Atomic_storing _ _ _ m s
  · exact a64BlockRead_reading.storing m s
  · exact a64BlockWrite_storing m s
  · exact a64UntypedWrite_storing m s
  · exact a64ScatteredWrite_storing m s
  · exact untypedAtomic_storing _ _ m s
  · exact untypedAtomic_storing _ _ m s
  · exact a64Atomic_storing _ _ _ m s
  · exact a64Atomic_storing _ _ _ m s
  · exact .refuse

/-! ### Data port 2 -/

theorem scaledUntypedRead_reading : Reading scaledUntypedRead :=
  fun _ _ => .bind fun _ => .bind fun _ => .bind fun _ => .bind fun _ => channelRead_reads

theorem scaledUntypedWrite_storing : Storing scaledUntypedWrite :=
  fun _ _ => .bind fun _ => .bind fun _ => .bind fun _ => .bind fun _ => keeps_any channelWrite_keeps

theorem scaledByteRead_reading : Reading scaledByteRead :=
  fun _ _ => .bind fun _ => .bind fun _ => .bind fun _ => scatteredRead_reads

theorem scaledByteWrite_storing : Storing scaledByteWrite :=
  fun _ _ => .bind fun _ => .bind fun _ => .bind fun _ => keeps_any scatteredWrite_keeps

theorem scaledA64UntypedRead_reading : Reading scaledA64UntypedRead :=
  fun _ _ => .bind fun _ => .bind fun _ => .bind fun _ => .bind fun _ => channelRead_reads

theorem scaledA64UntypedWrite_storing : Storing scaledA64UntypedWrite :=
  fun _ _ => .bind fun _ => .bind fun _ => .bind fun _ => keeps_any channelWrite_keeps

theorem scaledA64ScatteredRead_reading : Reading scaledA64ScatteredRead :=
  fun _ _ => .bind fun _ => .bind fun _ => .bind fun _ => elementRead_reads

theorem scaledA64ScatteredWrite_storing : Storing scaledA64ScatteredWrite :=
  fun _ _ => .bind fun _ => .bind fun _ => keeps_any elementWrite_keeps

theorem dataPort2_storing : Storing dataPort2 := by
  intro m s
  unfold dataPort2
  split
  · exact scaledUntypedRead_reading.storing m s
  · exact scaledA64ScatteredRead_reading.storing m s
  · exact scaledA64UntypedRead_reading.storing m s
  · exact scaledByteRead_reading.storing m s
  · exact scaledUntypedWrite_storing m s
  · exact scaledA64UntypedWrite_storing m s
  · exact scaledA64ScatteredWrite_storing m s
  · exact scaledByteWrite_storing m s
  · exact .refuse

/-! ### Render targets -/

/-- A sample stored is the write of its texel. -/
theorem rtStore_yields {color : Nat} {s t : State} {u : Surface} {m : Msg} {r : RtMessage} {i k : Nat} {E : Element → Prop}
    (h : Stored E s t)
    (e : E (texelElement u
      (rtCoords u (rtPosition t m r.group (r.kind.pixel i)).1 (rtPosition t m r.group (r.kind.pixel i)).2
        (rtArrayIndex u m.rtControl)).1
      (rtCoords u (rtPosition t m r.group (r.kind.pixel i)).1 (rtPosition t m r.group (r.kind.pixel i)).2
        (rtArrayIndex u m.rtControl)).2.1
      (rtCoords u (rtPosition t m r.group (r.kind.pixel i)).1 (rtPosition t m r.group (r.kind.pixel i)).2
        (rtArrayIndex u m.rtControl)).2.2 u.mip k)) :
    Yields (Stored E s) (rtStore color t u m r i k) := by
  unfold rtStore
  refine .bind fun old => ?_
  rw [writeTexel_eq_write]
  exact h.yields e

/-- Once its message, surface and enables are known, a render target write stores the samples' texels. -/
theorem renderTargetWrite_samples {s : State} {m : Msg} {r : RtMessage} {u : Surface} {en : BitVec 16}
    (hr : rtMessage m = .ok r) (hu : rtSurface s m = .ok u) (he : rtEnables s m r.group = .ok en) :
    Keeps (· ∈ (renderSamples s m u r en).map fun e =>
        let p := rtPosition s m r.group (r.kind.pixel e.1)
        let at_ := rtCoords u p.1 p.2 (rtArrayIndex u m.rtControl)
        texelElement u at_.1 at_.2.1 at_.2.2 u.mip e.2) s (renderTargetWrite m s) := by
  unfold renderTargetWrite
  rw [hr, Exec.ok_bind, hu, Exec.ok_bind]
  refine .bind fun _ => .bind fun _ => .bind fun _ => .bind fun _ => ?_
  rw [he, Exec.ok_bind]
  refine .bind fun color => keeps_runAll fun e hm t ht => ?_
  have htid : t.eu = s.eu := by rw [ht.frame]
  refine rtStore_yields ht ?_
  have hp : rtPosition t m r.group (r.kind.pixel e.1) = rtPosition s m r.group (r.kind.pixel e.1) := by
    unfold rtPosition; rw [htid]
  rw [hp]
  exact List.mem_map.2 ⟨e, hm, rfl⟩

theorem renderTargetWrite_storing : Storing renderTargetWrite := by
  intro m s r hr
  have h := hr
  simp only [renderTargetWrite, Exec.bind_eq_ok] at h
  obtain ⟨k, hk, u, hu, _, _, _, _, _, _, _, _, en, he, _⟩ := h
  exact keeps_any (renderTargetWrite_samples hk hu he) r hr

theorem renderTargetRead_reading : Reading renderTargetRead :=
  fun _ _ => .bind fun _ => .bind fun _ => .bind fun _ => .bind fun _ => .bind fun _ => .bind fun _ => .pure rfl

theorem renderCache_storing : Storing renderCache := by
  intro m s
  unfold renderCache
  split
  · exact renderTargetWrite_storing m s
  · exact renderTargetRead_reading.storing m s
  · exact .refuse

/-! ### The other shared functions -/

theorem nullFunction_reading : Reading nullFunction := fun _ _ => .ok rfl

theorem openFunction_reading : Reading openFunction := fun _ _ => .ok rfl

theorem motionEstimation_reading : Reading motionEstimation := by
  intro m s
  unfold motionEstimation
  split
  · exact .bind fun _ => .bind fun _ => openFunction_reading m s
  · exact openFunction_reading m s

theorem samplingEngine_reading : Reading samplingEngine := fun _ _ => .bind fun _ => .pure rfl

end Sys2Proof.Proofs.Stores
end

section
/-! PROOF SUPPORT. What a message can do to the machine: by its shared function, and by the end of its issue. -/

namespace Sys2Proof.Proofs.Messages

open Sys2Proof.Machine Sys2Proof.Claims Sys2Proof.Proofs.Stores

/-! ### The shared functions' effect -/

/-- What of another thread a message leaves alone. -/
def kept (t : Thread) : Nat × Vector HWord 128 × Vector DWord 2 × Vector AccChannel 32 × DWord × Vector DWord 3 :=
  (t.tid, t.grf, t.flag, t.acc, t.ip, t.cr0)

/-- What a shared function can do, the unified return buffer and the thread spawner's part only if it is the one. -/
structure Effect (urb spawner : Prop) (s t : State) : Prop where
  frame : t = { s with
    eu := { s.eu with n0 := t.eu.n0, urbHandle := t.eu.urbHandle }
    parked := t.parked, groups := t.groups, mem := t.mem, urb := t.urb, stores := t.stores
    media := { s.media with spawns := t.media.spawns } }
  parked : t.parked.map kept = s.parked.map kept
  inv : s.Inv → t.Inv
  urbKept : t.urb = s.urb ∨ urb
  spawnerKept : (t.media.spawns = s.media.spawns ∧ t.eu.urbHandle = s.eu.urbHandle) ∨ spawner

theorem Effect.mono {u v u' v' : Prop} {s t : State} (h : Effect u v s t) (hu : u → u') (hv : v → v') :
    Effect u' v' s t :=
  ⟨h.frame, h.parked, h.inv, h.urbKept.imp_right hu, h.spawnerKept.imp_right hv⟩

theorem Effect.of_stored {E : Element → Prop} {u v : Prop} {s t : State} (h : Stored E s t) : Effect u v s t := by
  have hi := h.inv
  rw [h.frame] at hi ⊢
  exact ⟨rfl, rfl, hi, .inl rfl, .inl ⟨rfl, rfl⟩⟩

/-- A shared function whose answers have an effect. -/
def Acts (u v : Prop) (h : Handler) (m : Msg) : Prop := ∀ s, Yields (fun r => Effect u v s r.1) (h m s)

theorem Storing.acts {u v : Prop} {h : Handler} (hs : Storing h) (m : Msg) : Acts u v h m :=
  fun s => (hs m s).mono fun _ => Effect.of_stored

theorem Reading.acts {u v : Prop} {h : Handler} (hr : Reading h) (m : Msg) : Acts u v h m := Storing.acts hr.storing m

/-- The fence changes only what is remembered of the stores. -/
theorem memoryFence_acts {u v : Prop} (m : Msg) : Acts u v memoryFence m :=
  fun _ => .ok ⟨rfl, rfl, id, .inl rfl, .inl ⟨rfl, rfl⟩⟩

theorem kept_notifyGroup (g : Option Nat) (t : Thread) : kept (t.notifyGroup g) = kept t := by
  unfold Thread.notifyGroup
  split <;> rfl

/-- An arrival changes counts only. -/
theorem arrive_effect {u v : Prop} (s : State) : Effect u v s s.arrive := by
  unfold State.arrive
  split
  · exact .of_stored (E := fun _ => True) .refl
  · split
    · exact .of_stored (E := fun _ => True) .refl
    · dsimp only
      have slms (f : Group → Group) (hf : ∀ g, (f g).slm = g.slm) (h : ∀ g ∈ s.groups, Store.wf g.slm = true) :
          ∀ g ∈ s.groups.map f, Store.wf g.slm = true := by
        intro g hg
        obtain ⟨g', hg', rfl⟩ := List.mem_map.1 hg
        exact hf g' ▸ h g' hg'
      split
      · refine ⟨?_, ?_, fun ⟨hm, hu, hg⟩ => ⟨hm, hu, slms _ (fun g => ?_) hg⟩, .inl rfl, .inl ⟨rfl, ?_⟩⟩
        · simp only [Thread.notifyGroup]
          split <;> rfl
        · rw [List.map_map]
          exact List.map_congr_left fun t _ => kept_notifyGroup _ t
        · split <;> rfl
        · simp only [Thread.notifyGroup]
          split <;> rfl
      · exact ⟨rfl, rfl, fun ⟨hm, hu, hg⟩ => ⟨hm, hu, slms _ (fun g => by split <;> rfl) hg⟩, .inl rfl, .inl ⟨rfl, rfl⟩⟩

theorem gateway_acts {u v : Prop} (m : Msg) : Acts u v gateway m := by
  intro s
  refine .ok ?_
  dsimp only
  split
  · exact arrive_effect s
  · exact .of_stored (E := fun _ => True) .refl

theorem wf_urbWriteHalf {m : Msg} {u : Store} {n h : Nat} {r : HWord} (hu : Store.wf u = true) :
    Store.wf (urbWriteHalf m u n h r) = true := by
  unfold urbWriteHalf
  split
  · exact Store.wf_writeLE hu
  · exact hu

theorem wf_urbWrite {m : Msg} : ∀ {l : List HWord} {u : Store} {n : Nat}, Store.wf u = true →
    Store.wf (urbWrite m u n l) = true
  | [], _, _, h => h
  | r :: l, u, n, h => by
    unfold urbWrite
    exact wf_urbWrite (wf_urbWriteHalf (wf_urbWriteHalf h))

theorem urbFunction_acts {u v : Prop} (hu : u) (m : Msg) : Acts u v urbFunction m := by
  intro s
  unfold urbFunction
  split
  · exact .ok ⟨rfl, rfl, fun ⟨hm, hu, hg⟩ => ⟨hm, wf_urbWrite hu, hg⟩, .inr hu, .inl ⟨rfl, rfl⟩⟩
  · exact .ok (.of_stored (E := fun _ => True) .refl)

theorem dereferenceResource_acts {u v : Prop} (hv : v) (m : Msg) : Acts u v dereferenceResource m :=
  fun _ => .bind fun _ => .bind fun _ => .bind fun _ => .pure ⟨rfl, rfl, id, .inl rfl, .inr hv⟩

theorem spawnThread_acts {u v : Prop} (hv : v) (m : Msg) : Acts u v spawnThread m :=
  fun _ => .bind fun _ => .bind fun _ => .pure ⟨rfl, rfl, id, .inl rfl, .inr hv⟩

theorem threadSpawner_acts {u v : Prop} (hv : v) (m : Msg) : Acts u v threadSpawner m := by
  intro s
  unfold threadSpawner
  split
  · exact spawnThread_acts hv m s
  · exact dereferenceResource_acts hv m s

theorem dataPort0_acts {u v : Prop} (m : Msg) : Acts u v dataPort0 m := by
  intro s
  unfold dataPort0
  split
  · exact Storing.acts scratchBlock_storing m s
  · split
    · exact Reading.acts (owordBlockRead_reading _ _ _) m s
    · exact Reading.acts (owordBlockRead_reading _ _ _) m s
    · exact Reading.acts (owordDualRead_reading _) m s
    · exact Reading.acts (dwordScatteredRead_reading _) m s
    · exact Reading.acts byteScatteredRead_reading m s
    · exact memoryFence_acts m s
    · exact Storing.acts (owordBlockWrite_storing _ _) m s
    · exact Storing.acts owordDualWrite_storing m s
    · exact Storing.acts dwordScatteredWrite_storing m s
    · exact Storing.acts byteScatteredWrite_storing m s
    · exact .refuse

/-- A send's shared function acts as the one its descriptor names. -/
theorem sharedFunction_acts (m : Msg) : Acts (m.sfid = .urb) (m.sfid = .spawner) sharedFunction m := by
  intro s
  unfold sharedFunction
  split
  · exact Reading.acts nullFunction_reading m s
  · exact Reading.acts samplingEngine_reading m s
  · exact Reading.acts motionEstimation_reading m s
  · exact Reading.acts openFunction_reading m s
  · exact Reading.acts openFunction_reading m s
  · exact gateway_acts m s
  · exact Storing.acts dataPort2_storing m s
  · exact Storing.acts renderCache_storing m s
  · rename_i h
    exact urbFunction_acts h m s
  · rename_i h
    exact threadSpawner_acts h m s
  · exact Reading.acts readOnlyPort_reading m s
  · exact dataPort0_acts m s
  · exact Storing.acts dataPort1_storing m s

/-! ### The sends and their shared functions -/

/-- The send an instruction is, and its shared function. -/
def handlerOf : Instr → Option (SendForm × Handler)
  | .send o => some (.plain false o, sharedFunction)
  | .sendc o => some (.plain true o, sharedFunction)
  | .sends o => some (.split false o, sharedFunction)
  | .sendsc o => some (.split true o, sharedFunction)
  | .sfidNull f => some (f, nullFunction)
  | .sfidSampler f => some (f, samplingEngine)
  | .sfidGateway f => some (f, gateway)
  | .sfidDp2 f => some (f, dataPort2)
  | .sfidRenderCache f => some (f, renderCache)
  | .sfidUrb f => some (f, urbFunction)
  | .sfidSpawner f => some (f, threadSpawner)
  | .sfidVme f => some (f, motionEstimation)
  | .sfidReadOnly f => some (f, readOnlyPort)
  | .sfidDp0 f => some (f, dataPort0)
  | .sfidPixelInterp f => some (f, openFunction)
  | .sfidDp1 f => some (f, dataPort1)
  | .sfidCre f => some (f, openFunction)
  | .mt0rB f => some (f, owordBlockRead .shared 16 1)
  | .mt0rAb f => some (f, owordBlockRead .shared 1 4)
  | .mt0rOwdb f => some (f, owordDualRead .shared)
  | .mt0rDws f => some (f, dwordScatteredRead .shared)
  | .mt0rBs f => some (f, byteScatteredRead)
  | .mt0Memfence f => some (f, memoryFence)
  | .mt0wB f => some (f, owordBlockWrite 16 1)
  | .mt0wOwdb f => some (f, owordDualWrite)
  | .mt0wDws f => some (f, dwordScatteredWrite)
  | .mt0wBs f => some (f, byteScatteredWrite)
  | .mt1rT f => some (f, transposeRead)
  | .mt1rUs f => some (f, untypedRead)
  | .mt1aUi f => some (f, untypedAtomic intOp reversedMode)
  | .mt1aUi4x2 f => some (f, untypedAtomic intOp fourByTwo)
  | .mt1rMb f => some (f, mediaBlockRead true)
  | .mt1rTs f => some (f, typedReadMessage)
  | .mt1aTa f => some (f, typedAtomicMessage .s8 false)
  | .mt1aTa4x2 f => some (f, typedAtomicMessage .s4x2 false)
  | .mt1wUs f => some (f, untypedWrite)
  | .mt1wMb f => some (f, mediaBlockWrite)
  | .mt1aTc f => some (f, typedAtomicMessage .s8 true)
  | .mt1aTc4x2 f => some (f, typedAtomicMessage .s4x2 true)
  | .mt1wTs f => some (f, typedWriteMessage)
  | .mt1rA64Sb f => some (f, a64ScatteredRead)
  | .mt1rA64Us f => some (f, a64UntypedRead)
  | .mt1aA64Ui f => some (f, a64Atomic intOp .s8 wideData)
  | .mt1aA64Ui4x2 f => some (f, a64Atomic intOp .s4x2 wideData)
  | .mt1rA64B f => some (f, a64BlockRead)
  | .mt1wA64B f => some (f, a64BlockWrite)
  | .mt1wA64Us f => some (f, a64UntypedWrite)
  | .mt1wA64Sb f => some (f, a64ScatteredWrite)
  | .mt1aUf f => some (f, untypedAtomic floatOp reversedMode)
  | .mt1aUf4x2 f => some (f, untypedAtomic floatOp fourByTwo)
  | .mt1aA64Uf f => some (f, a64Atomic floatOp .s8 narrowData)
  | .mt1aA64Uf4x2 f => some (f, a64Atomic floatOp .s4x2 narrowData)
  | .mt2rUs f => some (f, scaledUntypedRead)
  | .mt2rA64Sb f => some (f, scaledA64ScatteredRead)
  | .mt2rA64Us f => some (f, scaledA64UntypedRead)
  | .mt2rBs f => some (f, scaledByteRead)
  | .mt2wUs f => some (f, scaledUntypedWrite)
  | .mt2wA64Us f => some (f, scaledA64UntypedWrite)
  | .mt2wA64Sb f => some (f, scaledA64ScatteredWrite)
  | .mt2wBs f => some (f, scaledByteWrite)
  | .mtCcOwb f => some (f, owordBlockRead .stateless 16 1)
  | .mtCcOwub f => some (f, owordBlockRead .stateless 1 4)
  | .mtCcOwdb f => some (f, owordDualRead .stateless)
  | .mtCcDws f => some (f, dwordScatteredRead .stateless)
  | .mtScOwub f => some (f, owordBlockRead .stateless 1 4)
  | .mtScMb f => some (f, mediaBlockRead false)
  | .mtRsi f => some (f, readSurfaceInfo)
  | .mtRtw f => some (f, renderTargetWrite)
  | .mtRtr f => some (f, renderTargetRead)
  | .mtRtwSimd16 f => some (f, renderTargetWrite)
  | .mtRtwSimd16Repdata f => some (f, renderTargetWrite)
  | .mtRtwSimd8DualsrcLo f => some (f, renderTargetWrite)
  | .mtRtwSimd8DualsrcHi f => some (f, renderTargetWrite)
  | .mtRtwSimd8Lo f => some (f, renderTargetWrite)
  | .mtRtwSimd16RepdataTm f => some (f, renderTargetWrite)
  | .tsDereference f => some (f, dereferenceResource)
  | .tsSpawn f => some (f, spawnThread)
  | _ => none

/-- A send is the issue of its message. -/
theorem exec_of_handlerOf {i : Instr} {f : SendForm} {h : Handler} (e : handlerOf i = some (f, h)) (s : State) :
    exec i s = (issueMessage f h s).outcome := by
  cases i <;> cases e <;> rfl

/-- Every send has a shared function. -/
theorem handlerOf_of_shape {i : Instr} {f : SendForm} (e : i.shape = .send f) : ∃ h, handlerOf i = some (f, h) := by
  cases i <;> cases e <;> exact ⟨_, rfl⟩

/-- What the shared function of a send can do, the unified return buffer's and the thread spawner's parts only in theirs. -/
theorem handlerOf_acts {i : Instr} {f : SendForm} {h : Handler} (e : handlerOf i = some (f, h)) (m : Msg)
    (hm : m.sfid = f.sfid) :
    Acts (f.sfid = .urb ∨ i = .sfidUrb f) (f.sfid = .spawner ∨ i = .sfidSpawner f ∨ i = .tsSpawn f ∨ i = .tsDereference f)
      h m := by
  have shared : Acts (f.sfid = .urb ∨ i = .sfidUrb f)
      (f.sfid = .spawner ∨ i = .sfidSpawner f ∨ i = .tsSpawn f ∨ i = .tsDereference f) sharedFunction m :=
    fun s => (sharedFunction_acts m s).mono fun _ ha => ha.mono (fun x => .inl (hm ▸ x)) fun x => .inl (hm ▸ x)
  cases i with
  | send => cases e; exact shared
  | sendc => cases e; exact shared
  | sends => cases e; exact shared
  | sendsc => cases e; exact shared
  | sfidNull => cases e; exact Reading.acts nullFunction_reading m
  | sfidSampler => cases e; exact Reading.acts samplingEngine_reading m
  | sfidGateway => cases e; exact gateway_acts m
  | sfidDp2 => cases e; exact Storing.acts dataPort2_storing m
  | sfidRenderCache => cases e; exact Storing.acts renderCache_storing m
  | sfidUrb => cases e; exact urbFunction_acts (.inr rfl) m
  | sfidSpawner => cases e; exact threadSpawner_acts (.inr (.inl rfl)) m
  | sfidVme => cases e; exact Reading.acts motionEstimation_reading m
  | sfidReadOnly => cases e; exact Reading.acts readOnlyPort_reading m
  | sfidDp0 => cases e; exact dataPort0_acts m
  | sfidPixelInterp => cases e; exact Reading.acts openFunction_reading m
  | sfidDp1 => cases e; exact Storing.acts dataPort1_storing m
  | sfidCre => cases e; exact Reading.acts openFunction_reading m
  | mt0rB => cases e; exact Reading.acts (owordBlockRead_reading _ _ _) m
  | mt0rAb => cases e; exact Reading.acts (owordBlockRead_reading _ _ _) m
  | mt0rOwdb => cases e; exact Reading.acts (owordDualRead_reading _) m
  | mt0rDws => cases e; exact Reading.acts (dwordScatteredRead_reading _) m
  | mt0rBs => cases e; exact Reading.acts byteScatteredRead_reading m
  | mt0Memfence => cases e; exact memoryFence_acts m
  | mt0wB => cases e; exact Storing.acts (owordBlockWrite_storing _ _) m
  | mt0wOwdb => cases e; exact Storing.acts owordDualWrite_storing m
  | mt0wDws => cases e; exact Storing.acts dwordScatteredWrite_storing m
  | mt0wBs => cases e; exact Storing.acts byteScatteredWrite_storing m
  | mt1rT => cases e; exact Reading.acts transposeRead_reading m
  | mt1rUs => cases e; exact Reading.acts untypedRead_reading m
  | mt1aUi => cases e; exact Storing.acts (untypedAtomic_storing _ _) m
  | mt1aUi4x2 => cases e; exact Storing.acts (untypedAtomic_storing _ _) m
  | mt1rMb => cases e; exact Reading.acts (mediaBlockRead_reading _) m
  | mt1rTs => cases e; exact Reading.acts typedReadMessage_reading m
  | mt1aTa => cases e; exact Storing.acts (typedAtomicMessage_storing _ _) m
  | mt1aTa4x2 => cases e; exact Storing.acts (typedAtomicMessage_storing _ _) m
  | mt1wUs => cases e; exact Storing.acts untypedWrite_storing m
  | mt1wMb => cases e; exact Storing.acts mediaBlockWrite_storing m
  | mt1aTc => cases e; exact Storing.acts (typedAtomicMessage_storing _ _) m
  | mt1aTc4x2 => cases e; exact Storing.acts (typedAtomicMessage_storing _ _) m
  | mt1wTs => cases e; exact Storing.acts typedWriteMessage_storing m
  | mt1rA64Sb => cases e; exact Reading.acts a64ScatteredRead_reading m
  | mt1rA64Us => cases e; exact Reading.acts a64UntypedRead_reading m
  | mt1aA64Ui => cases e; exact Storing.acts (a64Atomic_storing _ _ _) m
  | mt1aA64Ui4x2 => cases e; exact Storing.acts (a64Atomic_storing _ _ _) m
  | mt1rA64B => cases e; exact Reading.acts a64BlockRead_reading m
  | mt1wA64B => cases e; exact Storing.acts a64BlockWrite_storing m
  | mt1wA64Us => cases e; exact Storing.acts a64UntypedWrite_storing m
  | mt1wA64Sb => cases e; exact Storing.acts a64ScatteredWrite_storing m
  | mt1aUf => cases e; exact Storing.acts (untypedAtomic_storing _ _) m
  | mt1aUf4x2 => cases e; exact Storing.acts (untypedAtomic_storing _ _) m
  | mt1aA64Uf => cases e; exact Storing.acts (a64Atomic_storing _ _ _) m
  | mt1aA64Uf4x2 => cases e; exact Storing.acts (a64Atomic_storing _ _ _) m
  | mt2rUs => cases e; exact Reading.acts scaledUntypedRead_reading m
  | mt2rA64Sb => cases e; exact Reading.acts scaledA64ScatteredRead_reading m
  | mt2rA64Us => cases e; exact Reading.acts scaledA64UntypedRead_reading m
  | mt2rBs => cases e; exact Reading.acts scaledByteRead_reading m
  | mt2wUs => cases e; exact Storing.acts scaledUntypedWrite_storing m
  | mt2wA64Us => cases e; exact Storing.acts scaledA64UntypedWrite_storing m
  | mt2wA64Sb => cases e; exact Storing.acts scaledA64ScatteredWrite_storing m
  | mt2wBs => cases e; exact Storing.acts scaledByteWrite_storing m
  | mtCcOwb => cases e; exact Reading.acts (owordBlockRead_reading _ _ _) m
  | mtCcOwub => cases e; exact Reading.acts (owordBlockRead_reading _ _ _) m
  | mtCcOwdb => cases e; exact Reading.acts (owordDualRead_reading _) m
  | mtCcDws => cases e; exact Reading.acts (dwordScatteredRead_reading _) m
  | mtScOwub => cases e; exact Reading.acts (owordBlockRead_reading _ _ _) m
  | mtScMb => cases e; exact Reading.acts (mediaBlockRead_reading _) m
  | mtRsi => cases e; exact Reading.acts readSurfaceInfo_reading m
  | mtRtw => cases e; exact Storing.acts renderTargetWrite_storing m
  | mtRtr => cases e; exact Reading.acts renderTargetRead_reading m
  | mtRtwSimd16 => cases e; exact Storing.acts renderTargetWrite_storing m
  | mtRtwSimd16Repdata => cases e; exact Storing.acts renderTargetWrite_storing m
  | mtRtwSimd8DualsrcLo => cases e; exact Storing.acts renderTargetWrite_storing m
  | mtRtwSimd8DualsrcHi => cases e; exact Storing.acts renderTargetWrite_storing m
  | mtRtwSimd8Lo => cases e; exact Storing.acts renderTargetWrite_storing m
  | mtRtwSimd16RepdataTm => cases e; exact Storing.acts renderTargetWrite_storing m
  | tsDereference => cases e; exact dereferenceResource_acts (.inr (.inr (.inr rfl))) m
  | tsSpawn => cases e; exact spawnThread_acts (.inr (.inr (.inl rfl))) m
  | _ => cases e

end Sys2Proof.Proofs.Messages
end

section
/-! PROOF SUPPORT. What a send leaves when it is over (O50, and its part of O3). -/

namespace Sys2Proof.Proofs.Messages

open Sys2Proof.Machine Sys2Proof.Claims Sys2Proof.Proofs.Stores

theorem kept_clearDependency (i : BitVec 8) (t : Thread) : kept (t.clearDependency i) = kept t := rfl

theorem endThread_kept (s : State) : s.endThread.parked.map kept = s.parked.map kept := by
  simp only [State.endThread, List.map_map]
  exact List.map_congr_left fun t _ => kept_clearDependency _ t

/-- The groups that remain when a thread ends were there before. -/
theorem mem_groups_of_endThread {s : State} {g : Group} (h : g ∈ s.endThread.groups) : g ∈ s.groups := by
  simp only [State.endThread] at h
  split at h
  · exact (List.mem_filter.1 h).1
  · exact h

theorem endThread_inv {s : State} (hs : s.Inv) : s.endThread.Inv :=
  ⟨hs.1, hs.2.1, fun g hg => hs.2.2 g (mem_groups_of_endThread hg)⟩

/-- A message that is over: the thread has advanced, its response is pending, and with EOT the thread has ended. -/
theorem finishSend_cases {s s' : State} {k : Ctl} {base : Option Nat} {rlen : Nat} {data : Answer} {eot : Bool}
    (h : finishSend s k base rlen data eot = .ok s') :
    ∃ t l, s.eu.advance (Ctl.bytes k) = .ok t ∧ l.length ≤ 1 ∧
      s' = if eot then State.endThread { s with eu := t, pending := s.pending ++ l }
        else { s with eu := t, pending := s.pending ++ l } := by
  simp only [finishSend, Exec.bind_eq_ok, Exec.pure_eq, Except.ok.injEq] at h
  obtain ⟨t, ht, h⟩ := h
  cases base with
  | none => exact ⟨t, [], ht, by simp, by simpa using h.symm⟩
  | some r =>
    cases rlen with
    | zero => exact ⟨t, [], ht, by simp, by simpa using h.symm⟩
    | succ n => exact ⟨t, [_], ht, by simp, h.symm⟩

/-- The whole of what a send can do. -/
structure SendFrame (urb spawner : Prop) (s t : State) : Prop where
  frame : t = { s with
    eu := { s.eu with
      ip := t.eu.ip, pcip := t.eu.pcip, run := t.eu.run, group := t.eu.group, n0 := t.eu.n0
      urbHandle := t.eu.urbHandle }
    parked := t.parked, groups := t.groups, mem := t.mem, urb := t.urb, pending := t.pending
    stores := t.stores, media := { s.media with live := t.media.live, spawns := t.media.spawns } }
  parked : t.parked.map kept = s.parked.map kept
  inv : s.Inv → t.Inv
  urbKept : t.urb = s.urb ∨ urb
  spawnerKept : (t.media.spawns = s.media.spawns ∧ t.eu.urbHandle = s.eu.urbHandle) ∨ spawner

theorem SendFrame.refl {u v : Prop} (s : State) : SendFrame u v s s := ⟨rfl, rfl, id, .inl rfl, .inl ⟨rfl, rfl⟩⟩

theorem SendFrame.advance {u v : Prop} {s : State} {t : Thread} {n : Nat} (h : s.eu.advance n = .ok t) :
    SendFrame u v s { s with eu := t } := by
  obtain ⟨_, rfl⟩ := Thread.advance_eq_ok.1 h
  exact ⟨rfl, rfl, id, .inl rfl, .inl ⟨rfl, rfl⟩⟩

/-- The shared function's part and the end of the send, one after the other. -/
theorem SendFrame.of_finish {u v : Prop} {s s1 s' : State} {k : Ctl} {base : Option Nat} {rlen : Nat} {data : Answer}
    {eot : Bool} (e : Effect u v s s1) (h : finishSend s1 k base rlen data eot = .ok s') : SendFrame u v s s' := by
  obtain ⟨t, l, ht, _, rfl⟩ := finishSend_cases h
  obtain ⟨_, rfl⟩ := Thread.advance_eq_ok.1 ht
  obtain ⟨hf, hp, hi, hu, hv⟩ := e
  have hi' : s.Inv → State.Inv { s1 with
      eu := s1.eu.goto (BitVec.ofNat 32 (s1.eu.ip.toNat + Ctl.bytes k)), pending := s1.pending ++ l } := hi
  cases eot with
  | false => exact ⟨by rw [hf]; rfl, hp, hi', hu, hv⟩
  | true => exact ⟨by rw [hf]; rfl, (endThread_kept _).trans hp, fun hs => endThread_inv (hi' hs), hu, hv⟩

/-- A send, whatever its shared function. -/
theorem issueMessage_frame {u v : Prop} {f : SendForm} {h : Handler} {s s' : State} (e : issueMessage f h s = .ok s')
    (hh : ∀ m, m.sfid = f.sfid → Acts u v h m) : SendFrame u v s s' := by
  rcases issueMessage_cases e with ⟨_, _, rfl⟩ | ⟨t, ht, rfl⟩ | ⟨m, s1, data, base, ha, hm, _, _, _, _, _, _, _, hf⟩
  · exact .refl _
  · exact .advance ht
  · exact .of_finish (hh m hm s _ ha) hf

/-- A send instruction. -/
theorem exec_send_frame {i : Instr} {f : SendForm} {s s' : State} (hi : i.shape = .send f) (e : exec i s = .next s') :
    SendFrame (f.sfid = .urb ∨ i = .sfidUrb f)
      (f.sfid = .spawner ∨ i = .sfidSpawner f ∨ i = .tsSpawn f ∨ i = .tsDereference f) s s' := by
  obtain ⟨h, hh⟩ := handlerOf_of_shape hi
  rw [exec_of_handlerOf hh, Exec.outcome_eq_next] at e
  exact issueMessage_frame e fun m hm => handlerOf_acts hh m hm

/-! ### The messages that store nothing -/

/-- What a message that stores nothing can do before it is over; `fence` if it is the fence. -/
structure Quiet (fence : Prop) (s t : State) : Prop where
  frame : t = { s with
    eu := { s.eu with urbHandle := t.eu.urbHandle }, stores := t.stores, media := { s.media with spawns := t.media.spawns } }
  stores : t.stores = s.stores ∨ fence

/-- The shared function is quiet for every message. -/
def QuietFunction (fence : Prop) (h : Handler) : Prop := ∀ m s, Yields (fun r => Quiet fence s r.1) (h m s)

theorem Reading.quiet {h : Handler} {p : Prop} (r : Reading h) : QuietFunction p h :=
  fun m s => (r m s).mono fun _ e => e ▸ ⟨rfl, .inl rfl⟩

theorem memoryFence_quiet {p : Prop} (hp : p) : QuietFunction p memoryFence := fun _ _ => .ok ⟨rfl, .inr hp⟩

theorem dereferenceResource_quiet {p : Prop} : QuietFunction p dereferenceResource :=
  fun _ _ => .bind fun _ => .bind fun _ => .bind fun _ => .pure ⟨rfl, .inl rfl⟩

theorem spawnThread_quiet {p : Prop} : QuietFunction p spawnThread :=
  fun _ _ => .bind fun _ => .bind fun _ => .pure ⟨rfl, .inl rfl⟩

theorem threadSpawner_quiet {p : Prop} : QuietFunction p threadSpawner := by
  intro m s
  unfold threadSpawner
  split
  · exact spawnThread_quiet m s
  · exact dereferenceResource_quiet m s

/-- The shared function of a message that stores nothing. -/
theorem storesNothing_quiet {mk : SendForm → Instr} (hm : mk ∈ storesNothing) (f : SendForm) :
    ∃ h, handlerOf (mk f) = some (f, h) ∧ QuietFunction (mk f = .mt0Memfence f) h := by
  simp only [storesNothing, List.cons_append, List.nil_append, List.mem_cons, List.not_mem_nil, or_false] at hm
  rcases hm with rfl | rfl | rfl | rfl | rfl | rfl | rfl | rfl | rfl | rfl | rfl | rfl | rfl | rfl | rfl | rfl | rfl |
    rfl | rfl | rfl | rfl | rfl | rfl | rfl | rfl | rfl | rfl | rfl | rfl | rfl | rfl | rfl | rfl | rfl
  · exact ⟨_, rfl, Reading.quiet nullFunction_reading⟩
  · exact ⟨_, rfl, Reading.quiet samplingEngine_reading⟩
  · exact ⟨_, rfl, Reading.quiet motionEstimation_reading⟩
  · exact ⟨_, rfl, Reading.quiet openFunction_reading⟩
  · exact ⟨_, rfl, Reading.quiet openFunction_reading⟩
  · exact ⟨_, rfl, threadSpawner_quiet⟩
  · exact ⟨_, rfl, Reading.quiet readOnlyPort_reading⟩
  · exact ⟨_, rfl, dereferenceResource_quiet⟩
  · exact ⟨_, rfl, spawnThread_quiet⟩
  · exact ⟨_, rfl, Reading.quiet (owordBlockRead_reading _ _ _)⟩
  · exact ⟨_, rfl, Reading.quiet (owordBlockRead_reading _ _ _)⟩
  · exact ⟨_, rfl, Reading.quiet (owordDualRead_reading _)⟩
  · exact ⟨_, rfl, Reading.quiet (dwordScatteredRead_reading _)⟩
  · exact ⟨_, rfl, Reading.quiet byteScatteredRead_reading⟩
  · exact ⟨_, rfl, memoryFence_quiet rfl⟩
  · exact ⟨_, rfl, Reading.quiet transposeRead_reading⟩
  · exact ⟨_, rfl, Reading.quiet untypedRead_reading⟩
  · exact ⟨_, rfl, Reading.quiet (mediaBlockRead_reading _)⟩
  · exact ⟨_, rfl, Reading.quiet typedReadMessage_reading⟩
  · exact ⟨_, rfl, Reading.quiet a64ScatteredRead_reading⟩
  · exact ⟨_, rfl, Reading.quiet a64UntypedRead_reading⟩
  · exact ⟨_, rfl, Reading.quiet a64BlockRead_reading⟩
  · exact ⟨_, rfl, Reading.quiet scaledUntypedRead_reading⟩
  · exact ⟨_, rfl, Reading.quiet scaledA64ScatteredRead_reading⟩
  · exact ⟨_, rfl, Reading.quiet scaledA64UntypedRead_reading⟩
  · exact ⟨_, rfl, Reading.quiet scaledByteRead_reading⟩
  · exact ⟨_, rfl, Reading.quiet (owordBlockRead_reading _ _ _)⟩
  · exact ⟨_, rfl, Reading.quiet (owordBlockRead_reading _ _ _)⟩
  · exact ⟨_, rfl, Reading.quiet (owordDualRead_reading _)⟩
  · exact ⟨_, rfl, Reading.quiet (dwordScatteredRead_reading _)⟩
  · exact ⟨_, rfl, Reading.quiet (owordBlockRead_reading _ _ _)⟩
  · exact ⟨_, rfl, Reading.quiet (mediaBlockRead_reading _)⟩
  · exact ⟨_, rfl, Reading.quiet readSurfaceInfo_reading⟩
  · exact ⟨_, rfl, Reading.quiet renderTargetRead_reading⟩

/-- What a message that stores nothing leaves when it is over. -/
structure QuietSend (fence eot : Prop) (s t : State) : Prop where
  mem : t.mem = s.mem
  urb : t.urb = s.urb
  groups : ∀ g ∈ t.groups, g ∈ s.groups
  stores : ¬ fence → t.stores = s.stores
  goesOn : ¬ eot → t = { s with
    eu := { s.eu with ip := t.eu.ip, pcip := t.eu.pcip, urbHandle := t.eu.urbHandle }
    pending := t.pending, stores := t.stores, media := { s.media with spawns := t.media.spawns } } ∧
    ∃ l, t.pending = s.pending ++ l ∧ l.length ≤ 1

theorem QuietSend.of_finish {fence : Prop} {s s1 s' : State} {k : Ctl} {base : Option Nat} {rlen : Nat} {data : Answer}
    {eot : Bool} (q : Quiet fence s s1) (h : finishSend s1 k base rlen data eot = .ok s') :
    QuietSend fence (eot = true) s s' := by
  obtain ⟨t, l, ht, hl, rfl⟩ := finishSend_cases h
  obtain ⟨_, rfl⟩ := Thread.advance_eq_ok.1 ht
  obtain ⟨hf, hs⟩ := q
  have hs' : ¬ fence → s1.stores = s.stores := fun hn => hs.resolve_right hn
  rw [hf] at hs' ⊢
  cases eot with
  | false => exact ⟨rfl, rfl, fun _ hg => hg, hs', fun _ => ⟨rfl, l, rfl, hl⟩⟩
  | true => exact ⟨rfl, rfl, fun _ hg => mem_groups_of_endThread hg, hs', fun hn => absurd rfl hn⟩

theorem issueMessage_quiet {fence : Prop} {f : SendForm} {h : Handler} {s s' : State} (q : QuietFunction fence h)
    (e : issueMessage f h s = .ok s') : QuietSend fence (sendEot f = true) s s' := by
  rcases issueMessage_cases e with ⟨_, _, rfl⟩ | ⟨t, ht, rfl⟩ | ⟨m, s1, data, base, ha, _, _, _, _, _, _, _, _, hf⟩
  · exact ⟨rfl, rfl, fun _ hg => hg, fun _ => rfl, fun _ => ⟨rfl, [], by simp, by simp⟩⟩
  · obtain ⟨_, rfl⟩ := Thread.advance_eq_ok.1 ht
    exact ⟨rfl, rfl, fun _ hg => hg, fun _ => rfl, fun _ => ⟨rfl, [], by simp, by simp⟩⟩
  · exact .of_finish (q m s _ ha) hf

end Sys2Proof.Proofs.Messages

namespace Sys2Proof.Proofs.MessageFrames

open Sys2Proof.Machine Sys2Proof.Claims Sys2Proof.Proofs.Messages

/-- Settles O50: the shared function's effect by the message's class, then the end of the send. -/
theorem messagesChangeOnlyWhatTheySend : Obligations.MessagesChangeOnlyWhatTheySend := by
  unfold Obligations.MessagesChangeOnlyWhatTheySend
  refine ⟨fun i f s s' hi e => ?_, fun mk hmk f s s' e => ?_⟩
  · obtain ⟨hf, hp, _, hu, hv⟩ := exec_send_frame hi e
    exact ⟨hf, hp, hu, hv⟩
  · obtain ⟨h, hh, q⟩ := storesNothing_quiet hmk f
    rw [exec_of_handlerOf hh, Exec.outcome_eq_next] at e
    obtain ⟨hm, hu, hg, hst, hgo⟩ := issueMessage_quiet q e
    exact ⟨hm, hu, hg, hst, fun he => hgo (by simp [he])⟩

end Sys2Proof.Proofs.MessageFrames
end

section
/-! PROOF SUPPORT. A message that is issued (`Issues`): its outcome is its shared function's answer, then the end of the send;
and what stored elements leave alone (O51). -/

namespace Sys2Proof.Proofs.Messages

open Sys2Proof.Machine Sys2Proof.Claims Sys2Proof.Proofs.Stores

/-! ### The issue of a message -/

/-- The issue of a message hands it to the shared function and ends the send with what that answers. -/
theorem issueMessage_of_issues {f : SendForm} {s : State} {m : Msg} {base : Option Nat} (i : Issues f s m base)
    (h : Handler) :
    issueMessage f h s =
      h m s >>= fun r => finishSend r.1 (sendCtl f) base m.responseLength r.2 (sendEot f) := by
  obtain ⟨off, ho, hf, hs⟩ := i.channels
  have hready : (sendWaits f && s.eu.hasDependency) = false := by
    rcases i.ready with h | h <;> simp [h]
  have hsome : ¬ (sendCtl f).pred ≠ .none ∨ (slotMask s.eu (sendCtl f) off == 0#32) = false := by
    rcases i.some with h | h
    · exact .inl (by simp [h])
    · exact .inr (by simpa [hs] using h)
  have hmask : (decide ((sendCtl f).pred ≠ .none) && slotMask s.eu (sendCtl f) off == 0#32) = false := by
    rcases hsome with h | h
    · simp [h]
    · simp [h]
  obtain ⟨h1, h2, h3⟩ := i.legal
  have hm : m = ⟨f.sfid, descriptor s.eu f.desc, sendEx s.eu f, sendEot f, m.payload, slotMask s.eu (sendCtl f) off,
      (sendCtl f).exec.channels⟩ := by
    rw [← i.sfid, ← i.desc, ← i.ex, ← i.eot, ← i.width, ← hs]
  have hp := i.payload
  have hb := i.place
  have hfit := i.fits
  simp only [Msg.bits, Msg.responseLength] at h1 h2 hp hb hfit
  rw [i.desc] at h1 h2 h3 hp hb hfit
  unfold issueMessage
  simp only [hready, Bool.false_eq_true, if_false, ho, hf, Exec.ok_bind, hmask, h1, h2, h3, decide_true, require,
    Bool.not_false, if_true, hp, hb, hfit, ← hm]
  simp only [Msg.responseLength, Msg.bits, i.desc]

/-- The end of a send whose thread is where it was. -/
theorem finishSend_eq_sent {f : SendForm} {s s1 : State} {m : Msg} {base : Option Nat} (i : Issues f s m base)
    (hip : s1.eu.ip = s.eu.ip) (data : Answer) :
    finishSend s1 (sendCtl f) base m.responseLength data (sendEot f) = .ok (sent f m base s1 data) := by
  have ha : s1.eu.advance (Ctl.bytes (sendCtl f)) =
      .ok (s1.eu.goto (BitVec.ofNat 32 (s1.eu.ip.toNat + Ctl.bytes (sendCtl f)))) :=
    Thread.advance_eq_ok.2 ⟨by rw [hip]; exact i.next, rfl⟩
  unfold finishSend sent
  rw [ha, Exec.ok_bind, ← i.eot]
  rfl

/-- A message completes with what its shared function answers. -/
theorem exec_of_answer {i : Instr} {f : SendForm} {h : Handler} (hh : handlerOf i = some (f, h)) {s s1 : State} {m : Msg}
    {base : Option Nat} (hi : Issues f s m base) {data : Answer} (ha : h m s = .ok (s1, data))
    (hip : s1.eu.ip = s.eu.ip) : exec i s = .next (sent f m base s1 data) := by
  rw [exec_of_handlerOf hh, Exec.outcome_eq_next, issueMessage_of_issues hi, ha, Exec.ok_bind]
  exact finishSend_eq_sent hi hip data

/-- A message that completed was answered. -/
theorem answer_of_exec {i : Instr} {f : SendForm} {h : Handler} (hh : handlerOf i = some (f, h)) {s s' : State} {m : Msg}
    {base : Option Nat} (hi : Issues f s m base) (e : exec i s = .next s') :
    ∃ s1 data, h m s = .ok (s1, data) ∧
      finishSend s1 (sendCtl f) base m.responseLength data (sendEot f) = .ok s' := by
  rw [exec_of_handlerOf hh, Exec.outcome_eq_next, issueMessage_of_issues hi, Exec.bind_eq_ok] at e
  obtain ⟨⟨s1, data⟩, ha, hf⟩ := e
  exact ⟨s1, data, ha, hf⟩

end Sys2Proof.Proofs.Messages

namespace Sys2Proof.Proofs.Stores

open Sys2Proof.Machine Sys2Proof.Claims

/-- What follows a part whose answer is known. -/
theorem Yields.of_eq {α β : Type} {P : β → Prop} {x : Exec α} {f : α → Exec β} {a : α} (e : x = .ok a)
    (h : Yields P (f a)) : Yields P (x >>= f) := by rw [e]; exact h

/-! ### What stored elements leave alone -/

/-- A write of an element, read in graphics memory outside it. -/
theorem read_write_outside {s t : State} {sp : Space} {off n v b : Nat} (h : Space.write s sp off n v = .ok t)
    (hb : ¬ InMemory (sp, off, n) b) : Memory.read t.mem b = Memory.read s.mem b := by
  rcases Space.write_cases h with rfl | ⟨base, size, c, rfl, hs, _, rfl⟩ | ⟨u, rfl, hu, _, rfl⟩ | ⟨id, size, _, _, rfl⟩
  · rfl
  · refine State.read_store_other ?_
    simp only [InMemory, not_and] at hb
    have := hb hs
    omega
  · refine read_writeTiled_other fun k hk e => hb ⟨hu, k, hk, e⟩
  · rfl

theorem Stored.read_outside {E : Element → Prop} {s t : State} (h : Stored E s t) {b : Nat}
    (hb : ∀ e, E e → ¬ InMemory e b) : Memory.read t.mem b = Memory.read s.mem b := by
  induction h with
  | refl => rfl
  | write _ e w ih => rw [read_write_outside w (hb _ e), ih]

/-- The group found by its number when groups are replaced by ones of the same numbers. -/
theorem find_group_map {f : Group → Group} (hf : ∀ g, (f g).id = g.id) (id : Nat) (l : List Group) :
    (l.map f).find? (fun g => g.id == id) = (l.find? fun g => g.id == id).map f := by
  rw [List.find?_map]
  congr 2
  funext g
  simp [hf]

/-- The shared memory of a group when one is replaced. -/
theorem slmOf_setSlm (s : State) (id id' : Nat) (m : Store) :
    (s.setSlm id' m).slmOf id = if id = id' ∧ (s.groups.find? fun g => g.id == id').isSome then m else s.slmOf id := by
  have hid : ∀ g : Group, (if g.id == id' then { g with slm := m } else g).id = g.id := by
    intro g; split <;> rfl
  simp only [State.slmOf, State.setSlm, find_group_map hid]
  cases h : s.groups.find? fun g => g.id == id with
  | none =>
    by_cases hi : id = id'
    · subst hi; simp [h]
    · simp [hi]
  | some g =>
    have hg : g.id = id := by simpa using List.find?_some h
    by_cases hi : id = id'
    · subst hi; simp [h, hg]
    · simp [hi, hg]

/-- A write of an element, read in shared memory outside it. -/
theorem slm_write_outside {s t : State} {sp : Space} {off n v id b : Nat} (h : Space.write s sp off n v = .ok t)
    (hb : ¬ InShared (sp, off, n) id b) {fill : Nat → Byte} :
    Store.read fill (t.slmOf id) b = Store.read fill (s.slmOf id) b := by
  rcases Space.write_cases h with rfl | ⟨base, size, c, rfl, _, _, rfl⟩ | ⟨u, rfl, _, _, rfl⟩ | ⟨id', size, rfl, hs, rfl⟩
  · rfl
  · rfl
  · rw [writeTiled_frame]; rfl
  · rw [slmOf_setSlm]
    split
    · rename_i hi
      obtain ⟨rfl, _⟩ := hi
      refine Store.read_writeLE_other ?_
      by_contra hc
      exact hb ⟨size, rfl, hs, by dsimp only; omega, by dsimp only; omega⟩
    · rfl

theorem Stored.slm_outside {E : Element → Prop} {s t : State} (h : Stored E s t) {id b : Nat} {fill : Nat → Byte}
    (hb : ∀ e, E e → ¬ InShared e id b) : Store.read fill (t.slmOf id) b = Store.read fill (s.slmOf id) b := by
  induction h with
  | refl => rfl
  | write _ e w ih => rw [slm_write_outside w (hb _ e), ih]

end Sys2Proof.Proofs.Stores

namespace Sys2Proof.Proofs.StoreFrames

open Sys2Proof.Machine Sys2Proof.Claims Sys2Proof.Proofs.Stores Sys2Proof.Proofs.Messages

/-- The storage of a block of OWords. -/
theorem owordBlock_yields {s : State} {m : Msg} {x : Index} {unit align : Nat} {sp : Space} (h : blockSpace s m x = .ok sp) :
    Yields (· = (sp, m.globalOffset * unit)) (owordBlock s m x unit align) :=
  .bind fun _ => .of_eq h (.pure rfl)

/-- An element whose bytes are all in elements of a list. -/
def Covered (es : List Element) (e : Element) : Prop :=
  (∀ b, InMemory e b → ∃ e' ∈ es, InMemory e' b) ∧ ∀ id b, InShared e id b → ∃ e' ∈ es, InShared e' id b

theorem Covered.of_mem {es : List Element} {e : Element} (h : e ∈ es) : Covered es e :=
  ⟨fun _ hb => ⟨e, h, hb⟩, fun _ _ hb => ⟨e, h, hb⟩⟩

/-- No byte is in an element of no storage. -/
theorem Covered.zero (es : List Element) (off n : Nat) : Covered es (.zero, off, n) :=
  ⟨fun _ hb => hb.elim, fun _ _ ⟨_, hb, _⟩ => nomatch hb⟩

/-- An element of a block is one of its whole storage, or in none. -/
theorem Covered.block {es : List Element} {sp : Space} {a k off n : Nat} (h : Covered es (sp, off, n)) :
    Covered es (sp.block a k, off, n) := by
  unfold Space.block
  split
  · exact h
  · exact .zero es off n

/-- A part of the bytes of a 64-bit block. -/
theorem Covered.a64 {nc : Bool} {a k off n : Nat} (h : off + n ≤ k) : Covered [(a64Space nc a k, 0, k)] (a64Space nc a k, off, n) := by
  unfold a64Space
  split
  · refine ⟨fun b hb => ⟨_, List.mem_singleton.2 rfl, ?_⟩, fun _ _ ⟨_, hb, _⟩ => nomatch hb⟩
    simp only [InMemory] at hb ⊢
    omega
  · exact .zero _ off n

theorem covers {es : List Element} {s : State} {x : Exec (State × Answer)} (h : Keeps (· ∈ es) s x) :
    Keeps (Covered es) s x := h.mono fun _ hr => hr.mono fun _ he => .of_mem he

theorem covers_of {E : Element → Prop} {es : List Element} {s : State} {x : Exec (State × Answer)} (h : Keeps E s x)
    (i : ∀ e, E e → Covered es e) : Keeps (Covered es) s x := h.mono fun _ hr => hr.mono i

/-- The untyped writes store their channels. -/
theorem untypedForm_covers {s : State} {m : Msg} {mode : Simd} {rd wr : SendForm → Instr} {active : List Nat}
    {addr : Nat → Nat} {loc : Locator} {k : Nat} (hm : simd3 (m.bits 12 2) = .ok mode)
    (u : UntypedForm s m mode rd wr active addr loc k) (f : SendForm) :
    ∃ h, handlerOf (wr f) = some (f, h) ∧ Keeps (Covered (channelElements (m.bits 8 4) active loc)) s (h m s) := by
  cases u with
  | a32 sp u hu _ => exact ⟨_, rfl, .of_eq hm (.of_eq hu (.bind fun _ => covers channelWrite_keeps))⟩
  | scaled sp addr ha _ => exact ⟨_, rfl, .of_eq hm (.bind fun _ => .of_eq ha (.bind fun _ => covers channelWrite_keeps))⟩
  | a64 nc hn _ => exact ⟨_, rfl, .of_eq hn (.of_eq hm (.bind fun _ => covers channelWrite_keeps))⟩
  | scaledA64 addr k ha _ => exact ⟨_, rfl, .of_eq hm (.of_eq ha (.bind fun _ => covers channelWrite_keeps))⟩

/-- The A64 scattered writes store their elements. -/
theorem elementForm_covers {s : State} {m : Msg} {z : ElementSize} {rd wr : SendForm → Instr} {nc : Bool}
    {addr : Nat → Nat} {k : Nat} (hz : elementSize (m.bits 8 2) = .ok z) (e : ElementForm m z rd wr nc addr k)
    (f : SendForm) :
    ∃ h, handlerOf (wr f) = some (f, h) ∧
      Keeps (Covered ((plainActive m (simd2 (m.bits 12 1))).flatMap fun i => (List.range (2 ^ m.bits 10 2)).map fun e =>
        ((a64Locator nc addr i (e * z.bytes) z.bytes).1, (a64Locator nc addr i (e * z.bytes) z.bytes).2, z.bytes))) s
        (h m s) := by
  cases e with
  | a64 nc hn _ => exact ⟨_, rfl, .of_eq hn (.of_eq hz (covers elementWrite_keeps))⟩
  | scaled addr k ha _ => exact ⟨_, rfl, .of_eq hz (.of_eq ha (covers elementWrite_keeps))⟩

/-- The A64 block write stores its block, by its subtype. -/
theorem a64BlockWrite_covers {s : State} {m : Msg} {nc : Bool} (hn : a64Index m = .ok nc) :
    (∀ n half, m.bits 11 2 ≤ 1 → owordCount (m.bits 8 3) = .ok (n, half) →
      Keeps (Covered ((List.range n).map fun j => (a64Space nc (qword m.first 0).toNat (16 * n), 16 * j, 16))) s
        (a64BlockWrite m s)) ∧
    (∀ n, m.bits 11 2 = 2 → a64DualCount (m.bits 8 3) = .ok n →
      Keeps (Covered ((plainActive m .s4x2).flatMap fun i => (List.range n).map fun e =>
        (a64Space nc (qword m.first i).toNat (16 * n), 16 * e, 16))) s (a64BlockWrite m s)) ∧
    (∀ n, m.bits 11 2 = 3 → a64HwordCount (m.bits 8 3) = .ok n →
      Keeps (Covered [(a64Space nc (qword m.first 0).toNat (32 * n), 0, 32 * n)]) s (a64BlockWrite m s)) := by
  have blocks {n half : Nat} {d : Msg} :
      Keeps (Covered ((List.range n).map fun j => (a64Space nc (qword m.first 0).toNat (16 * n), 16 * j, 16))) s
        (blockWrite s d n half (a64Block nc (qword m.first 0).toNat (16 * n)) 0) := by
    refine covers_of blockWrite_keeps fun e he => ?_
    obtain ⟨j, hj, rfl⟩ := List.mem_map.1 he
    exact .block (.of_mem (List.mem_map.2 ⟨j, hj, by rw [Nat.zero_add]; rfl⟩))
  refine ⟨fun n half hs hc => .of_eq hn ?_, fun n hs hc => .of_eq hn ?_, fun n hs hc => .of_eq hn ?_⟩
  · have : m.bits 11 2 = 0 ∨ m.bits 11 2 = 1 := by omega
    rcases this with h | h
    · simp only [h]
      exact .bind fun _ => .of_eq hc blocks
    · simp only [h]
      exact .bind fun _ => .of_eq hc blocks
  · simp only [hs]
    refine .of_eq hc (.bind fun _ => covers_of dualWrite_keeps fun e he => .of_mem ?_)
    simpa only [Nat.zero_add] using he
  · simp only [hs]
    refine .bind fun _ => .of_eq hc (covers_of hwordWrite_keeps fun e he => ?_)
    obtain ⟨x, hx, rfl⟩ := List.mem_map.1 he
    obtain ⟨j, hj, hm⟩ := List.mem_flatMap.1 hx
    obtain ⟨d, hd, rfl⟩ := List.mem_map.1 hm
    have hj := List.mem_range.1 hj
    have hd := List.mem_range.1 (List.mem_filter.1 hd).1
    exact .block (.a64 (by dsimp only; omega))

/-- The media block write stores bytes of its block, by its mode. -/
theorem mediaBlockWrite_covers {s : State} {m : Msg} {u : Surface} {w h : Nat} (hu : surfaceTarget s m .media = .ok u)
    (hc : (blockControl m).mode = 1 ∧ w = 32 ∧ h = 4 ∨
      (blockControl m).mode ≠ 1 ∧ w = (blockControl m).w ∧ h = (blockControl m).h) :
    Keeps (Covered ((blockCells w h).map fun e =>
      mediaElement u (m.bits 8 3) ((dword m.header 0).toInt + e.2) ((dword m.header 1).toInt + e.1))) s
      (mediaBlockWrite m s) := by
  refine .bind fun _ => .of_eq hu ?_
  dsimp only
  rcases hc with ⟨hm, rfl, rfl⟩ | ⟨hm, rfl, rfl⟩
  · simp only [hm]
    exact .bind fun _ => .bind fun _ => covers mediaStore_keeps
  · split
    · exact .bind fun _ => .bind fun _ => covers mediaStore_keeps
    · rename_i h1
      exact absurd h1 hm
    · exact .bind fun _ => .bind fun _ => covers mediaStore_keeps
    · exact .refuse

/-- A storing message stores bytes of its elements only. -/
theorem storeForm_covers {s : State} {m : Msg} {mk : SendForm → Instr} {es : List Element} (sf : StoreForm s m mk es)
    (f : SendForm) : ∃ h, handlerOf (mk f) = some (f, h) ∧ Keeps (Covered es) s (h m s) := by
  cases sf with
  | block n half sp hc hb =>
    refine ⟨_, rfl, .of_eq hc (.andThen (owordBlock_yields hb) fun r hr => ?_)⟩
    subst hr
    exact covers blockWrite_keeps
  | dual n sp hc hb => exact ⟨_, rfl, .of_eq hc (.of_eq hb (covers dualWrite_keeps))⟩
  | dwords sp hb => exact ⟨_, rfl, .of_eq hb (covers scatteredWrite_keeps)⟩
  | bytes n sp hn hb => exact ⟨_, rfl, .of_eq hn (.of_eq hb (covers scatteredWrite_keeps))⟩
  | scaledBytes n sp addr hn ha => exact ⟨_, rfl, .of_eq hn (.bind fun _ => .of_eq ha (covers scatteredWrite_keeps))⟩
  | untyped mode rd _ active addr loc k hm hu => exact untypedForm_covers hm hu f
  | elements z rd _ nc addr k hz he => exact elementForm_covers hz he f
  | scratch sp hb hs =>
    refine ⟨_, rfl, ?_⟩
    have h18 : m.bits 18 1 = 1 := by
      have := hb
      simp only [Msg.bits, BitVec.extractLsb'_toNat] at this ⊢
      omega
    have h17 : m.bits 17 1 = 1 := by
      have := hb
      simp only [Msg.bits, BitVec.extractLsb'_toNat] at this ⊢
      omega
    unfold dataPort0
    rw [if_pos h18]
    refine .bind fun _ => .bind fun _ => .of_eq hs ?_
    rw [if_pos h17]
    exact covers hwordWrite_keeps
  | a64Block nc n half hs hn hc => exact ⟨_, rfl, (a64BlockWrite_covers hn).1 n half hs hc⟩
  | a64Dual nc n hs hn hc => exact ⟨_, rfl, (a64BlockWrite_covers hn).2.1 n hs hc⟩
  | a64Hwords nc n hs hn hc => exact ⟨_, rfl, (a64BlockWrite_covers hn).2.2 n hs hc⟩
  | untypedAtomic _ op md sp u hmem hu =>
    have key : Keeps (Covered (slotElements (untypedLayout (op m)).bytes (untypedActive m (md m))
        (offsetLocator sp (untypedOffset m (md m) u)))) s (Machine.untypedAtomic op md m s) :=
      .of_eq hu (.bind fun _ => covers atomicMessage_keeps)
    simp only [untypedAtomics, List.mem_cons, Prod.mk.injEq, List.not_mem_nil, or_false] at hmem
    rcases hmem with ⟨rfl, rfl, rfl⟩ | ⟨rfl, rfl, rfl⟩ | ⟨rfl, rfl, rfl⟩ | ⟨rfl, rfl, rfl⟩
    · exact ⟨_, rfl, key⟩
    · exact ⟨_, rfl, key⟩
    · exact ⟨_, rfl, key⟩
    · exact ⟨_, rfl, key⟩
  | a64Atomic _ op mode wide nc hmem hn =>
    have key : Keeps (Covered (slotElements (a64Layout (wide m) (op m)).bytes (plainActive m mode)
        (a64Locator nc fun i => (m.qw mode 0 i).toNat))) s (Machine.a64Atomic op mode wide m s) :=
      .of_eq hn (.bind fun _ => covers atomicMessage_keeps)
    simp only [a64Atomics, List.mem_cons, Prod.mk.injEq, List.not_mem_nil, or_false] at hmem
    rcases hmem with ⟨rfl, rfl, rfl, rfl⟩ | ⟨rfl, rfl, rfl, rfl⟩ | ⟨rfl, rfl, rfl, rfl⟩ | ⟨rfl, rfl, rfl, rfl⟩
    · exact ⟨_, rfl, key⟩
    · exact ⟨_, rfl, key⟩
    · exact ⟨_, rfl, key⟩
    · exact ⟨_, rfl, key⟩
  | typedAtomic _ mode u hmk hu =>
    have key : Keeps (Covered (slotElements (untypedLayout (intOp m)).bytes (typedActive m mode (atomicGroup m mode))
        (typedLocator m u mode))) s (typedAtomicMessage mode false m s) :=
      .of_eq hu (.bind fun _ => covers typedAtomic_keeps)
    rcases hmk with ⟨rfl, rfl⟩ | ⟨rfl, rfl⟩
    · exact ⟨_, rfl, key⟩
    · exact ⟨_, rfl, key⟩
  | counter _ mode u hmk hu =>
    have key : Keeps (Covered (if u.ty = surfNull then [] else [(.memory (Machine.counterAddress u) 8 u.coherency, 0,
        (untypedLayout (intOp m)).bytes)])) s (typedAtomicMessage mode true m s) := by
      refine .of_eq hu (covers_of counterAtomic_keeps fun e he => ?_)
      obtain ⟨i, _, rfl⟩ := List.mem_map.1 he
      by_cases hn : u.ty = surfNull
      · simp only [hn, if_true]
        exact .zero _ _ _
      · simp only [hn, if_false]
        exact .of_mem (List.mem_singleton.2 rfl)
    rcases hmk with ⟨rfl, rfl⟩ | ⟨rfl, rfl⟩
    · exact ⟨_, rfl, key⟩
    · exact ⟨_, rfl, key⟩
  | typed mode group u hg hu => exact ⟨_, rfl, .of_eq hg (.of_eq hu (covers typedWrite_keeps))⟩
  | media u c w h hu hc hw =>
    subst hc
    exact ⟨_, rfl, mediaBlockWrite_covers hu hw⟩
  | renderTarget _ u r en hmk hr hu he =>
    have key := covers (renderTargetWrite_samples hr hu he)
    simp only [renderWrites, List.mem_cons, List.not_mem_nil, or_false] at hmk
    rcases hmk with rfl | rfl | rfl | rfl | rfl | rfl | rfl
    · exact ⟨_, rfl, key⟩
    · exact ⟨_, rfl, key⟩
    · exact ⟨_, rfl, key⟩
    · exact ⟨_, rfl, key⟩
    · exact ⟨_, rfl, key⟩
    · exact ⟨_, rfl, key⟩
    · exact ⟨_, rfl, key⟩

/-- The end of a send leaves graphics memory, and without EOT shared memory, as its shared function left them. -/
theorem finishSend_stores {s s' : State} {k : Ctl} {base : Option Nat} {rlen : Nat} {data : Answer} {eot : Bool}
    (h : finishSend s k base rlen data eot = .ok s') : s'.mem = s.mem ∧ (eot = false → s'.groups = s.groups) := by
  obtain ⟨t, l, _, _, rfl⟩ := finishSend_cases h
  cases eot with
  | false => exact ⟨rfl, fun _ => rfl⟩
  | true => exact ⟨rfl, fun he => nomatch he⟩

/-- Settles O51: the storing message's elements cover what it stores. -/
theorem storesChangeOnlyTheirElements : Obligations.StoresChangeOnlyTheirElements := by
  unfold Obligations.StoresChangeOnlyTheirElements
  intro f s s' m base mk es hi sf e
  obtain ⟨h, hh, hk⟩ := storeForm_covers sf f
  obtain ⟨s1, data, ha, hf⟩ := answer_of_exec hh hi e
  obtain ⟨hmem, hgroups⟩ := finishSend_stores hf
  have hst : Stored (Covered es) s s1 := hk _ ha
  refine ⟨fun b hb => ?_, fun heot id b hb => ?_⟩
  · rw [hmem]
    exact hst.read_outside fun e' he' hin => by
      obtain ⟨x, hx, hxb⟩ := he'.1 b hin
      exact hb x hx hxb
  · have hslm : s'.slmOf id = s1.slmOf id := by
      unfold State.slmOf
      rw [hgroups heot]
    rw [hslm]
    exact hst.slm_outside fun e' he' hin => by
      obtain ⟨x, hx, hxb⟩ := he'.2 id b hin
      exact hb x hx hxb

end Sys2Proof.Proofs.StoreFrames
end

section
/-! PROOF SUPPORT. What the data ports' operations answer, and the state they leave, when their elements can be read or
stored: one equation for each operation. -/

namespace Sys2Proof.Proofs.Ports

open Sys2Proof.Machine Sys2Proof.Claims Sys2Proof.Proofs.Stores

/-! ### Conditions that hold -/

theorem require_ok {b : Bool} {r : Refusal} (h : b = true) : require b r = .ok () := require_eq_ok.2 h

theorem need_ok {m : Msg} {n : Nat} (h : n ≤ m.body.length) : m.need n = .ok () := require_ok (decide_eq_true h)

theorem alignedAll_ok {active : List Nat} {addr : Nat → Nat} {n : Nat} (h : ∀ i ∈ active, addr i % n = 0) :
    alignedAll active addr n = .ok () := require_ok (by simpa using h)

theorem aligned_ok {a n : Nat} (h : a % n = 0) : aligned a n = .ok () := require_ok (decide_eq_true h)

theorem headerRequired_ok {m : Msg} (h : m.hasHeader = true) : m.headerRequired = .ok () := require_ok h

theorem headerForbidden_ok {m : Msg} (h : m.hasHeader = false) : m.headerForbidden = .ok () := require_ok (by simp [h])

theorem checkMask_ok {mask : Nat} (h : mask ≠ 15) : checkMask mask = .ok () := require_ok (by simpa using h)

theorem checkWriteMask_ok {mask : Nat} (h : WriteMask mask) : checkWriteMask mask = .ok () :=
  require_ok (by simpa [WriteMask, or_assoc] using h)

theorem checkElements_ok {z : ElementSize} {mode : Simd} {n : Nat} (h : ElementsLegal z mode n) :
    checkElements z mode n = .ok () := require_ok (by simpa [ElementsLegal, imp_iff_not_or] using h)

theorem checkLods_ok {m : Msg} {u : Surface} {mode : Simd} {active : List Nat} (h : LodsLegal m u mode active) :
    checkLods m u mode active = .ok () := by
  refine require_ok ?_
  simp only [List.all_eq_true, bne_iff_ne, ne_eq]
  intro i hi
  have := h i hi
  omega

/-! ### Lists of parts -/

/-- A part whose answer is known, and what follows. -/
theorem bind_ok {α β : Type} {x : Exec α} {f : α → Exec β} {a : α} {y : Exec β} (hx : x = .ok a) (hf : f a = y) :
    (x >>= f) = y := by rw [hx]; exact hf

theorem sequence_ok {α : Type} (l : List α) : Machine.sequence (l.map (Except.ok : α → Exec α)) = .ok l := by
  have h := sequence_map_ok (Except.ok : α → Exec α) id l fun _ _ => rfl
  rwa [List.map_id] at h

/-- Parts for each element of each of some lists. -/
theorem sequence_flatMap_ok {α β γ : Type} {l : List α} {cs : α → List β} {f : α → β → Exec γ} {g : α → β → γ}
    (h : ∀ a ∈ l, ∀ b ∈ cs a, f a b = .ok (g a b)) :
    Machine.sequence (l.flatMap fun a => (cs a).map fun b => f a b) =
      .ok (l.flatMap fun a => (cs a).map fun b => g a b) := by
  rw [← sequence_ok, List.map_flatMap]
  congr 1
  refine List.flatMap_congr fun a ha => ?_
  rw [List.map_map]
  exact List.map_congr_left fun b hb => h a ha b hb

/-- Elements stored one after another. -/
theorem runAll_of_stores {α : Type} {f : State → α → Exec State} {g : α → Space × Nat × Nat × Nat}
    (hf : ∀ t a, f t a = Space.write t (g a).1 (g a).2.1 (g a).2.2.1 (g a).2.2.2) :
    ∀ {l : List α} {s s1 : State}, Stores s (l.map g) s1 → runAll s l f = .ok s1
  | [], s, s1, h => by
    have h : s1 = s := h
    rw [h]; rfl
  | a :: l, s, s1, h => by
    obtain ⟨t, ht, h⟩ := h
    rw [runAll, hf, ht, Exec.ok_bind]
    exact runAll_of_stores hf h

/-- Elements stored leave the resident thread as it was. -/
theorem stores_eu : ∀ {l : List (Space × Nat × Nat × Nat)} {s s1 : State}, Stores s l s1 → s1.eu = s.eu
  | [], s, s1, h => by
    have h : s1 = s := h
    rw [h]
  | (sp, off, n, v) :: l, s, s1, h => by
    obtain ⟨t, ht, h⟩ := h
    rw [stores_eu h, Space.write_frame ht]

/-! ### The operations -/

theorem channelRead_eq {s : State} {mode : Simd} {mask : Nat} {active : List Nat} {loc : Locator} {v : Nat → Nat → Nat}
    (hm : mask ≠ 15) (h : ReadsAt s mask active loc v) :
    channelRead s mode mask active loc = .ok (s, channelAnswer s mode mask active v) :=
  bind_ok (checkMask_ok hm) (bind_ok (sequence_flatMap_ok fun i hi jc hj => bind_ok (h i hi jc hj) rfl) rfl)

theorem channelWrite_eq {s s1 : State} {m : Msg} {mode : Simd} {mask k : Nat} {active : List Nat} {addr : Nat → Nat}
    {loc : Locator} (hm : WriteMask mask) (hn : k + channelRegs mode (maskChannels mask).length ≤ m.body.length)
    (h : Stores s (channelStores s m mode mask k active addr loc) s1) :
    channelWrite s m mode mask k active addr loc = .ok (s1, []) := by
  refine bind_ok (checkWriteMask_ok hm) (bind_ok (need_ok hn) (bind_ok (runAll_of_stores
    (g := fun e : Nat × Nat × Nat => ((loc e.1 (4 * e.2.2) 4).1, (loc e.1 (4 * e.2.2) 4).2, 4,
      (m.dw mode (channelReg mode k e.2.1) e.2.2 e.1).toNat)) (fun _ _ => rfl) ?_) rfl))
  simpa only [channelStores, List.map_flatMap, List.map_map, Function.comp_def] using h

theorem scatteredRead_eq {s : State} {mode : Simd} {n : Nat} {active : List Nat} {loc : Locator} {v : Nat → Nat}
    (h : ∀ i ∈ active, readAt s loc i 0 n = .ok (v i)) :
    scatteredRead s mode n active loc = .ok (s, scatteredAnswer s mode n active v) :=
  bind_ok (sequence_map_ok _ _ _ fun i hi => bind_ok (h i hi) rfl) rfl

theorem scatteredWrite_eq {s s1 : State} {m : Msg} {mode : Simd} {n k : Nat} {active : List Nat} {addr : Nat → Nat}
    {sp : Space} (hn : k + mode.regs ≤ m.body.length) (h : Stores s (scatteredStores s m mode n k active addr sp) s1) :
    scatteredWrite s m mode n k active addr (offsetLocator sp addr) = .ok (s1, []) :=
  bind_ok (need_ok hn) (bind_ok (runAll_of_stores (fun _ _ => rfl) h) rfl)

theorem elementRead_eq {s : State} {z : ElementSize} {mode : Simd} {n : Nat} {active : List Nat} {loc : Locator}
    {v : Nat → Nat → Nat} (hz : ElementsLegal z mode n)
    (h : ∀ i ∈ active, ∀ e, e < n → readAt s loc i (e * z.bytes) z.bytes = .ok (v i e)) :
    elementRead s z mode n active loc = .ok (s, responseFrom s (elementRegs z mode n)
      (active.flatMap fun i => (List.range n).map fun e =>
        ((elementPlace z mode 0 e i).1, ((elementPlace z mode 0 e i).2, 8 * z.bytes, v i e)))) :=
  bind_ok (checkElements_ok hz)
    (bind_ok (sequence_flatMap_ok fun i hi e he => bind_ok (h i hi e (List.mem_range.1 he)) rfl) rfl)

theorem elementWrite_eq {s s1 : State} {m : Msg} {z : ElementSize} {mode : Simd} {n k : Nat} {active : List Nat}
    {addr : Nat → Nat} {loc : Locator} (hz : ElementsLegal z mode n) (hn : k + elementRegs z mode n ≤ m.body.length)
    (h : Stores s ((slotSequence s (n * z.bytes) active (active.map addr)).flatMap fun i => (List.range n).map fun e =>
      ((loc i (e * z.bytes) z.bytes).1, (loc i (e * z.bytes) z.bytes).2, z.bytes,
        ((m.reg (elementPlace z mode k e i).1).extractLsb' (elementPlace z mode k e i).2 (8 * z.bytes)).toNat)) s1) :
    elementWrite s m z mode n k active addr loc = .ok (s1, []) := by
  refine bind_ok (checkElements_ok hz) (bind_ok (need_ok hn) (bind_ok (runAll_of_stores
    (g := fun x : Nat × Nat => ((loc x.1 (x.2 * z.bytes) z.bytes).1, (loc x.1 (x.2 * z.bytes) z.bytes).2, z.bytes,
      ((m.reg (elementPlace z mode k x.2 x.1).1).extractLsb' (elementPlace z mode k x.2 x.1).2 (8 * z.bytes)).toNat))
    (fun _ _ => rfl) ?_) rfl))
  simpa only [List.map_flatMap, List.map_map, Function.comp_def] using h

theorem blockRead_eq {s : State} {n half off : Nat} {sp : Space} {v : Nat → Nat}
    (h : ∀ j, j < n → Space.read s (sp.block off (16 * n)) (off + 16 * j) 16 = .ok (v j)) :
    blockRead s n half sp off =
      .ok (s, responseFrom s ((n + half + 1) / 2) (blockPieces 0 half 0 ((List.range n).map v))) :=
  bind_ok (sequence_map_ok _ v _ fun j hj => h j (List.mem_range.1 hj)) rfl

theorem blockWrite_eq {s s1 : State} {m : Msg} {n half off : Nat} {sp : Space} (hn : (n + half + 1) / 2 ≤ m.body.length)
    (h : Stores s ((List.range n).map fun j =>
      (sp.block off (16 * n), off + 16 * j, 16, (oword (m.reg ((half + j) / 2)) ((half + j) % 2)).toNat)) s1) :
    blockWrite s m n half sp off = .ok (s1, []) :=
  bind_ok (need_ok hn) (bind_ok (runAll_of_stores (fun _ _ => rfl) h) rfl)

theorem dualRead_eq {s : State} {n : Nat} {active : List Nat} {blk : Nat → Space × Nat} {v : Nat → Nat → Nat}
    (h : ∀ i ∈ active, ∀ e, e < n → Space.read s (blk i).1 ((blk i).2 + 16 * e) 16 = .ok (v i e)) :
    dualRead s n active blk = .ok (s, responseFrom s n (active.flatMap fun i =>
      (List.range n).map fun e => (e, (128 * i, 128, v i e)))) :=
  bind_ok (sequence_flatMap_ok fun i hi e he => bind_ok (h i hi e (List.mem_range.1 he)) rfl) rfl

theorem dualWrite_eq {s s1 : State} {m : Msg} {n k : Nat} {active : List Nat} {addr : Nat → Nat}
    {blk : Nat → Space × Nat} (hn : k + n ≤ m.body.length)
    (h : Stores s ((slotSequence s (16 * n) active (active.map addr)).flatMap fun i => (List.range n).map fun e =>
      ((blk i).1, (blk i).2 + 16 * e, 16, (oword (m.reg (k + e)) i).toNat)) s1) :
    dualWrite s m n k active addr blk = .ok (s1, []) := by
  refine bind_ok (need_ok hn) (bind_ok (runAll_of_stores
    (g := fun x : Nat × Nat => ((blk x.1).1, (blk x.1).2 + 16 * x.2, 16, (oword (m.reg (k + x.2)) x.1).toNat)) (fun _ _ => rfl) ?_) rfl)
  simpa only [List.map_flatMap, List.map_map, Function.comp_def] using h

theorem hwordRead_eq {s : State} {m : Msg} {n off : Nat} {byDword : Bool} {sp : Space} {v : Nat → Nat → Nat}
    (h : ∀ j, j < n → ∀ d ∈ hwordDwords m byDword j,
      Space.read s (sp.block off (32 * n)) (off + 32 * j + 4 * d) 4 = .ok (v j d)) :
    hwordRead s m n byDword sp off = .ok (s, responseFrom s n ((List.range n).flatMap fun j =>
      (hwordDwords m byDword j).map fun d => (j, (32 * d, 32, v j d)))) :=
  bind_ok (sequence_flatMap_ok fun j hj d hd => bind_ok (h j (List.mem_range.1 hj) d hd) rfl) rfl

theorem hwordWrite_eq {s s1 : State} {m : Msg} {n off : Nat} {byDword : Bool} {sp : Space} (hn : n ≤ m.body.length)
    (h : Stores s ((List.range n).flatMap fun j => (hwordDwords m byDword j).map fun d =>
      (sp.block off (32 * n), off + 32 * j + 4 * d, 4, (dword (m.reg j) d).toNat)) s1) :
    hwordWrite s m n byDword sp off = .ok (s1, []) := by
  refine bind_ok (need_ok hn) (bind_ok (runAll_of_stores
    (g := fun x : Nat × Nat => (sp.block off (32 * n), off + 32 * x.1 + 4 * x.2, 4, (dword (m.reg x.1) x.2).toNat))
    (fun _ _ => rfl) ?_) rfl)
  simpa only [List.map_flatMap, List.map_map, Function.comp_def] using h

/-- The slots of an atomic message performed one after another. -/
theorem performs_keeps {m : Msg} {o : Atomic} {n : Nat} {l : AtomLayout} {mode : Simd} {k : Nat} {loc : Locator} :
    ∀ {slots : List Nat} {s s1 : State} {vals : List (Nat × Nat)}, Performs m o n l mode k loc s slots s1 vals →
      s1.eu = s.eu
  | [], s, s1, vals, h => by
    obtain ⟨rfl, _⟩ := h
    rfl
  | i :: slots, s, s1, vals, h => by
    obtain ⟨old, t, tail, _, hw, h, _⟩ := h
    rw [performs_keeps h, Space.write_frame hw]

/-- A slot of an atomic message: its read, operation and write, and what it returns. -/
def atomicSlot (m : Msg) (o : Atomic) (n : Nat) (l : AtomLayout) (mode : Simd) (k : Nat) (loc : Locator) (t : State)
    (i : Nat) : Exec (State × (Nat × Nat)) := do
  let a := if n ≥ 1 then gather m (l.place mode k 0 i) else 0
  let b := if n ≥ 2 then gather m (l.place mode k 1 i) else 0
  let p := loc i 0 l.bytes
  let old ← Space.read t p.1 p.2 l.bytes
  let t1 ← Space.write t p.1 p.2 l.bytes (o.result (t.draw i 7) (8 * l.bytes) old a b)
  return (t1, (i, if p.1.inside p.2 l.bytes then o.returned (8 * l.bytes) old a b else 0))

theorem runSlots_of_performs {m : Msg} {o : Atomic} {n : Nat} {l : AtomLayout} {mode : Simd} {k : Nat} {loc : Locator} :
    ∀ {slots : List Nat} {s s1 : State} {vals : List (Nat × Nat)}, Performs m o n l mode k loc s slots s1 vals →
      runSlots s slots (atomicSlot m o n l mode k loc) = .ok (s1, vals)
  | [], s, s1, vals, h => by
    obtain ⟨rfl, rfl⟩ := h
    rfl
  | i :: slots, s, s1, vals, h => by
    obtain ⟨old, t, tail, hr, hw, hp, rfl⟩ := h
    exact bind_ok (bind_ok hr (bind_ok hw rfl)) (bind_ok (runSlots_of_performs hp) rfl)

theorem atomicMessage_eq {s s1 : State} {m : Msg} {o : Atomic} {l : AtomLayout} {mode : Simd} {k n : Nat} {returns : Bool}
    {active : List Nat} {addr : Nat → Nat} {loc : Locator} {vals : List (Nat × Nat)} (ho : o.sources = .ok n)
    (hn : k + l.sourceRegs mode n ≤ m.body.length)
    (h : Performs m o n l mode k loc s (slotSequence s l.bytes active (active.map addr)) s1 vals) :
    atomicMessage s m o l mode k returns active addr loc = .ok (s1, atomicAnswer s l mode returns vals) :=
  bind_ok ho (bind_ok (need_ok hn) (bind_ok (runSlots_of_performs h) rfl))

end Sys2Proof.Proofs.Ports
end

section
/-! PROOFS. The shared functions that are no data ports, and the four send opcodes (O31 to O36). -/

namespace Sys2Proof.Proofs.SharedFunctions

open Sys2Proof.Machine Sys2Proof.Claims Sys2Proof.Proofs.Messages Sys2Proof.Proofs.Ports

/-! ### The open functions and the fence -/

/-- What a shared function whose processing is open answers. -/
theorem openFunction_eq (m : Msg) (s : State) :
    openFunction m s = .ok (s, wholeRegs ((List.range m.responseLength).map fun i =>
      Config.sharedFn m.sfid.code (m.desc.setWidth 32) m.ex m.payload s.draws i)) := rfl

/-- Video motion estimation answers as an open function when the surface it names, if any, is legal. -/
theorem motionEstimation_eq {m : Msg} {s : State}
    (h : 0xF0 ≤ m.bits 0 8 ∧ m.bits 0 8 ≠ 0xFC ∨
      ∃ a u, surfaceStateAddress s m = .ok a ∧ readMediaSurface s a .motion = .ok u) :
    motionEstimation m s = openFunction m s := by
  unfold motionEstimation
  split
  · rename_i hb
    rcases h with ⟨h1, h2⟩ | ⟨a, u, ha, hu⟩
    · omega
    · exact bind_ok ha (bind_ok hu rfl)
  · rfl

/-- Settles O31: each of these shared functions answers without a condition, or under the one named. -/
theorem openSharedFunctionsComplete : Obligations.OpenSharedFunctionsComplete := by
  unfold Obligations.OpenSharedFunctionsComplete
  intro f s m base hi
  refine ⟨exec_of_answer rfl hi rfl rfl, exec_of_answer rfl hi rfl rfl, rfl, fun zero hz => ?_, fun mk hmk => ?_⟩
  · exact exec_of_answer rfl hi (bind_ok hz rfl) rfl
  · rcases hmk with hmk | ⟨rfl, hv⟩
    · simp only [List.mem_cons, List.not_mem_nil, or_false] at hmk
      rcases hmk with rfl | rfl
      · exact exec_of_answer rfl hi (openFunction_eq m s) rfl
      · exact exec_of_answer rfl hi (openFunction_eq m s) rfl
    · exact exec_of_answer rfl hi (motionEstimation_eq hv) rfl

/-! ### The send opcodes -/

theorem handlerOf_opcodeOf (f : SendForm) : handlerOf (opcodeOf f) = some (f, sharedFunction) := by
  cases f with
  | plain w o => cases w <;> rfl
  | split w o => cases w <;> rfl

/-- No slot is enabled where no channel is. -/
theorem slotMask_eq_zero {t : Thread} {k : Ctl} {off : Nat}
    (h : ∀ i, i < k.exec.channels → writeEnable t k (off + i) = false) : slotMask t k off = 0#32 := by
  have fold : ∀ l : List Nat, (∀ i ∈ l, writeEnable t k (off + i) = false) →
      l.foldl (fun m i => setBit m i (writeEnable t k (off + i))) 0#32 = 0#32 := by
    intro l
    induction l with
    | nil => intro _; rfl
    | cons i l ih =>
      intro hl
      rw [List.foldl_cons, hl i (by simp)]
      have h0 : setBit 0#32 i false = 0#32 := by simp [setBit]
      rw [h0]
      exact ih fun j hj => hl j (List.mem_cons_of_mem _ hj)
  exact fold _ fun i hi => h i (List.mem_range.1 hi)

/-- A send that waits for a dependency leaves the machine as it is. -/
theorem issueMessage_waits {f : SendForm} {s : State} (h : Handler) (hw : sendWaits f = true)
    (hd : s.eu.hasDependency = true) : issueMessage f h s = .ok s := by
  unfold issueMessage
  simp only [hw, hd, Bool.and_self, if_true, Exec.pure_eq]

/-- A predicated send with no channel enabled only advances. -/
theorem issueMessage_off {f : SendForm} {s : State} (h : Handler) {off : Nat}
    (hr : sendWaits f = false ∨ s.eu.hasDependency = false) (ho : channelOffset (sendCtl f) false = .ok off)
    (hf : checkFlags (sendCtl f) false off (sendCtl f).exec.channels = .ok ()) (hp : (sendCtl f).pred ≠ .none)
    (hc : ∀ i, i < (sendCtl f).exec.channels → writeEnable s.eu (sendCtl f) (off + i) = false)
    (hn : s.eu.ip.toNat + Ctl.bytes (sendCtl f) < 2 ^ 32) :
    issueMessage f h s =
      .ok { s with eu := s.eu.goto (BitVec.ofNat 32 (s.eu.ip.toNat + Ctl.bytes (sendCtl f))) } := by
  have hready : (sendWaits f && s.eu.hasDependency) = false := by
    rcases hr with h | h <;> simp [h]
  unfold issueMessage
  simp only [hready, Bool.false_eq_true, if_false, ho, hf, Exec.ok_bind, slotMask_eq_zero hc]
  rw [if_pos (by simp [hp]), Thread.advance_eq_ok.2 ⟨hn, rfl⟩]
  rfl

/-- Settles O32: a send's shared function is the one its message names. -/
theorem sendOpcodesReachTheirFunction : Obligations.SendOpcodesReachTheirFunction := by
  unfold Obligations.SendOpcodesReachTheirFunction
  refine ⟨fun f s m base hi => ⟨fun hn => ?_, fun h0 h18 h14 => ?_, fun s1 data ha hip => ?_⟩, fun f s hw hd => ?_,
    fun f s off hr ho hf hp hc hn => ?_⟩
  · refine exec_of_answer (handlerOf_opcodeOf f) hi ?_ rfl
    unfold sharedFunction
    rw [hi.sfid, hn]
    rfl
  · refine exec_of_answer (handlerOf_opcodeOf f) hi ?_ rfl
    unfold sharedFunction
    rw [hi.sfid, h0]
    simp only [dataPort0, h18, Nat.zero_ne_one, if_false, h14]
    rfl
  · exact exec_of_answer (handlerOf_opcodeOf f) hi ha hip
  · rw [exec_of_handlerOf (handlerOf_opcodeOf f), issueMessage_waits _ hw hd]
    rfl
  · rw [exec_of_handlerOf (handlerOf_opcodeOf f), issueMessage_off _ hr ho hf hp hc hn]
    rfl

/-! ### The gateway and the unified return buffer -/

/-- An arrival at a barrier: it counts, or fills the barrier. -/
theorem arrive_eq {s : State} {g : Group} (ho : s.ownGroup = some g) (hb : g.barrier = true) :
    s.arrive = if g.expected ≤ g.count + 1 then
      { s with
        groups := s.groups.map fun h => if h.id == g.id then { h with count := 0 } else h
        eu := s.eu.notifyGroup s.eu.group
        parked := s.parked.map (Thread.notifyGroup · s.eu.group) }
      else { s with groups := s.groups.map fun h => if h.id == g.id then { h with count := h.count + 1 } else h } := by
  unfold State.arrive
  by_cases hf : g.expected ≤ g.count + 1
  · simp [ho, hb, hf]
  · simp [ho, hb, hf]

/-- Settles O33: a barrier message is an arrival. -/
theorem gatewayBarrierCountsArrivals : Obligations.GatewayBarrierCountsArrivals := by
  unfold Obligations.GatewayBarrierCountsArrivals
  intro f s m base hi
  refine ⟨fun hn => ?_, fun g hy ho hb => ⟨fun hlt => ?_, fun hge => ?_⟩⟩
  · exact exec_of_answer rfl hi (by simp [gateway, hn]) rfl
  · have ha : gateway m s = .ok (s.arrive, []) := by simp [gateway, hy]
    rw [arrive_eq ho hb, if_neg (by omega)] at ha
    exact exec_of_answer rfl hi ha rfl
  · have ha : gateway m s = .ok (s.arrive, []) := by simp [gateway, hy]
    rw [arrive_eq ho hb, if_pos hge] at ha
    refine exec_of_answer rfl hi ha ?_
    unfold Thread.notifyGroup
    dsimp only
    split <;> rfl

/-- A row of a URB message lies inside the unified return buffer. -/
theorem urbRow_le {m : Msg} {i h a : Nat} (e : urbRow m i h = some a) : a + 16 ≤ Config.urbSize := by
  unfold urbRow at e
  dsimp only at e
  split at e
  · rename_i hle
    rw [← Option.some.inj e]
    exact hle
  · cases e

/-- Settles O34: a URB message writes, or answers row by row. -/
theorem urbMessagesWriteOrReadRows : Obligations.UrbMessagesWriteOrReadRows := by
  unfold Obligations.UrbMessagesWriteOrReadRows
  intro f s m base hi
  refine ⟨fun hw => exec_of_answer rfl hi (by simp only [urbFunction, hw, if_true]) rfl, fun hr => ⟨?_, ?_⟩⟩
  · exact exec_of_answer rfl hi (by simp only [urbFunction, hr, Bool.false_eq_true, if_false]) rfl
  · intro i h a e
    exact ⟨by unfold urbReadHalf; rw [e], urbRow_le e⟩

/-! ### The thread spawner -/

theorem spawnerCheck_ok {m : Msg} (h : SpawnerLegal m) : spawnerCheck m = .ok () := by
  obtain ⟨hh, h1, h2, h3⟩ := h
  exact bind_ok (headerForbidden_ok hh)
    (bind_ok (require_ok (by simp [h1])) (bind_ok (require_ok (by simp [h2])) (require_ok (by simp [h3]))))

theorem dereferenceResource_eq {m : Msg} (s : State) (h : DereferenceLegal m) :
    dereferenceResource m s = .ok (dereferenced s m, []) := by
  obtain ⟨hs, h1, h2⟩ := h
  exact bind_ok (spawnerCheck_ok hs) (bind_ok (require_ok (by simp [h1])) (bind_ok (require_ok (by simp [h2])) rfl))

theorem spawnThread_eq {m : Msg} (s : State) (h : SpawnerLegal m) (he : m.eot = false) :
    spawnThread m s = .ok (spawned s m, []) :=
  bind_ok (spawnerCheck_ok h) (bind_ok (require_ok (by simp [he])) rfl)

/-- Settles O35: the two messages, by themselves and as the thread spawner's. -/
theorem threadSpawnerMessagesComplete : Obligations.ThreadSpawnerMessagesComplete := by
  unfold Obligations.ThreadSpawnerMessagesComplete
  intro f s m base hi
  refine ⟨fun hd => exec_of_answer rfl hi (dereferenceResource_eq s hd) rfl,
    fun hs he => exec_of_answer rfl hi (spawnThread_eq s hs he) rfl, fun hd h0 => ?_, fun hs he h1 => ?_⟩
  · refine exec_of_answer rfl hi ?_ rfl
    rw [threadSpawner, h0]
    exact dereferenceResource_eq s hd
  · refine exec_of_answer rfl hi ?_ rfl
    rw [threadSpawner, h1]
    exact spawnThread_eq s hs he

/-- What the end of a thread leaves. -/
theorem endThread_ends (s : State) :
    s.endThread.eu.run = .ended ∧ (∀ r ∈ s.endThread.pending, r.tid ≠ s.eu.tid) ∧
      (∀ e ∈ s.endThread.media.live, e.2.2 ≠ s.eu.tid) ∧
      ((∀ u ∈ s.parked, u.group ≠ s.eu.group) → (∀ h ∈ s.media.waiting, h.group ≠ s.eu.group) →
        ∀ g ∈ s.endThread.groups, some g.id ≠ s.eu.group) := by
  refine ⟨rfl, fun r hr => ?_, fun e he => ?_, fun hp hw g hg => ?_⟩
  · simpa using (List.mem_filter.1 hr).2
  · simpa using (List.mem_filter.1 he).2
  · have hlast : ((s.parked.map (Thread.clearDependency · s.eu.fftid)).any (fun t => t.group == s.eu.group) ||
        s.media.waiting.any fun h => h.group == s.eu.group) = false := by
      simp only [Bool.or_eq_false_iff, List.any_eq_false, List.mem_map, beq_iff_eq]
      refine ⟨?_, fun h hh => hw h hh⟩
      rintro _ ⟨u, hu, rfl⟩
      exact hp u hu
    simp only [State.endThread, hlast, Bool.not_false, if_true, List.mem_filter] at hg
    simpa using hg.2

/-- With EOT, a sent message has ended its thread: nothing else of the state it is finished in changes. -/
theorem sent_eot {f : SendForm} {m : Msg} {base : Option Nat} {s1 : State} {data : Answer} (he : m.eot = true) :
    ∃ l, sent f m base s1 data =
      State.endThread { s1 with
        eu := s1.eu.goto (BitVec.ofNat 32 (s1.eu.ip.toNat + Ctl.bytes (sendCtl f))), pending := s1.pending ++ l } := by
  unfold sent
  rw [if_pos he]
  cases base with
  | none => exact ⟨[], by simp⟩
  | some r =>
    cases m.responseLength with
    | zero => exact ⟨[], by simp⟩
    | succ n => exact ⟨[_], rfl⟩

/-- Settles O36: the end of the thread that a Dereference Resource with EOT is. -/
theorem endOfThreadEndsTheThread : Obligations.EndOfThreadEndsTheThread := by
  unfold Obligations.EndOfThreadEndsTheThread
  intro f s m base hi he hd
  have hx := exec_of_answer (i := .tsDereference f) rfl hi (dereferenceResource_eq s hd) rfl
  obtain ⟨l, hl⟩ := sent_eot (f := f) (base := base) (s1 := dereferenced s m) (data := []) he
  rw [hl] at hx
  obtain ⟨hrun, hpend, hlive, hgr⟩ := endThread_ends { dereferenced s m with
    eu := (dereferenced s m).eu.goto (BitVec.ofNat 32 ((dereferenced s m).eu.ip.toNat + Ctl.bytes (sendCtl f)))
    pending := (dereferenced s m).pending ++ l }
  exact ⟨_, hx, hrun, rfl, rfl, hpend, hlive, fun g hg => mem_groups_of_endThread hg, hgr⟩

end Sys2Proof.Proofs.SharedFunctions
end

section
/-! PROOFS. The data port messages that address bytes: blocks, scattered elements, untyped channels, atomics (O37 to O42). -/

namespace Sys2Proof.Proofs.BytePorts

open Sys2Proof.Machine Sys2Proof.Claims Sys2Proof.Proofs.Messages Sys2Proof.Proofs.Ports

/-- A message that stores elements completes when they are stored and its shared function says so. -/
theorem exec_of_stores {i : Instr} {f : SendForm} {h : Handler} (hh : handlerOf i = some (f, h)) {s s1 : State} {m : Msg}
    {base : Option Nat} (hi : Issues f s m base) {l : List (Space × Nat × Nat × Nat)} (hs : Stores s l s1)
    (ha : h m s = .ok (s1, [])) : exec i s = .next (sent f m base s1 []) :=
  exec_of_answer hh hi ha (by rw [stores_eu hs])

/-- A message that reads. -/
theorem exec_of_read {i : Instr} {f : SendForm} {h : Handler} (hh : handlerOf i = some (f, h)) {s : State} {m : Msg}
    {base : Option Nat} (hi : Issues f s m base) {data : Answer} (ha : h m s = .ok (s, data)) :
    exec i s = .next (sent f m base s data) := exec_of_answer hh hi ha rfl

/-! ### Blocks -/

theorem owordBlockRead_eq {x : Index} {unit align : Nat} {s : State} {m : Msg} {n half : Nat} {sp : Space} {v : Nat → Nat}
    (h13 : m.bits 13 1 = 0) (hc : owordCount (m.bits 8 3) = .ok (n, half)) (hb : blockSpace s m x = .ok sp)
    (ha : m.globalOffset * unit % align = 0)
    (hr : ∀ j, j < n →
      Space.read s (sp.block (m.globalOffset * unit) (16 * n)) (m.globalOffset * unit + 16 * j) 16 = .ok (v j)) :
    owordBlockRead x unit align m s =
      .ok (s, responseFrom s ((n + half + 1) / 2) (blockPieces 0 half 0 ((List.range n).map v))) :=
  bind_ok (require_ok (decide_eq_true h13)) (bind_ok hc
    (bind_ok (a := (sp, m.globalOffset * unit)) (bind_ok (aligned_ok ha) (bind_ok hb rfl)) (blockRead_eq hr)))

theorem owordBlockWrite_eq {s s1 : State} {m : Msg} {n half : Nat} {sp : Space}
    (hc : owordCount (m.bits 8 3) = .ok (n, half)) (hb : blockSpace s m .shared = .ok sp)
    (hn : (n + half + 1) / 2 ≤ m.body.length)
    (hs : Stores s ((List.range n).map fun j =>
      (sp.block (m.globalOffset * 16) (16 * n), m.globalOffset * 16 + 16 * j, 16,
        (oword (m.reg ((half + j) / 2)) ((half + j) % 2)).toNat)) s1) :
    owordBlockWrite 16 1 m s = .ok (s1, []) :=
  bind_ok hc (bind_ok (a := (sp, m.globalOffset * 16)) (bind_ok (aligned_ok (Nat.mod_one _)) (bind_ok hb rfl))
    (blockWrite_eq hn hs))

theorem owordDualRead_eq {x : Index} {s : State} {m : Msg} {n : Nat} {sp : Space} {v : Nat → Nat → Nat}
    (h13 : m.bits 13 1 = 0) (hc : dualCount (m.bits 8 2) = .ok n) (hn : 1 ≤ m.body.length)
    (hb : blockSpace s m x = .ok sp)
    (hr : ∀ i ∈ plainActive m .s4x2, ∀ e, e < n →
      Space.read s (dualBlock m sp n i) (16 * (m.globalOffset + (m.dw .s4x2 0 0 i).toNat) + 16 * e) 16 = .ok (v i e)) :
    owordDualRead x m s = .ok (s, responseFrom s n ((plainActive m .s4x2).flatMap fun i =>
      (List.range n).map fun e => (e, (128 * i, 128, v i e)))) :=
  bind_ok (require_ok (decide_eq_true h13)) (bind_ok hc (bind_ok (need_ok hn) (bind_ok hb (dualRead_eq hr))))

theorem owordDualWrite_eq {s s1 : State} {m : Msg} {n : Nat} {sp : Space} (hc : dualCount (m.bits 8 2) = .ok n)
    (hb : blockSpace s m .shared = .ok sp) (hn : 1 + n ≤ m.body.length)
    (hs : Stores s ((slotSequence s (16 * n) (plainActive m .s4x2) ((plainActive m .s4x2).map fun i =>
        16 * (m.globalOffset + (m.dw .s4x2 0 0 i).toNat))).flatMap fun i => (List.range n).map fun e =>
      (dualBlock m sp n i, 16 * (m.globalOffset + (m.dw .s4x2 0 0 i).toNat) + 16 * e, 16,
        (oword (m.reg (1 + e)) i).toNat)) s1) :
    owordDualWrite m s = .ok (s1, []) :=
  bind_ok hc (bind_ok hb (dualWrite_eq hn hs))

/-- Settles O37: block by block, and slot by slot of a dual block. -/
theorem oWordBlockMessagesComplete : Obligations.OWordBlockMessagesComplete := by
  unfold Obligations.OWordBlockMessagesComplete
  refine ⟨⟨?_, ?_⟩, ?_⟩
  · intro mk x unit align hmem f s m base n half sp v hi h13 hc hb ha hr
    have key := owordBlockRead_eq h13 hc hb ha hr
    simp only [blockReads, List.mem_cons, Prod.mk.injEq, List.not_mem_nil, or_false] at hmem
    rcases hmem with ⟨rfl, rfl, rfl, rfl⟩ | ⟨rfl, rfl, rfl, rfl⟩ | ⟨rfl, rfl, rfl, rfl⟩ | ⟨rfl, rfl, rfl, rfl⟩ |
      ⟨rfl, rfl, rfl, rfl⟩
    · exact exec_of_read rfl hi key
    · exact exec_of_read rfl hi key
    · exact exec_of_read rfl hi key
    · exact exec_of_read rfl hi key
    · exact exec_of_read rfl hi key
  · intro f s s1 m base n half sp hi hc hb hn hs
    exact exec_of_stores rfl hi hs (owordBlockWrite_eq hc hb hn hs)
  · intro f s m base n sp hi hc
    refine ⟨fun mk x hmem v hb hn h13 hr => ?_, fun s1 hb hn hs => ?_⟩
    · have key := owordDualRead_eq h13 hc hn hb hr
      simp only [List.mem_cons, Prod.mk.injEq, List.not_mem_nil, or_false] at hmem
      rcases hmem with ⟨rfl, rfl⟩ | ⟨rfl, rfl⟩
      · exact exec_of_read rfl hi key
      · exact exec_of_read rfl hi key
    · exact exec_of_stores rfl hi hs (owordDualWrite_eq hc hb hn hs)

/-! ### Untyped channels -/

/-- Settles O38: the four ways of addressing, each with its read and its write. -/
theorem untypedMessagesComplete : Obligations.UntypedMessagesComplete := by
  unfold Obligations.UntypedMessagesComplete
  refine ⟨?_, ?_⟩
  · intro f s m base mode rd wr active addr loc k v hi hm hu ha hmask hr
    have read := channelRead_eq (mode := mode) hmask hr
    have hal := alignedAll_ok ha
    cases hu with
    | a32 sp u hs hn => exact exec_of_read rfl hi (bind_ok hm (bind_ok hs (bind_ok (need_ok hn) (bind_ok hal read))))
    | scaled sp addr hs hn =>
      exact exec_of_read rfl hi (bind_ok hm (bind_ok (need_ok hn) (bind_ok hs (bind_ok hal read))))
    | a64 nc hx hn => exact exec_of_read rfl hi (bind_ok hx (bind_ok hm (bind_ok (need_ok hn) (bind_ok hal read))))
    | scaledA64 addr k hs hn =>
      exact exec_of_read rfl hi (bind_ok hm (bind_ok hs (bind_ok (need_ok hn) (bind_ok hal read))))
  · intro f s s1 m base mode rd wr active addr loc k hi hm hu ha hmask hlen hs1
    have write := channelWrite_eq hmask hlen hs1
    have hal := alignedAll_ok ha
    cases hu with
    | a32 sp u hs hn => exact exec_of_stores rfl hi hs1 (bind_ok hm (bind_ok hs (bind_ok hal write)))
    | scaled sp addr hs hn =>
      exact exec_of_stores rfl hi hs1 (bind_ok hm (bind_ok (need_ok hn) (bind_ok hs (bind_ok hal write))))
    | a64 nc hx hn => exact exec_of_stores rfl hi hs1 (bind_ok hx (bind_ok hm (bind_ok hal write)))
    | scaledA64 addr k hs hn => exact exec_of_stores rfl hi hs1 (bind_ok hm (bind_ok hs (bind_ok hal write)))

/-! ### Scattered elements -/

/-- Settles O39: the scattered messages with 32-bit offsets, and those with 64-bit addresses. -/
theorem scatteredMessagesComplete : Obligations.ScatteredMessagesComplete := by
  unfold Obligations.ScatteredMessagesComplete
  refine ⟨⟨?_, ?_⟩, ?_⟩
  · intro f s m base v sp hi
    refine ⟨fun mk x hmem hb hn hr => ?_, fun n hb hn hd hr => ?_, fun n addr hd hs hn hr => ?_⟩
    · have key : dwordScatteredRead x m s = _ :=
        bind_ok (need_ok hn) (bind_ok hb (scatteredRead_eq (v := v) hr))
      simp only [List.mem_cons, Prod.mk.injEq, List.not_mem_nil, or_false] at hmem
      rcases hmem with ⟨rfl, rfl⟩ | ⟨rfl, rfl⟩
      · exact exec_of_read rfl hi key
      · exact exec_of_read rfl hi key
    · exact exec_of_read rfl hi (bind_ok hd (bind_ok (need_ok hn) (bind_ok hb (scatteredRead_eq hr))))
    · exact exec_of_read rfl hi (bind_ok hd (bind_ok (need_ok hn) (bind_ok hs (scatteredRead_eq hr))))
  · intro f s s1 m base sp hi
    refine ⟨fun hb hn hs1 => ?_, fun n hb hn hd hs1 => ?_, fun n addr hd hs hn hs1 => ?_⟩
    · exact exec_of_stores rfl hi hs1 (bind_ok hb (scatteredWrite_eq (by omega) hs1))
    · exact exec_of_stores rfl hi hs1 (bind_ok hd (bind_ok hb (scatteredWrite_eq (by omega) hs1)))
    · exact exec_of_stores rfl hi hs1
        (bind_ok hd (bind_ok (need_ok (by omega)) (bind_ok hs (scatteredWrite_eq (by omega) hs1))))
  · intro f s m base z rd wr nc addr k mode n hi hz he hl
    refine ⟨fun v hr => ?_, fun s1 hn hs1 => ?_⟩
    · have read := elementRead_eq hl hr
      cases he with
      | a64 nc hx hn => exact exec_of_read rfl hi (bind_ok hx (bind_ok hz (bind_ok (need_ok hn) read)))
      | scaled addr k hs hn => exact exec_of_read rfl hi (bind_ok hz (bind_ok hs (bind_ok (need_ok hn) read)))
    · have write := elementWrite_eq hl hn hs1
      cases he with
      | a64 nc hx hn => exact exec_of_stores rfl hi hs1 (bind_ok hx (bind_ok hz write))
      | scaled addr k hs hn => exact exec_of_stores rfl hi hs1 (bind_ok hz (bind_ok hs write))

/-! ### A64 blocks -/

theorem a64BlockRead_oword {s : State} {m : Msg} {nc : Bool} {n half : Nat} {v : Nat → Nat} (hx : a64Index m = .ok nc)
    (hc : owordCount (m.bits 8 3) = .ok (n, half))
    (ht : m.bits 11 2 = 0 ∧ (qword m.first 0).toNat % 16 = 0 ∨ m.bits 11 2 = 1 ∧ (qword m.first 0).toNat % 4 = 0)
    (hr : ∀ j, j < n →
      Space.read s ((a64Space nc (qword m.first 0).toNat (16 * n)).block 0 (16 * n)) (16 * j) 16 = .ok (v j)) :
    a64BlockRead m s =
      .ok (s, responseFrom s ((n + half + 1) / 2) (blockPieces 0 half 0 ((List.range n).map v))) := by
  refine bind_ok hx ?_
  have read := blockRead_eq (off := 0) (half := half) fun j hj => by rw [Nat.zero_add]; exact hr j hj
  rcases ht with ⟨ht, ha⟩ | ⟨ht, ha⟩
  · simp only [ht]
    exact bind_ok (aligned_ok ha) (bind_ok hc read)
  · simp only [ht]
    exact bind_ok (aligned_ok ha) (bind_ok hc read)

theorem a64BlockWrite_oword {s s1 : State} {m : Msg} {nc : Bool} {n half : Nat} (hx : a64Index m = .ok nc)
    (hc : owordCount (m.bits 8 3) = .ok (n, half))
    (ht : m.bits 11 2 = 0 ∧ (qword m.first 0).toNat % 16 = 0 ∨ m.bits 11 2 = 1 ∧ (qword m.first 0).toNat % 4 = 0)
    (hn : (n + half + 1) / 2 ≤ m.afterFirst.body.length)
    (hs : Stores s ((List.range n).map fun j =>
      ((a64Space nc (qword m.first 0).toNat (16 * n)).block 0 (16 * n), 16 * j, 16,
        (oword (m.afterFirst.reg ((half + j) / 2)) ((half + j) % 2)).toNat)) s1) :
    a64BlockWrite m s = .ok (s1, []) := by
  refine bind_ok hx ?_
  have write := blockWrite_eq (off := 0) hn (by simpa only [Nat.zero_add] using hs)
  rcases ht with ⟨ht, ha⟩ | ⟨ht, ha⟩
  · simp only [ht]
    exact bind_ok (aligned_ok ha) (bind_ok hc write)
  · simp only [ht]
    exact bind_ok (aligned_ok ha) (bind_ok hc write)

/-- Settles O40: by the block message's subtype. -/
theorem a64BlockMessagesComplete : Obligations.A64BlockMessagesComplete := by
  unfold Obligations.A64BlockMessagesComplete
  refine ⟨?_, ?_, ?_⟩
  · rintro f s m base nc n half a hi hx rfl hc ht
    exact ⟨fun v hr => exec_of_read rfl hi (a64BlockRead_oword hx hc ht hr),
      fun s1 hn hs => exec_of_stores rfl hi hs (a64BlockWrite_oword hx hc ht hn hs)⟩
  · intro f s m base nc n hi hx ht hc ha
    refine ⟨fun v hr => exec_of_read rfl hi (bind_ok hx ?_), fun s1 hn hs => exec_of_stores rfl hi hs (bind_ok hx ?_)⟩
    · simp only [ht]
      exact bind_ok hc (bind_ok (alignedAll_ok ha)
        (dualRead_eq fun i hi e he => by rw [Nat.zero_add]; exact hr i hi e he))
    · simp only [ht]
      exact bind_ok hc (bind_ok (alignedAll_ok ha)
        (dualWrite_eq (by omega) (by simpa only [Nat.zero_add] using hs)))
  · rintro f s m base nc byDword n a hi hx rfl ht hc ha rfl
    refine ⟨fun v hr => exec_of_read rfl hi (bind_ok hx ?_), fun s1 hn hs => exec_of_stores rfl hi hs (bind_ok hx ?_)⟩
    · simp only [ht]
      exact bind_ok (aligned_ok ha) (bind_ok hc
        (hwordRead_eq fun j hj d hd => by rw [Nat.zero_add]; exact hr j hj d hd))
    · simp only [ht]
      exact bind_ok (aligned_ok ha) (bind_ok hc (hwordWrite_eq hn (by simpa only [a64Block, Nat.zero_add] using hs)))

/-! ### Atomics -/

/-- An atomic message completes when its slots are performed and its shared function says so. -/
theorem exec_of_performs {i : Instr} {f : SendForm} {h : Handler} (hh : handlerOf i = some (f, h)) {s s1 : State} {m : Msg}
    {base : Option Nat} (hi : Issues f s m base) {o : Atomic} {n : Nat} {l : AtomLayout} {mode : Simd} {k : Nat}
    {loc : Locator} {slots : List Nat} {vals : List (Nat × Nat)} (hp : Performs m o n l mode k loc s slots s1 vals)
    {data : Answer} (ha : h m s = .ok (s1, data)) : exec i s = .next (sent f m base s1 data) :=
  exec_of_answer hh hi ha (by rw [performs_keeps hp])

/-- Settles O41: the atomics by surface, and by 64-bit address. -/
theorem untypedAndA64AtomicsComplete : Obligations.UntypedAndA64AtomicsComplete := by
  unfold Obligations.UntypedAndA64AtomicsComplete
  refine ⟨?_, ?_⟩
  · intro mk op md hmem f s s1 m base sp u n vals hi hs ho hn ha hp
    have key : untypedAtomic op md m s = .ok (s1, atomicAnswer s (untypedLayout (op m)) (md m) (m.bits 13 1 = 1) vals) :=
      bind_ok hs (bind_ok (alignedAll_ok ha) (atomicMessage_eq ho hn hp))
    simp only [untypedAtomics, List.mem_cons, Prod.mk.injEq, List.not_mem_nil, or_false] at hmem
    rcases hmem with ⟨rfl, rfl, rfl⟩ | ⟨rfl, rfl, rfl⟩ | ⟨rfl, rfl, rfl⟩ | ⟨rfl, rfl, rfl⟩
    · exact exec_of_performs rfl hi hp key
    · exact exec_of_performs rfl hi hp key
    · exact exec_of_performs rfl hi hp key
    · exact exec_of_performs rfl hi hp key
  · intro mk op mode wide hmem f s s1 m base nc n vals hi hx ho hn ha hp
    have key : a64Atomic op mode wide m s =
        .ok (s1, atomicAnswer s (a64Layout (wide m) (op m)) mode (m.bits 13 1 = 1) vals) :=
      bind_ok hx (bind_ok (alignedAll_ok ha) (atomicMessage_eq ho hn hp))
    simp only [a64Atomics, List.mem_cons, Prod.mk.injEq, List.not_mem_nil, or_false] at hmem
    rcases hmem with ⟨rfl, rfl, rfl, rfl⟩ | ⟨rfl, rfl, rfl, rfl⟩ | ⟨rfl, rfl, rfl, rfl⟩ | ⟨rfl, rfl, rfl, rfl⟩
    · exact exec_of_performs rfl hi hp key
    · exact exec_of_performs rfl hi hp key
    · exact exec_of_performs rfl hi hp key
    · exact exec_of_performs rfl hi hp key

/-- How wide an integer atomic's values are. -/
theorem untypedLayout_intOp (m : Msg) :
    (if m.bits 8 4 = 0 then AtomLayout.split else AtomLayout.dword) = untypedLayout (intOp m) := by
  simp only [untypedLayout, intOp, Atomic.int.injEq]

theorem typedAtomic_eq {s s1 : State} {m : Msg} {u : Surface} {mode : Simd} {n : Nat} {returns : Bool}
    {active : List Nat} {vals : List (Nat × Nat)} (ho : (intOp m).sources = .ok n)
    (hn : typedRegs u mode + (untypedLayout (intOp m)).sourceRegs mode n ≤ m.body.length)
    (hl : LodsLegal m u mode active)
    (hp : Performs m (intOp m) n (untypedLayout (intOp m)) mode (typedRegs u mode) (typedLocator m u mode) s
      (slotSequence s (untypedLayout (intOp m)).bytes active (active.map (typedAddress m u mode))) s1 vals) :
    typedAtomic s m u (m.bits 8 4) mode returns active =
      .ok (s1, atomicAnswer s (untypedLayout (intOp m)) mode returns vals) := by
  refine bind_ok (checkLods_ok hl) ?_
  dsimp only
  rw [untypedLayout_intOp]
  exact atomicMessage_eq ho hn hp

theorem counterAtomic_eq {s s1 : State} {m : Msg} {u : Surface} {mode : Simd} {n : Nat} {returns : Bool}
    {active : List Nat} {vals : List (Nat × Nat)} (ho : (intOp m).sources = .ok n)
    (hn : (untypedLayout (intOp m)).sourceRegs mode n ≤ m.body.length)
    (hp : Performs m (intOp m) n (untypedLayout (intOp m)) mode 0
      (fun _ d _ => (if u.ty = surfNull then .zero else .memory (Machine.counterAddress u) 8 u.coherency, d)) s
      (slotSequence s (untypedLayout (intOp m)).bytes active (active.map fun _ => Machine.counterAddress u)) s1 vals) :
    counterAtomic s m u (m.bits 8 4) mode returns active =
      .ok (s1, atomicAnswer s (untypedLayout (intOp m)) mode returns vals) := by
  unfold counterAtomic
  dsimp only
  rw [untypedLayout_intOp]
  exact atomicMessage_eq ho (by omega) hp

/-- Settles O42: on the surface's elements, and on its counter. -/
theorem typedAtomicsComplete : Obligations.TypedAtomicsComplete := by
  unfold Obligations.TypedAtomicsComplete
  intro f s s1 m base u n vals mode hi hu ho
  refine ⟨fun mk hmk hn hl hp => ?_, fun mk hmk hn hp => ?_⟩
  · have key : typedAtomicMessage mode false m s = _ :=
      bind_ok hu (bind_ok (need_ok (Nat.le_trans (Nat.le_add_right _ _) hn)) (typedAtomic_eq ho hn hl hp))
    rcases hmk with ⟨rfl, rfl⟩ | ⟨rfl, rfl⟩
    · exact exec_of_performs rfl hi hp key
    · exact exec_of_performs rfl hi hp key
  · have key : typedAtomicMessage mode true m s = _ := bind_ok hu (counterAtomic_eq ho hn hp)
    rcases hmk with ⟨rfl, rfl⟩ | ⟨rfl, rfl⟩
    · exact exec_of_performs rfl hi hp key
    · exact exec_of_performs rfl hi hp key

end Sys2Proof.Proofs.BytePorts
end

section
/-! PROOFS. The messages on surfaces with coordinates: typed surfaces, surface information, media blocks (O43 to O45). -/

namespace Sys2Proof.Proofs.SurfacePorts

open Sys2Proof.Machine Sys2Proof.Claims Sys2Proof.Proofs.Stores Sys2Proof.Proofs.Messages Sys2Proof.Proofs.Ports
  Sys2Proof.Proofs.BytePorts

/-- A message whose shared function only stores elements completes with its answer. -/
theorem exec_of_storing {i : Instr} {f : SendForm} {h : Handler} (hh : handlerOf i = some (f, h)) (hs : Storing h)
    {s s1 : State} {m : Msg} {base : Option Nat} (hi : Issues f s m base) {data : Answer} (ha : h m s = .ok (s1, data)) :
    exec i s = .next (sent f m base s1 data) := by
  refine exec_of_answer hh hi ha ?_
  have h := (hs m s _ ha).frame
  dsimp only at h
  rw [h]

/-! ### Typed surfaces -/

theorem typedValue_toNat (s : State) (u : Surface) (p : TexelAt) (t : BitVec 128) (i c : Nat) :
    (typedValue s u p t i c).toNat =
      if u.holds p then (u.shaderValue ((s.draw (4 * i + c) 30).setWidth 32) t c).toNat else 0 := by
  unfold typedValue
  split <;> rfl

theorem typedRead_eq {s : State} {m : Msg} {u : Surface} {mode : Simd} {mask : Nat} {active : List Nat}
    {texel : Nat → BitVec 128} (hm : mask ≠ 15) (hn : typedRegs u mode ≤ m.body.length) (hl : LodsLegal m u mode active)
    (hr : ∀ i ∈ active, u.readTexel s (typedAt m u mode i).x (typedAt m u mode i).y (typedAt m u mode i).r
      (typedAt m u mode i).lod (typedAt m u mode i).sample = .ok (texel i)) :
    typedRead s m u mode mask active = .ok (s, typedAnswer s m u mode mask active texel) := by
  refine bind_ok (checkMask_ok hm) (bind_ok (need_ok hn) (bind_ok (checkLods_ok hl)
    (bind_ok (sequence_map_ok _ _ active fun i hi => bind_ok (hr i hi) rfl) ?_)))
  simp only [typedValue_toNat, Exec.pure_eq]
  rfl

/-- The texels of a typed write, one slot after another. -/
theorem runAll_of_storesTexels {m : Msg} {u : Surface} {mode : Simd} {mask : Nat} :
    ∀ {l : List Nat} {s s1 : State}, StoresTexels m u mode mask s l s1 →
      runAll s l (fun t i => do
        let old ← u.readTexel t (typedAt m u mode i).x (typedAt m u mode i).y (typedAt m u mode i).r
          (typedAt m u mode i).lod (typedAt m u mode i).sample
        u.writeTexel t (typedAt m u mode i).x (typedAt m u mode i).y (typedAt m u mode i).r (typedAt m u mode i).lod
          (typedAt m u mode i).sample (typedTexel m u mode mask i old)) = .ok s1
  | [], s, s1, h => by
    have h : s1 = s := h
    rw [h]; rfl
  | i :: l, s, s1, h => by
    obtain ⟨old, t, hr, hw, h⟩ := h
    exact bind_ok (bind_ok hr hw) (runAll_of_storesTexels h)

theorem typedWrite_eq {s s1 : State} {m : Msg} {u : Surface} {mode : Simd} {mask : Nat} {active : List Nat}
    (hm : mask ≠ 15) (hn : typedRegs u mode + channelRegs mode (typedChannels u mode mask).length ≤ m.body.length)
    (hl : LodsLegal m u mode active)
    (hs : StoresTexels m u mode mask s (slotSequence s 16 active (active.map (typedAddress m u mode))) s1) :
    typedWrite s m u mode mask active = .ok (s1, []) :=
  bind_ok (checkMask_ok hm) (bind_ok (need_ok hn) (bind_ok (checkLods_ok hl) (bind_ok (runAll_of_storesTexels hs) rfl)))

/-- Of the null surface nothing is stored. -/
theorem storesTexels_null {m : Msg} {u : Surface} {mode : Simd} {mask : Nat} {s : State} (hu : u.ty = surfNull) :
    ∀ l : List Nat, StoresTexels m u mode mask s l s
  | [] => rfl
  | i :: l => ⟨0#128, s, by simp [Surface.readTexel, hu], by simp [Surface.writeTexel, hu], storesTexels_null hu l⟩

/-- Settles O43: texel by texel. -/
theorem typedSurfaceMessagesComplete : Obligations.TypedSurfaceMessagesComplete := by
  unfold Obligations.TypedSurfaceMessagesComplete
  refine ⟨?_, ?_, ?_⟩
  · intro f s m base u mode group texel hi hg hu hm hn hl hr
    exact exec_of_read rfl hi (bind_ok hg (bind_ok hu (typedRead_eq hm hn hl hr)))
  · intro f s s1 m base u mode group hi hg hu hm hn hl hs
    exact exec_of_storing rfl typedWriteMessage_storing hi (bind_ok hg (bind_ok hu (typedWrite_eq hm hn hl hs)))
  · intro f s m base u mode group hi hg hu hm hn hl he
    have hs : StoresTexels m u mode (m.bits 8 4) s
        (slotSequence s 16 (typedActive m mode group) ((typedActive m mode group).map (typedAddress m u mode))) s := by
      rcases he with he | he
      · rw [he]; rfl
      · exact storesTexels_null he _
    exact exec_of_storing rfl typedWriteMessage_storing hi (bind_ok hg (bind_ok hu (typedWrite_eq hm hn hl hs)))

/-! ### Surface information -/

theorem readSurfaceInfo_eq {s : State} {m : Msg} {u : Surface} (hn : 1 ≤ m.body.length)
    (hu : surfaceTarget s m .info = .ok u) (hl : (dword (m.reg 0) 3).extractLsb' 0 4 ≠ 15#4) :
    readSurfaceInfo m s = .ok (s, responseFrom s 2
      ((0, (192, 64, (canonicalForm s.ctx.instructionBase).toNat)) ::
        surfaceInfo u ((dword (m.reg 0) 3).extractLsb' 0 4).toNat)) := by
  have hlod : ((dword (m.reg 0) 3).extractLsb' 0 4).toNat ≠ 15 := fun h => hl (BitVec.eq_of_toNat_eq h)
  exact bind_ok (need_ok hn) (bind_ok hu (bind_ok (require_ok (decide_eq_true hlod)) rfl))

/-- Settles O44. -/
theorem readSurfaceInfoAnswers : Obligations.ReadSurfaceInfoAnswers := by
  unfold Obligations.ReadSurfaceInfoAnswers
  intro f s m base u hi hn hu hl
  exact exec_of_read rfl hi (readSurfaceInfo_eq hn hu hl)

/-! ### Media blocks -/

theorem mediaRead_eq {s : State} {m : Msg} {u : Surface} {vlso : Nat} {c : BlockControl} {x y : Int}
    {v : Nat → Nat → Nat} (hr : ∀ e ∈ blockCells c.w c.h, mediaByte s u vlso (x + e.2) (y + e.1) = .ok (v e.1 e.2)) :
    mediaRead s m u vlso c.w c.h c.rpc c.sro x y = .ok (s, mediaAnswer c v) :=
  bind_ok (sequence_map_ok _ _ (blockCells c.w c.h) fun e he => bind_ok (hr e he) rfl) rfl

/-- A media block read with a legal merge; without merging there is none. -/
theorem mediaBlockRead_eq {merged : Bool} {s : State} {m : Msg} {u : Surface} {v : Nat → Nat → Nat}
    (hh : m.hasHeader = true) (hu : surfaceTarget s m .media = .ok u) (hw : (blockControl m).w ≤ 32)
    (hz : ((blockControl m).w + 3) / 4 * (blockControl m).h ≤ 64) (hl : MergeLegal (blockControl m))
    (hm : merged = true → (blockControl m).mode = 0)
    (hs : merged = false → (blockControl m).rpc = 1 ∧ (blockControl m).sro = 0)
    (hr : ∀ e ∈ blockCells (blockControl m).w (blockControl m).h,
      mediaByte s u (m.bits 8 3) ((dword m.header 0).toInt + e.2) ((dword m.header 1).toInt + e.1) = .ok (v e.1 e.2)) :
    mediaBlockRead merged m s = .ok (s, mediaAnswer (blockControl m) v) := by
  obtain ⟨h3, hp, ho, h1, hn⟩ := hl
  refine bind_ok (headerRequired_ok hh) (bind_ok hu (bind_ok (require_ok (decide_eq_true h3)) (bind_ok (require_ok ?_)
    (bind_ok (require_ok ?_) (bind_ok (require_ok ?_) (bind_ok (require_ok ?_) (bind_ok (require_ok ?_)
      (bind_ok (require_ok ?_) (mediaRead_eq hr)))))))))
  · cases merged with
    | true => simp [hm rfl]
    | false => simp
  · simp [hw, hz]
  · cases merged with
    | true => simp
    | false => simp [hs rfl]
  · simp [hp, ho]
  · by_cases hr1 : (blockControl m).rpc = 1
    · simp [hr1]
    · simp [hr1, hn hr1]
  · by_cases hr1 : (blockControl m).rpc = 1
    · simp [hr1, h1 hr1]
    · simp [hr1]

theorem transposeRead_eq {s : State} {m : Msg} {u : Surface} {w h : Nat} {v : Nat → Nat → Nat}
    (hh : m.hasHeader = true) (hu : surfaceTarget s m .media = .ok u)
    (hw : w = 2 ^ ((dword m.header 2).extractLsb' 0 2).toNat) (hz : h = 2 ^ ((dword m.header 2).extractLsb' 20 2).toNat)
    (hx : (dword m.header 0).toInt % (4 * w) = 0) (hy : (dword m.header 1).toInt % h = 0)
    (hr : ∀ r b, r < h → b < 4 * w →
      mediaByte s u (m.bits 8 3) ((dword m.header 0).toInt + b) ((dword m.header 1).toInt + r) = .ok (v r b)) :
    transposeRead m s = .ok (s, responseFrom s w
      ((List.range w).flatMap fun c => (List.range h).flatMap fun r => (List.range 4).map fun b =>
        (c, (32 * r + 8 * b, 8, v r (4 * c + b))))) := by
  subst hw hz
  refine bind_ok (headerRequired_ok hh) (bind_ok hu (bind_ok (require_ok ?_)
    (bind_ok (sequence_map_ok _ (fun e => (e.1, (32 * e.2.1 + 8 * e.2.2, 8, v e.2.1 (4 * e.1 + e.2.2)))) _ ?_) ?_)))
  · simp only [Bool.and_eq_true, decide_eq_true_eq]
    exact ⟨hx, hy⟩
  · intro e he
    obtain ⟨c, hc, he⟩ := List.mem_flatMap.1 he
    obtain ⟨r, hr', he⟩ := List.mem_flatMap.1 he
    obtain ⟨b, hb, rfl⟩ := List.mem_map.1 he
    rw [List.mem_range] at hc hr' hb
    have hv := hr r (4 * c + b) hr' (by omega)
    push_cast at hv
    rw [← add_assoc] at hv
    exact bind_ok hv rfl
  · simp only [List.map_flatMap, List.map_map, Function.comp_def, Exec.pure_eq]

/-- The bytes of a media block write, one after another. -/
theorem runAll_of_storesBytes {u : Surface} {vlso : Nat} {x y : Int} {byte : Nat → Nat → Byte} :
    ∀ {l : List (Nat × Nat)} {s s1 : State}, StoresBytes u vlso x y byte s l s1 →
      runAll s l (fun t c => mediaWrite t u vlso (x + c.2) (y + c.1) (byte c.1 c.2)) = .ok s1
  | [], s, s1, h => by
    have h : s1 = s := h
    rw [h]; rfl
  | c :: l, s, s1, h => by
    obtain ⟨t, hw, h⟩ := h
    exact bind_ok hw (runAll_of_storesBytes h)

theorem mediaStore_eq {s s1 : State} {m : Msg} {u : Surface} {vlso w h : Nat} {x y : Int} {keep : Nat → Nat → Bool}
    (hn : ((h - 1) * basePitch w + w + 31) / 32 ≤ m.body.length)
    (hs : StoresBytes u vlso x y (fun r b => regByte (m.reg ((r * basePitch w + b) / 32)) ((r * basePitch w + b) % 32)) s
      ((blockCells w h).filter fun e => keep e.1 e.2) s1) :
    mediaStore s m u vlso w h x y keep = .ok (s1, []) :=
  bind_ok (need_ok hn) (bind_ok (runAll_of_storesBytes hs) rfl)

/-- A media block write by its mode. -/
theorem mediaBlockWrite_eq {s s1 : State} {m : Msg} {u : Surface} {w h : Nat} {keep : Nat → Nat → Bool}
    (hh : m.hasHeader = true) (hu : surfaceTarget s m .media = .ok u)
    (hf : MediaWriteForm m (blockControl m) w h keep)
    (hn : ((h - 1) * basePitch w + w + 31) / 32 ≤ m.body.length)
    (hs : StoresBytes u (m.bits 8 3) (dword m.header 0).toInt (dword m.header 1).toInt
      (fun r b => regByte (m.reg ((r * basePitch w + b) / 32)) ((r * basePitch w + b) % 32)) s
      ((blockCells w h).filter fun e => keep e.1 e.2) s1) :
    mediaBlockWrite m s = .ok (s1, []) := by
  have store := mediaStore_eq hn hs
  refine bind_ok (headerRequired_ok hh) (bind_ok hu ?_)
  dsimp only
  cases hf with
  | plain hm hx hw hz =>
    simp only [hm]
    exact bind_ok (require_ok (by simp [hx, hw])) (bind_ok (require_ok (decide_eq_true hz)) store)
  | pixelMasked hm hx hy ho hp =>
    simp only [hm]
    exact bind_ok (require_ok (by simp [hx, hy])) (bind_ok (require_ok (by simp [ho, hp])) store)
  | byteMasked hm hx hw h32 hz =>
    simp only [hm]
    exact bind_ok (require_ok (by simp [hx, hw])) (bind_ok (require_ok (by simp [h32, hz])) store)

/-- Settles O45: byte by byte, read and stored. -/
theorem mediaBlockMessagesComplete : Obligations.MediaBlockMessagesComplete := by
  unfold Obligations.MediaBlockMessagesComplete
  refine ⟨?_, ?_⟩
  · rintro f s m base u v c hi hh hu rfl
    refine ⟨fun hw hz hr => ⟨fun hm hl => ?_, fun hp ho => ?_⟩, fun w h hw hz hx hy hr => ?_⟩
    · exact exec_of_read rfl hi (mediaBlockRead_eq hh hu hw hz hl (fun _ => hm) (fun he => nomatch he) hr)
    · have hl : MergeLegal (blockControl m) := by simp [MergeLegal, hp, ho]
      exact exec_of_read rfl hi (mediaBlockRead_eq hh hu hw hz hl (fun he => nomatch he) (fun _ => ⟨hp, ho⟩) hr)
    · exact exec_of_read rfl hi (transposeRead_eq hh hu hw hz hx hy hr)
  · intro f s s1 m base u w h keep hi hh hu hf hn hs
    exact exec_of_storing rfl mediaBlockWrite_storing hi (mediaBlockWrite_eq hh hu hf hn hs)

end Sys2Proof.Proofs.SurfacePorts
end

section
/-! PROOFS. Render target messages, and the ports' dispatch on the message type (O46, O47). -/

namespace Sys2Proof.Proofs.RenderTargets

open Sys2Proof.Machine Sys2Proof.Claims Sys2Proof.Proofs.Stores Sys2Proof.Proofs.Messages Sys2Proof.Proofs.Ports
  Sys2Proof.Proofs.BytePorts Sys2Proof.Proofs.SurfacePorts

/-! ### Render targets -/

theorem rtIndexOk_of_legal {u : Surface} {m : Msg} {p : Bool} (h : RenderLegal u m p) :
    rtIndexOk u (m.rtControl.extractLsb' 16 11).toNat = true := by
  obtain ⟨_, _, h0, h511⟩ := h
  have zero : u.ty = surfBuffer ∨ u.yOffset ≠ 0 → (m.rtControl.extractLsb' 16 11).toNat = 0 := fun h => by rw [h0 h]; rfl
  simp only [rtIndexOk, Bool.and_eq_true, Bool.or_eq_true, bne_iff_ne, beq_iff_eq, Bool.not_eq_true', Bool.or_eq_false_iff,
    decide_eq_true_eq, ne_eq, beq_eq_false_iff_ne]
  refine ⟨⟨?_, ?_⟩, ?_⟩
  · exact (em (u.ty = surfBuffer)).symm.imp_right fun h => zero (.inl h)
  · by_cases h : u.ty = surf1D ∨ u.ty = surf2D
    · exact .inr (h511 h)
    · exact .inl (not_or.1 h)
  · exact (em (u.yOffset = 0)).imp_right fun h => zero (.inr h)

theorem rtCheck_ok {u : Surface} {m : Msg} {p : Bool} (h : RenderLegal u m p) : rtCheck u m p = .ok () := by
  refine bind_ok (require_ok ?_) (bind_ok (require_ok (rtIndexOk_of_legal h)) h.2.1)
  cases p with
  | false => simp
  | true => rcases h.1 rfl with h | h <;> simp [h]

/-- The samples of a render target write, one after another. -/
theorem runAll_of_rendersSamples {color : Nat} {u : Surface} {m : Msg} {r : RtMessage} :
    ∀ {l : List (Nat × Nat)} {s s1 : State}, RendersSamples color u m r s l s1 →
      runAll s l (fun t e => rtStore color t u m r e.1 e.2) = .ok s1
  | [], s, s1, h => by
    have h : s1 = s := h
    rw [h]; rfl
  | c :: l, s, s1, h => by
    obtain ⟨t, hw, h⟩ := h
    exact bind_ok hw (runAll_of_rendersSamples h)

theorem renderTargetWrite_eq {s s1 : State} {m : Msg} {u : Surface} {r : RtMessage} {en : BitVec 16} {color : Nat}
    (h : Renders s m u r en color) (hs : RendersSamples color u m r s (renderSamples s m u r en) s1) :
    renderTargetWrite m s = .ok (s1, []) := by
  refine bind_ok h.message (bind_ok h.surface (bind_ok (rtCheck_ok h.legal) (bind_ok (require_ok ?_)
    (bind_ok (require_ok ?_) (bind_ok (require_ok (decide_eq_true h.payload)) (bind_ok h.enables
      (bind_ok h.colorCalc (bind_ok (runAll_of_rendersSamples hs) rfl))))))))
  · unfold rtRateOk
    cases hp : Config.psPerSample with
    | false => simp
    | true => rcases h.rate hp with h | h <;> simp [h]
  · by_cases hk : r.kind = .replicated true
    · rcases h.tiled hk with h | h <;> simp [h]
    · simp [hk]

theorem renderTargetRead_eq {s : State} {m : Msg} {u : Surface} {en : BitVec 16} {n : Nat} {k : Nat → Nat}
    {t : Nat → BitVec 128} (hc : m.rtControl.extractLsb' 11 4 = 0#4) (hu : rtSurface s m = .ok u)
    (hl : RenderLegal u m (m.desc.getLsbD 13)) (hp : (if m.hasHeader then 2 else 0) ≤ m.payload.length)
    (he : rtEnables s m (m.bits 11 1) = .ok en) (hn : n = if m.desc.getLsbD 8 then 8 else 16)
    (hk : ∀ i, k i = if m.desc.getLsbD 13 then rtSample u m i else 0) (at_ : Nat → Nat × Nat × Nat)
    (hat : ∀ i, at_ i = rtCoords u (rtPosition s m (m.bits 11 1) i).1 (rtPosition s m (m.bits 11 1) i).2
      (rtArrayIndex u m.rtControl))
    (hr : ∀ i ∈ activeSlots n fun i => m.slot i && en.getLsbD i,
      u.readTexel s (at_ i).1 (at_ i).2.1 (at_ i).2.2 u.mip (k i) = .ok (t i)) :
    renderTargetRead m s = .ok (s, responseOver (4 * (n / 8)) ((activeSlots n fun i => m.slot i && en.getLsbD i).flatMap fun i =>
      (List.range 4).map fun ch => (ch * (n / 8) + i / 8, (32 * (i % 8), 32,
        if u.ty ≠ surfNull ∧ u.contains (at_ i).1 (at_ i).2.1 (at_ i).2.2 u.mip (k i) = true then
          (u.shaderValue ((s.draw (4 * i + ch) 31).setWidth 32) (t i) ch).toNat else 0)))) := by
  obtain rfl : k = fun i => if m.desc.getLsbD 13 then rtSample u m i else 0 := funext hk
  obtain rfl : at_ = fun i => rtCoords u (rtPosition s m (m.bits 11 1) i).1 (rtPosition s m (m.bits 11 1) i).2
      (rtArrayIndex u m.rtControl) := funext hat
  subst hn
  refine bind_ok (require_ok (by simp [hc])) (bind_ok hu (bind_ok (rtCheck_ok hl)
    (bind_ok (require_ok (decide_eq_true hp)) (bind_ok he
      (bind_ok (sequence_map_ok _ _ _ fun i hi => bind_ok (hr i hi) rfl) ?_)))))
  simp only [apply_ite BitVec.toNat, Exec.pure_eq, Bool.and_eq_true, bne_iff_ne]
  rfl

/-- The writes are one message. -/
theorem handlerOf_renderWrites {mk : SendForm → Instr} (h : mk ∈ renderWrites) (f : SendForm) :
    handlerOf (mk f) = some (f, renderTargetWrite) := by
  simp only [renderWrites, List.mem_cons, List.not_mem_nil, or_false] at h
  rcases h with rfl | rfl | rfl | rfl | rfl | rfl | rfl
  · rfl
  · rfl
  · rfl
  · rfl
  · rfl
  · rfl
  · rfl

/-- Settles O46: sample by sample. -/
theorem renderTargetMessagesComplete : Obligations.RenderTargetMessagesComplete := by
  unfold Obligations.RenderTargetMessagesComplete
  refine ⟨?_, ?_⟩
  · intro mk hmk f s s1 m base u r en color hi hr hs
    exact exec_of_storing (handlerOf_renderWrites hmk f) renderTargetWrite_storing hi (renderTargetWrite_eq hr hs)
  · intro f s m base u en n k t hi hc hu hl hp he hn hk at_ active hr
    exact exec_of_read rfl hi (renderTargetRead_eq hc hu hl hp he hn hk at_ (fun _ => rfl) hr)

end Sys2Proof.Proofs.RenderTargets

namespace Sys2Proof.Proofs.PortDispatch

open Sys2Proof.Machine Sys2Proof.Claims Sys2Proof.Proofs.Stores Sys2Proof.Proofs.Messages Sys2Proof.Proofs.Ports
  Sys2Proof.Proofs.BytePorts Sys2Proof.Proofs.SurfacePorts Sys2Proof.Proofs.RenderTargets

/-! ### The dispatch on the message type -/

/-- The issue of a message asks its shared function only about messages with the send's descriptor. -/
theorem issueMessage_congr {f : SendForm} {s : State} {h h' : Handler}
    (hh : ∀ m, m.desc = descriptor s.eu f.desc → h m s = h' m s) : issueMessage f h s = issueMessage f h' s := by
  have key (sfid : Sfid) (ex : BitVec 20) (eot : Bool) (payload : List HWord) (slots : DWord) (channels : Nat) :
      h ⟨sfid, descriptor s.eu f.desc, ex, eot, payload, slots, channels⟩ s =
        h' ⟨sfid, descriptor s.eu f.desc, ex, eot, payload, slots, channels⟩ s := hh _ rfl
  simp only [issueMessage, key]

/-- Two instructions whose shared functions agree on the send's descriptor have the same outcome. -/
theorem exec_congr {i j : Instr} {f : SendForm} {h h' : Handler} (hi : handlerOf i = some (f, h))
    (hj : handlerOf j = some (f, h')) {s : State} (hh : ∀ m, m.desc = descriptor s.eu f.desc → h m s = h' m s) :
    exec i s = exec j s := by
  rw [exec_of_handlerOf hi, exec_of_handlerOf hj, issueMessage_congr hh]

/-- A data port 0 message that is no scratch block, by its type. -/
theorem dataPort0_type {m : Msg} {s : State} {e : Nat × (SendForm → Instr)} (he : e ∈ types0) (h18 : m.bits 18 1 = 0)
    (ht : m.bits 14 4 = e.1) (f : SendForm) : ∃ h, handlerOf (e.2 f) = some (f, h) ∧ dataPort0 m s = h m s := by
  have h1 : ¬ m.bits 18 1 = 1 := by omega
  simp only [types0, List.mem_cons, List.not_mem_nil, or_false] at he
  rcases he with rfl | rfl | rfl | rfl | rfl | rfl | rfl | rfl | rfl | rfl <;>
    exact ⟨_, rfl, by simp only [dataPort0, if_neg h1, ht]⟩

/-- A data port 1 message, by its type. -/
theorem dataPort1_type {m : Msg} {s : State} {e : Nat × (SendForm → Instr)} (he : e ∈ types1)
    (ht : m.bits 14 5 = e.1) (f : SendForm) : ∃ h, handlerOf (e.2 f) = some (f, h) ∧ dataPort1 m s = h m s := by
  simp only [types1, List.cons_append, List.nil_append, List.mem_cons, List.not_mem_nil, or_false] at he
  rcases he with rfl | rfl | rfl | rfl | rfl | rfl | rfl | rfl | rfl | rfl | rfl | rfl | rfl | rfl | rfl | rfl | rfl |
    rfl | rfl | rfl | rfl | rfl | rfl | rfl | rfl <;>
    exact ⟨_, rfl, by simp only [dataPort1, ht]⟩

/-- A data port 2 message, by its type. -/
theorem dataPort2_type {m : Msg} {s : State} {e : Nat × (SendForm → Instr)} (he : e ∈ types2)
    (ht : m.bits 15 4 = e.1) (f : SendForm) : ∃ h, handlerOf (e.2 f) = some (f, h) ∧ dataPort2 m s = h m s := by
  simp only [types2, List.mem_cons, List.not_mem_nil, or_false] at he
  rcases he with rfl | rfl | rfl | rfl | rfl | rfl | rfl | rfl <;>
    exact ⟨_, rfl, by simp only [dataPort2, ht]⟩

/-- A message of the read-only port, by its type. -/
theorem readOnlyPort_type {m : Msg} {s : State} {e : Nat × (SendForm → Instr)} (he : e ∈ typesReadOnly)
    (ht : m.bits 14 4 = e.1) (f : SendForm) : ∃ h, handlerOf (e.2 f) = some (f, h) ∧ readOnlyPort m s = h m s := by
  simp only [typesReadOnly, List.mem_cons, List.not_mem_nil, or_false] at he
  rcases he with rfl | rfl | rfl | rfl | rfl | rfl | rfl <;>
    exact ⟨_, rfl, by simp only [readOnlyPort, ht]⟩

/-- A message of the render cache port, by its type. -/
theorem renderCache_type {m : Msg} {s : State} {e : Nat × (SendForm → Instr)} (he : e ∈ typesRender)
    (ht : m.bits 14 4 = e.1) (f : SendForm) : ∃ h, handlerOf (e.2 f) = some (f, h) ∧ renderCache m s = h m s := by
  simp only [typesRender, List.mem_cons, List.not_mem_nil, or_false] at he
  rcases he with rfl | rfl <;>
    exact ⟨_, rfl, by simp only [renderCache, ht]⟩

/-- A port's message has the outcome of the message its port lists under the type of the descriptor. -/
theorem exec_by_type {i : Instr} {f : SendForm} {port : Handler} (hi : handlerOf i = some (f, port)) {s : State} {j : Instr}
    (hj : ∀ m, m.desc = descriptor s.eu f.desc → ∃ h, handlerOf j = some (f, h) ∧ port m s = h m s) :
    exec i s = exec j s := by
  obtain ⟨h, hh, _⟩ := hj ⟨f.sfid, descriptor s.eu f.desc, 0#20, false, [], 0#32, 0⟩ rfl
  refine exec_congr hi hh fun m hm => ?_
  obtain ⟨h', hh', e⟩ := hj m hm
  obtain rfl : h = h' := by simpa using hh.symm.trans hh'
  exact e

/-! ### One message of each port -/

theorem scratch_bits {m : Msg} {k : Nat} (h : m.bits 17 2 = 2 + k) : m.bits 18 1 = 1 ∧ m.bits 17 1 = k := by
  simp only [Msg.bits, BitVec.extractLsb'_toNat] at h ⊢
  omega

theorem scratchRead_eq {s : State} {m : Msg} {sp : Space} {v : Nat → Nat → Nat} (ht : m.bits 17 2 = 2)
    (h15 : m.bits 15 1 = 0) (hh : m.hasHeader = true) (hs : statelessSpace s false m.bufferBase m.scratch 0 = .ok sp)
    (hr : ∀ e ∈ scratchCells m,
      Space.read s (scratchBlockOf m sp) (32 * m.bits 0 12 + 32 * e.1 + 4 * e.2) 4 = .ok (v e.1 e.2)) :
    dataPort0 m s = .ok (s, responseFrom s (2 ^ m.bits 12 2)
      ((scratchCells m).map fun e => (e.1, (32 * e.2, 32, v e.1 e.2)))) := by
  obtain ⟨h18, h17⟩ := scratch_bits (k := 0) ht
  unfold dataPort0
  rw [if_pos h18]
  refine bind_ok (headerRequired_ok hh) (bind_ok (require_ok (decide_eq_true h15)) (bind_ok hs ?_))
  rw [if_neg (by omega)]
  rw [hwordRead_eq (v := v) fun j hj d hd => hr (j, d) (List.mem_flatMap.2 ⟨j, List.mem_range.2 hj, List.mem_map.2 ⟨d, hd, rfl⟩⟩)]
  simp only [scratchCells, List.map_flatMap, List.map_map, Function.comp_def]

theorem scratchWrite_eq {s s1 : State} {m : Msg} {sp : Space} (ht : m.bits 17 2 = 3)
    (h15 : m.bits 15 1 = 0) (hh : m.hasHeader = true) (hs : statelessSpace s false m.bufferBase m.scratch 0 = .ok sp)
    (hn : 2 ^ m.bits 12 2 ≤ m.body.length)
    (hw : Stores s ((scratchCells m).map fun e =>
      (scratchBlockOf m sp, 32 * m.bits 0 12 + 32 * e.1 + 4 * e.2, 4, (dword (m.reg e.1) e.2).toNat)) s1) :
    dataPort0 m s = .ok (s1, []) := by
  obtain ⟨h18, h17⟩ := scratch_bits (k := 1) ht
  unfold dataPort0
  rw [if_pos h18]
  refine bind_ok (headerRequired_ok hh) (bind_ok (require_ok (decide_eq_true h15)) (bind_ok hs ?_))
  rw [if_pos h17]
  refine hwordWrite_eq hn ?_
  simpa only [scratchCells, scratchBlockOf, List.map_flatMap, List.map_map, Function.comp_def] using hw

/-- Settles O47: one message of each port in full, and the tables of the types. -/
theorem portsDispatchOnTheMessageType : Obligations.PortsDispatchOnTheMessageType := by
  unfold Obligations.PortsDispatchOnTheMessageType
  refine ⟨?_, ?_, ?_, ?_, ?_, ?_, ?_, ?_⟩
  · intro f s m base hi h18 h14
    refine exec_of_answer rfl hi ?_ rfl
    simp only [dataPort0, h18, Nat.zero_ne_one, if_false, h14]
    rfl
  · intro f s m base sp v hi ht h15 hh hs hr
    exact exec_of_read rfl hi (scratchRead_eq ht h15 hh hs hr)
  · intro f s s1 m base sp hi ht h15 hh hs hn hw
    exact exec_of_stores rfl hi hw (scratchWrite_eq ht h15 hh hs hn hw)
  · intro f s m base mode sp u v hi ht hm hs hn ha hmask hr
    refine exec_of_read rfl hi ?_
    simp only [dataPort1, ht]
    exact bind_ok hm (bind_ok hs (bind_ok (need_ok hn) (bind_ok (alignedAll_ok ha) (channelRead_eq hmask hr))))
  · intro f s m base mode sp addr v hi ht hm hs hn ha hmask hr
    refine exec_of_read rfl hi ?_
    simp only [dataPort2, ht]
    exact bind_ok hm (bind_ok (need_ok hn) (bind_ok hs (bind_ok (alignedAll_ok ha) (channelRead_eq hmask hr))))
  · intro f s m base u hi ht hn hu hl
    refine exec_of_read rfl hi ?_
    simp only [readOnlyPort, ht]
    exact readSurfaceInfo_eq hn hu hl
  · intro f s s1 m base u r en color hi ht hr hs
    refine exec_of_storing rfl renderCache_storing hi ?_
    simp only [renderCache, ht]
    exact renderTargetWrite_eq hr hs
  · intro f s d
    have bits {m : Msg} (hm : m.desc = descriptor s.eu f.desc) (lo n : Nat) : m.bits lo n = (d.extractLsb' lo n).toNat := by
      rw [Msg.bits, hm]
    refine ⟨fun e he h18 ht => exec_by_type rfl fun m hm => ?_, fun e he ht => exec_by_type rfl fun m hm => ?_,
      fun e he ht => exec_by_type rfl fun m hm => ?_, fun e he ht => exec_by_type rfl fun m hm => ?_,
      fun e he ht => exec_by_type rfl fun m hm => ?_⟩
    · exact dataPort0_type he (by rw [bits hm, h18]) (by rw [bits hm, ht]) f
    · exact dataPort1_type he (by rw [bits hm, ht]) f
    · exact dataPort2_type he (by rw [bits hm, ht]) f
    · exact readOnlyPort_type he (by rw [bits hm, ht]) f
    · exact renderCache_type he (by rw [bits hm, ht]) f

end Sys2Proof.Proofs.PortDispatch
end

section
/-! PROOF SUPPORT. Every computing instruction but INT DIV with remainder runs the template of R96 with its own controls and
destination, its condition going to the flag register and its predicate gating the write as `computing` says. -/

namespace Sys2Proof.Proofs.Computing

open Sys2Proof.Machine Sys2Proof.Claims Sys2Proof.Proofs.Stores

/-- The template of R96 has run as a computing instruction's writes say. -/
def Templated (s : State) (w : Writes) (s' : State) : Prop :=
  ∃ u lane, channelwise s w.ctl w.dst u lane = .ok s' ∧ u.writesFlags = w.toFlags ∧
    ∀ off c, laneEnabled s.eu w.ctl u w.dst off c = w.enabled s.eu off c

theorem channelwise_templated {s : State} {k : Ctl} {d : Dest} {u : Usage} {lane : Nat → Exec Lane} {z : List Nat} :
    Yields (Templated s ⟨k, d, u.writesFlags, u.predicateGates, z⟩) (channelwise s k d u lane) :=
  fun _ h => ⟨u, lane, h, rfl, fun _ _ => rfl⟩

/-- The writes of a one-source instruction. -/
def oneWrites (o : OneSrc) : Writes := ⟨o.ctl, .op o.dst, o.cond != .none, true, [0]⟩

/-- The writes of a two-source instruction. -/
def twoWrites (o : TwoSrc) : Writes := ⟨o.ctl, .op o.dst, o.cond != .none, true, [0]⟩

/-- The writes of a three-source instruction. -/
def threeWrites (o : ThreeSrc) : Writes := ⟨o.ctl, triDest o, o.cond != .none, true, [0]⟩

/-- The writes of a `math` with one result. -/
def mathWrites (o : MathOp) : Writes := ⟨o.ctl, .op o.dst, false, true, [0]⟩

/-! ### The shared shapes -/

theorem unary_templated {s : State} {o : OneSrc} {op : QWord → Val → Exec Val} :
    Yields (Templated s (oneWrites o)) (unary s o op) := .bind fun _ => channelwise_templated

theorem binary_templated {s : State} {o : TwoSrc} {op : QWord → Val → Val → Exec Val} :
    Yields (Templated s (twoWrites o)) (binary s o op) :=
  .bind fun _ => .bind fun _ => .bind fun _ => channelwise_templated

theorem logicUnary_templated {s : State} {o : OneSrc} {op : Int → Int} :
    Yields (Templated s (oneWrites o)) (logicUnary s o op) := .bind fun _ => channelwise_templated

theorem logicBinary_templated {s : State} {o : TwoSrc} {op : Int → Int → Int} :
    Yields (Templated s (twoWrites o)) (logicBinary s o op) :=
  .bind fun _ => .bind fun _ => .bind fun _ => channelwise_templated

theorem ternary_templated {s : State} {o : ThreeSrc} {op : QWord → QWord → Val → Val → Val → Exec Val} :
    Yields (Templated s (threeWrites o)) (ternary s o true op) :=
  .bind fun _ _ h => ⟨_, _, h, by simp [threeWrites, plainUsage], fun _ _ => rfl⟩

theorem csel_templated {s : State} {o : ThreeSrc} {op : QWord → QWord → Val → Val → Val → Exec Val} :
    Yields (Templated s ⟨o.ctl, triDest o, false, true, [0]⟩) (ternary s o false op) :=
  .bind fun _ => channelwise_templated

theorem mathWith_templated {s : State} {o : MathOp} {fc : BitVec 4} {ints two : Bool}
    {fn : BitVec 4 → BitVec 4 → QWord → QWord → QWord} :
    Yields (Templated s (mathWrites o)) (mathWith s o fc ints two fn) := .bind fun _ => channelwise_templated

theorem move_templated {s : State} {o : OneSrc} : Yields (Templated s (oneWrites o)) (move s o) :=
  .bind fun _ => channelwise_templated

theorem floatUnary_templated {s : State} {o : OneSrc} {op : FloatEnv → Fmt → QWord → Nat → Nat} :
    Yields (Templated s (oneWrites o)) (floatUnary s o op) := .bind fun _ => unary_templated

theorem accumulate_templated {s : State} {o : TwoSrc} : Yields (Templated s (twoWrites o)) (accumulate s o) :=
  .bind fun _ => .bind fun _ => .bind fun _ => channelwise_templated

theorem carryOp_templated {s : State} {o : TwoSrc} {sat : Bool} {op : Int → Int → Int} {carry : Int → Int → Bool} :
    Yields (Templated s (twoWrites o)) (carryOp s o sat op carry) :=
  .bind fun _ => .bind fun _ => .bind fun _ => channelwise_templated

theorem compare_templated {s : State} {o : TwoSrc} {test : FloatEnv → CondMod → QWord → Pair → Bool} :
    Yields (Templated s (twoWrites o)) (Machine.compare s o test) :=
  .bind fun _ => .bind fun _ => .bind fun _ => .bind fun _ => channelwise_templated

theorem dotProduct_templated {s : State} {o : TwoSrc}
    {terms : FloatEnv → Fmt → QWord → (Nat → Nat) → (Nat → Nat) → List Nat} :
    Yields (Templated s (twoWrites o)) (dotProduct s o terms) :=
  .bind fun _ => .bind fun _ => .bind fun _ => .bind fun _ => .bind fun _ => channelwise_templated

/-- Without a predicate the write is gated by the other masks alone. -/
theorem writeEnable_of_no_pred {t : Thread} {k : Ctl} (h : k.pred = .none) (g : Nat) :
    writeEnable t k g = maskEnable t k g := by
  simp [writeEnable, predicateMask, h]

theorem sel_templated {s s' : State} {o : TwoSrc} (h : execSel o s = .next s') :
    Templated s ⟨o.ctl, .op o.dst, false, false, [0]⟩ s' := by
  rw [execSel, Exec.outcome_eq_next] at h
  refine Yields.bind (fun _ => .bind fun _ => .bind fun _ => ?_) s' h
  split
  · rename_i _ hcond
    have hcond : o.cond = .none := by simpa using hcond
    exact .bind fun _ _ ht => ⟨_, _, ht, by simp [plainUsage, hcond], fun _ _ => rfl⟩
  · rename_i hp _
    have hp : o.ctl.pred = .none := by simpa using hp
    refine fun t ht => ⟨_, _, ht, rfl, fun off c => ?_⟩
    simp only [laneEnabled, Writes.enabled, plainUsage, if_true, Bool.false_eq_true, if_false,
      writeEnable_of_no_pred hp]
  · exact .refuse

/-! ### Every computing instruction -/

theorem templated_of_next {x : Exec State} {s s' : State} {w v : Writes} (h : Yields (Templated s w) x) (hw : w = v)
    (e : x.outcome = .next s') : Templated s v s' := by
  rw [← hw]
  exact h s' (Exec.outcome_eq_next.1 e)

theorem line_templated {s s' : State} {o : TwoSrc} (h : execLine o s = .next s') : Templated s (twoWrites o) s' := by
  rw [execLine, Exec.outcome_eq_next] at h
  exact Yields.bind (fun _ => .bind fun _ => .bind fun _ => .bind fun _ => .bind fun _ => .bind fun _ =>
    channelwise_templated) s' h

/-- The plane equation, of a register pair. -/
theorem pln_templated {s s' : State} {o : TwoSrc} (h : execPln o s = .next s') : Templated s (twoWrites o) s' := by
  rw [execPln, Exec.outcome_eq_next] at h
  refine Yields.bind (fun _ => .bind fun _ => ?_) s' h
  split
  · exact .refuse
  · exact .bind fun _ => .bind fun _ => .bind fun _ => .bind fun _ => channelwise_templated

/-- Every computing instruction but INT DIV with remainder. -/
theorem exec_templated {i : Instr} {w : Writes} {s s' : State} (hc : computing i = some w)
    (hq : ∀ o, i ≠ .mathIntDivQr o) (e : exec i s = .next s') : Templated s w s' := by
  cases i with
  | mov o => exact templated_of_next move_templated (Option.some.inj hc) e
  | movi o => exact templated_of_next move_templated (Option.some.inj hc) e
  | sel o => exact Option.some.inj hc ▸ sel_templated e
  | not o => exact templated_of_next logicUnary_templated (Option.some.inj hc) e
  | and o => exact templated_of_next logicBinary_templated (Option.some.inj hc) e
  | or o => exact templated_of_next logicBinary_templated (Option.some.inj hc) e
  | xor o => exact templated_of_next logicBinary_templated (Option.some.inj hc) e
  | shr o => exact templated_of_next binary_templated (Option.some.inj hc) e
  | shl o => exact templated_of_next binary_templated (Option.some.inj hc) e
  | asr o => exact templated_of_next binary_templated (Option.some.inj hc) e
  | add o => exact templated_of_next binary_templated (Option.some.inj hc) e
  | avg o => exact templated_of_next binary_templated (Option.some.inj hc) e
  | mul o => exact templated_of_next (.bind fun _ => binary_templated) (Option.some.inj hc) e
  | bfi1 o => exact templated_of_next binary_templated (Option.some.inj hc) e
  | cmp o => exact templated_of_next compare_templated (Option.some.inj hc) e
  | cmpn o => exact templated_of_next compare_templated (Option.some.inj hc) e
  | csel o => exact templated_of_next (.bind fun _ => csel_templated) (Option.some.inj hc) e
  | bfrev o => exact templated_of_next (.bind fun _ => unary_templated) (Option.some.inj hc) e
  | bfe o => exact templated_of_next ternary_templated (Option.some.inj hc) e
  | bfi2 o => exact templated_of_next ternary_templated (Option.some.inj hc) e
  | frc o => exact templated_of_next floatUnary_templated (Option.some.inj hc) e
  | rndu o => exact templated_of_next floatUnary_templated (Option.some.inj hc) e
  | rndd o => exact templated_of_next floatUnary_templated (Option.some.inj hc) e
  | rnde o => exact templated_of_next floatUnary_templated (Option.some.inj hc) e
  | rndz o => exact templated_of_next floatUnary_templated (Option.some.inj hc) e
  | mac o => exact templated_of_next accumulate_templated (Option.some.inj hc) e
  | mach o => exact templated_of_next (.bind fun _ => accumulate_templated) (Option.some.inj hc) e
  | lzd o => exact templated_of_next unary_templated (Option.some.inj hc) e
  | fbh o => exact templated_of_next unary_templated (Option.some.inj hc) e
  | fbl o => exact templated_of_next unary_templated (Option.some.inj hc) e
  | cbit o => exact templated_of_next unary_templated (Option.some.inj hc) e
  | addc o => exact templated_of_next carryOp_templated (Option.some.inj hc) e
  | subb o => exact templated_of_next carryOp_templated (Option.some.inj hc) e
  | dp4 o => exact templated_of_next dotProduct_templated (Option.some.inj hc) e
  | dph o => exact templated_of_next dotProduct_templated (Option.some.inj hc) e
  | dp3 o => exact templated_of_next dotProduct_templated (Option.some.inj hc) e
  | dp2 o => exact templated_of_next dotProduct_templated (Option.some.inj hc) e
  | line o => exact Option.some.inj hc ▸ line_templated e
  | pln o => exact Option.some.inj hc ▸ pln_templated e
  | mad o => exact templated_of_next (.bind fun _ => ternary_templated) (Option.some.inj hc) e
  | lrp o => exact templated_of_next (.bind fun _ => ternary_templated) (Option.some.inj hc) e
  | mathInv o => exact templated_of_next mathWith_templated (Option.some.inj hc) e
  | mathLog o => exact templated_of_next mathWith_templated (Option.some.inj hc) e
  | mathExp o => exact templated_of_next mathWith_templated (Option.some.inj hc) e
  | mathSqrt o => exact templated_of_next mathWith_templated (Option.some.inj hc) e
  | mathRsq o => exact templated_of_next mathWith_templated (Option.some.inj hc) e
  | mathSin o => exact templated_of_next mathWith_templated (Option.some.inj hc) e
  | mathCos o => exact templated_of_next mathWith_templated (Option.some.inj hc) e
  | mathFdiv o => exact templated_of_next mathWith_templated (Option.some.inj hc) e
  | mathPow o => exact templated_of_next mathWith_templated (Option.some.inj hc) e
  | mathIntDivQ o => exact templated_of_next mathWith_templated (Option.some.inj hc) e
  | mathIntDivR o => exact templated_of_next mathWith_templated (Option.some.inj hc) e
  | mathInvm o => exact templated_of_next mathWith_templated (Option.some.inj hc) e
  | mathRsqrtm o => exact templated_of_next mathWith_templated (Option.some.inj hc) e
  | smov o => cases e
  | sad2 o => cases e
  | sada2 o => cases e
  | madm o => cases e
  | mathIntDivQr o => exact absurd rfl (hq o)
  | math o => cases e
  | _ => cases hc

end Sys2Proof.Proofs.Computing
end

section
/-! PROOF SUPPORT. What a control transfer leaves (O49): each is a move of the thread's pointers, but for `call`, `wait` and the
illegal-opcode exception. -/

namespace Sys2Proof.Proofs.ControlFrames

open Sys2Proof.Machine Sys2Proof.Claims Sys2Proof.Proofs.Stores

theorem yields_ite {α : Type} {P : α → Prop} {c : Prop} [Decidable c] {x y : Exec α} (hx : Yields P x)
    (hy : Yields P y) : Yields P (if c then x else y) := by
  split
  · exact hx
  · exact hy

/-- Only the pointers of the resident thread have moved. -/
def Moved (s s' : State) : Prop := ∃ p ip, s' = s.withPointers p ip

theorem withPointers_moved {s : State} {p : Vector DWord 32} {ip : DWord} : Moved s (s.withPointers p ip) := ⟨p, ip, rfl⟩

theorem goto_moved {s : State} {a : DWord} : Moved s { s with eu := s.eu.goto a } := ⟨_, _, rfl⟩

theorem advance_moves {t : Thread} {n : Nat} :
    Yields (fun u => ∃ a, u = t.goto a) (t.advance n) := by
  intro u h
  obtain ⟨_, rfl⟩ := Thread.advance_eq_ok.1 h
  exact ⟨_, rfl⟩

theorem branchBy_moves {s : State} {k : Ctl} {target : Int} {jip : BitVec 32} : Yields (Moved s) (branchBy s k target jip) :=
  .bind fun _ => .bind fun _ =>
    yields_ite (.bind fun _ => .bind fun _ => .pure withPointers_moved)
      (.bind fun _ => .bind fun _ => .pure withPointers_moved)

theorem advance_moved {s : State} : Yields (Moved s) (do return { s with eu := ← s.eu.advance 16 }) :=
  .andThen advance_moves fun _ ⟨_, h⟩ => .pure (h ▸ goto_moved)

/-- The instructions that only move pointers. -/
theorem exec_moves {i : Instr} {s s' : State} (h : transfers i = true) (hi : i ≠ .illegal) (hw : ∀ o, i ≠ .wait o)
    (hc : ∀ o, i ≠ .call o) (ha : ∀ o, i ≠ .calla o) (e : exec i s = .next s') : Moved s s' := by
  have of {x : Exec State} (y : Yields (Moved s) x) (e : x.outcome = .next s') : Moved s s' :=
    y s' (Exec.outcome_eq_next.1 e)
  cases i with
  | jmpi o =>
    refine of (.bind fun _ => .bind fun _ => .bind fun _ => .bind fun _ => ?_) e
    split
    · exact .bind fun _ => .bind fun _ => .pure goto_moved
    · exact .pure goto_moved
  | ifOp o =>
    have last {c : Prop} [Decidable c] {p : Vector DWord 32} {x y : Exec DWord} :
        Yields (Moved s) (if c then x >>= fun a => pure (s.withPointers p a) else y >>= fun a => pure (s.withPointers p a)) :=
      yields_ite (.bind fun _ => .pure withPointers_moved) (.bind fun _ => .pure withPointers_moved)
    exact of (.bind fun _ => .bind fun _ => .bind fun _ => yields_ite (.bind fun _ => last) (.bind fun _ => last)) e
  | elseOp o =>
    exact of (.bind fun _ => .bind fun _ => yields_ite (.bind fun _ => .bind fun _ => .pure withPointers_moved)
      (.bind fun _ => .bind fun _ => .pure withPointers_moved)) e
  | endif o => exact of (.bind fun _ => .bind fun _ => .bind fun _ => .pure withPointers_moved) e
  | whileOp o =>
    refine of (.bind fun _ => .bind fun _ => .bind fun _ => ?_) e
    split
    · exact .bind fun _ => .pure withPointers_moved
    · exact .pure withPointers_moved
  | breakOp o => exact of branchBy_moves e
  | cont o => exact of branchBy_moves e
  | halt o =>
    exact of (yields_ite (.bind fun _ => .pure withPointers_moved) branchBy_moves) e
  | ret o =>
    refine of (.bind fun _ => .bind fun _ => .bind fun _ => .bind fun _ => ?_) e
    split
    · exact .pure withPointers_moved
    · exact .bind fun _ => .pure withPointers_moved
  | goto o => exact of (.bind fun _ => branchBy_moves) e
  | join o =>
    exact of (.bind fun _ => .bind fun _ => yields_ite (.bind fun _ => .pure withPointers_moved)
      (.bind fun _ => .pure withPointers_moved)) e
  | nop d => exact of advance_moved e
  | illegal => exact absurd rfl hi
  | wait o => exact absurd rfl (hw o)
  | call o => exact absurd rfl (hc o)
  | calla o => exact absurd rfl (ha o)
  | brd o => cases e
  | brc o => cases e
  | _ => cases h

/-- A call writes the eight bytes of its destination, a general register, and moves the pointers. -/
theorem callTo_frame {s s' : State} {o : BranchOne} {target : Exec DWord} (h : callTo s o target = .ok s') :
    ∃ a v w, dstPlace s.eu (.op { o.dst with ty := .ud }) 0 = .ok (.grf a) ∧
      Moved { s with eu := { s.eu with grf := grfWrite (grfWrite s.eu.grf a v 4) (a + 4) w 4 } } s' := by
  simp only [callTo, Exec.bind_eq_ok] at h
  obtain ⟨off, -, next, -, p, hp, h⟩ := h
  cases p with
  | grf a =>
    refine ⟨a, next.toNat, (branchMask s.eu o.ctl off).toNat, hp, ?_⟩
    obtain ⟨-, -, h⟩ := Exec.bind_eq_ok.1 h
    split at h
    · obtain ⟨dest, -, h⟩ := Exec.bind_eq_ok.1 h
      exact Except.ok.inj h ▸ withPointers_moved
    · exact Except.ok.inj h ▸ withPointers_moved
  | _ => cases h

/-- A call, from its target in whatever form. -/
theorem exec_call_frame {i : Instr} {o : BranchOne} {s s' : State} (hi : i = .call o ∨ i = .calla o)
    (e : exec i s = .next s') :
    ∃ a v w, returnPlace s.eu i = some a ∧
      Moved { s with eu := { s.eu with grf := grfWrite (grfWrite s.eu.grf a v 4) (a + 4) w 4 } } s' := by
  obtain ⟨target, h⟩ : ∃ target, callTo s o target = .ok s' := by
    rcases hi with rfl | rfl <;>
    · obtain ⟨_, -, h⟩ := Exec.bind_eq_ok.1 (Exec.outcome_eq_next.1 e)
      exact ⟨_, h⟩
  obtain ⟨a, v, w, hp, hm⟩ := callTo_frame h
  refine ⟨a, v, w, ?_, hm⟩
  rcases hi with rfl | rfl <;> simp only [returnPlace, hp]

/-- `wait` changes a count, the run state and the pointers. -/
theorem execWait_frame {o : OneSrc} {s s' : State} (e : execWait o s = .next s') :
    ∃ a p n r, s' = { s with eu := { s.eu with ip := a, pcip := p, n0 := n, run := r } } := by
  rw [execWait, Exec.outcome_eq_next] at e
  refine Yields.bind (P := fun s' => ∃ a p n r, s' = { s with eu := { s.eu with ip := a, pcip := p, n0 := n, run := r } }) (fun _ => .bind fun _ => .bind fun k => ?_) s' e
  dsimp only
  split
  · exact .pure ⟨_, _, _, _, rfl⟩
  · refine .andThen advance_moves fun t ht => ?_
    obtain ⟨a, rfl⟩ := ht
    exact .pure ⟨_, _, _, _, rfl⟩

/-- The illegal-opcode exception changes `cr0` and the instruction pointer. -/
theorem raiseIllegal_frame {s s' : State} (h : raiseIllegal s = .ok s') :
    ∃ a c, s' = { s with eu := { s.eu with ip := a, cr0 := c } } := by
  simp only [raiseIllegal, Exec.bind_eq_ok, Exec.pure_eq, Except.ok.injEq] at h
  obtain ⟨-, -, rfl⟩ := h
  simp only [Thread.takeException]
  split <;> exact ⟨_, _, rfl⟩

/-- Settles O49: each transfer by its own frame. -/
theorem controlTransfersMoveOnlyPointers : Obligations.ControlTransfersMoveOnlyPointers := by
  intro i s s' h e
  by_cases hi : i = .illegal
  · subst hi
    obtain ⟨_, _, rfl⟩ := raiseIllegal_frame (Exec.outcome_eq_next.1 e)
    exact ⟨rfl, fun _ _ _ => rfl, fun hi => absurd rfl hi, fun _ => ⟨rfl, rfl⟩⟩
  by_cases hw : ∃ o, i = .wait o
  · obtain ⟨o, rfl⟩ := hw
    obtain ⟨_, _, _, _, rfl⟩ := execWait_frame e
    exact ⟨rfl, fun _ _ _ => rfl, fun _ => rfl, fun hw => absurd rfl (hw o)⟩
  by_cases hc : ∃ o, i = .call o ∨ i = .calla o
  · obtain ⟨o, hc⟩ := hc
    obtain ⟨a, v, w, ha, _, _, rfl⟩ := exec_call_frame hc e
    generalize hg : grfWrite (grfWrite s.eu.grf a v 4) (a + 4) w 4 = g
    refine ⟨rfl, fun b hb hout => ?_, fun _ => rfl, fun _ => ⟨rfl, rfl⟩⟩
    have hout := hout a ha
    simp only [State.withPointers]
    rw [← hg, grfByte_write_other (by omega), grfByte_write_other (by omega)]
  · obtain ⟨_, _, rfl⟩ := exec_moves h hi (fun o ho => hw ⟨o, ho⟩) (fun o ho => hc ⟨o, .inl ho⟩)
      (fun o ho => hc ⟨o, .inr ho⟩) e
    exact ⟨rfl, fun _ _ _ => rfl, fun _ => rfl, fun _ => ⟨rfl, rfl⟩⟩

end Sys2Proof.Proofs.ControlFrames
end

section
/-! PROOF SUPPORT. What one instruction of any kind leaves of the machine (O3): a send its frame, every other instruction all but
the resident thread. -/

namespace Sys2Proof.Proofs.InstructionFrames

open Sys2Proof.Machine Sys2Proof.Claims Sys2Proof.Proofs.Stores Sys2Proof.Proofs.Computing Sys2Proof.Proofs.ControlFrames
open Sys2Proof.Proofs.Messages

/-- Nothing but the resident thread has changed. -/
def OnlyThread (s s' : State) : Prop := ∃ t, s' = { s with eu := t }

theorem OnlyThread.inv {s s' : State} (h : OnlyThread s s') (hs : s.Inv) : s'.Inv := by
  obtain ⟨t, rfl⟩ := h
  exact hs

theorem templated_onlyThread {s s' : State} {w : Writes} (h : Templated s w s') : OnlyThread s s' := by
  obtain ⟨u, lane, h, _, _⟩ := h
  exact ⟨_, channelwise_frame h⟩

/-- INT DIV with remainder is the template, and then the remainders stored in the thread. -/
theorem mathPair_cases {s s' : State} {o : MathOp} {fc : BitVec 4} (h : mathPair s o fc = .ok s') :
    ∃ s1 off lanes places t, mathWith s o fc true true Config.mathFn = .ok s1 ∧
      channelOffset o.ctl (plainUsage .none (mathTypes o)).usesDf = .ok off ∧
      Machine.sequence ((List.range o.ctl.exec.channels).map (remainderPlace s.eu o)) = .ok places ∧
      storeLanes (.op o.dst) s1.eu (((List.range o.ctl.exec.channels).map
        (laneEnabled s.eu o.ctl (plainUsage .none (mathTypes o)) (.op o.dst) off)).zip (places.zip lanes)) = .ok t ∧
      s' = { s1 with eu := t } := by
  simp only [mathPair, Exec.bind_eq_ok, Exec.pure_eq, Except.ok.injEq] at h
  obtain ⟨s1, h1, off, ho, lanes, _, places, hp, t, ht, rfl⟩ := h
  exact ⟨s1, off, lanes, places, t, h1, ho, hp, ht, rfl⟩

theorem mathPair_onlyThread {s s' : State} {o : MathOp} {fc : BitVec 4} (h : mathPair s o fc = .ok s') : OnlyThread s s' := by
  obtain ⟨s1, _, _, _, t, h1, _, _, _, rfl⟩ := mathPair_cases h
  obtain ⟨t1, rfl⟩ := templated_onlyThread (mathWith_templated s1 h1)
  exact ⟨t, rfl⟩

/-- A computing instruction. -/
theorem computing_onlyThread {i : Instr} {w : Writes} {s s' : State} (hc : computing i = some w)
    (e : exec i s = .next s') : OnlyThread s s' := by
  by_cases hq : ∃ o, i = .mathIntDivQr o
  · obtain ⟨o, rfl⟩ := hq
    exact mathPair_onlyThread (Exec.outcome_eq_next.1 e)
  · exact templated_onlyThread (exec_templated hc (fun o ho => hq ⟨o, ho⟩) e)

/-- The kinds of instructions. -/
theorem kind_of_instr (i : Instr) :
    (∃ w, computing i = some w) ∨ transfers i = true ∨ (∃ f, i.shape = .send f) ∨ (∃ o, i = .compactTwo o) ∨
      ∃ o, i = .compactThree o := by
  cases i <;> simp [computing, transfers, Instr.shape]

/-- A native instruction that is no send. -/
theorem native_onlyThread {i : Instr} {s s' : State} (h : (∃ w, computing i = some w) ∨ transfers i = true)
    (e : exec i s = .next s') : OnlyThread s s' := by
  rcases h with ⟨w, h⟩ | h
  · exact computing_onlyThread h e
  · exact ⟨_, (controlTransfersMoveOnlyPointers i s s' h e).1⟩

/-! ### Compact instructions -/

/-- An expanded instruction runs as the native one, which is no send. -/
theorem exec_of_execExpandedTwo {i : Instr} {s s' : State} (e : execExpandedTwo i s = .next s') :
    exec i s = .next s' ∧ ((∃ w, computing i = some w) ∨ transfers i = true) := by
  unfold execExpandedTwo at e
  split at e
  all_goals first | exact ⟨e, .inl ⟨_, rfl⟩⟩ | exact ⟨e, .inr rfl⟩ | cases e

theorem exec_of_execExpandedThree {i : Instr} {s s' : State} (e : execExpandedThree i s = .next s') :
    exec i s = .next s' ∧ ((∃ w, computing i = some w) ∨ transfers i = true) := by
  unfold execExpandedThree at e
  split at e
  all_goals first | exact ⟨e, .inl ⟨_, rfl⟩⟩ | cases e

/-- What a compact word can do: the illegal-opcode exception, or its expansion's operation. -/
theorem execCompact_cases {op : BitVec 7} {w : Decoded Instr} {run : Instr → State → Host.Outcome State Fault Refusal}
    {s s' : State} (e : execCompact op w run s = .next s') :
    (raiseIllegal s = .ok s' ∧ ((op == 0x00#7 || !isOpcode op) = true ∨ w = .error .reservedOpcode)) ∨
      ∃ i, w = .ok i ∧ run i s = .next s' := by
  unfold execCompact at e
  split at e
  · exact .inl ⟨Exec.outcome_eq_next.1 e, .inl ‹_›⟩
  · split at e
    · exact .inr ⟨_, rfl, e⟩
    · exact .inl ⟨Exec.outcome_eq_next.1 e, .inr rfl⟩
    · cases e

theorem raiseIllegal_onlyThread {s s' : State} (h : raiseIllegal s = .ok s') : OnlyThread s s' := by
  obtain ⟨_, _, rfl⟩ := raiseIllegal_frame h
  exact ⟨_, rfl⟩

/-- Every instruction but a send. -/
theorem exec_onlyThread {i : Instr} {s s' : State} (hf : ∀ f, i.shape ≠ .send f) (e : exec i s = .next s') :
    OnlyThread s s' := by
  rcases kind_of_instr i with h | h | ⟨f, h⟩ | ⟨o, rfl⟩ | ⟨o, rfl⟩
  · exact native_onlyThread (.inl h) e
  · exact native_onlyThread (.inr h) e
  · exact absurd h (hf f)
  · rcases execCompact_cases e with ⟨h, _⟩ | ⟨j, _, h⟩
    · exact raiseIllegal_onlyThread h
    · obtain ⟨h, k⟩ := exec_of_execExpandedTwo h
      exact native_onlyThread k h
  · rcases execCompact_cases e with ⟨h, _⟩ | ⟨j, _, h⟩
    · exact raiseIllegal_onlyThread h
    · obtain ⟨h, k⟩ := exec_of_execExpandedThree h
      exact native_onlyThread k h

/-- Every instruction keeps the form of memory and stores. -/
theorem exec_inv {i : Instr} {s s' : State} (e : exec i s = .next s') (hs : s.Inv) : s'.Inv := by
  by_cases hf : ∃ f, i.shape = .send f
  · obtain ⟨f, hf⟩ := hf
    exact (exec_send_frame hf e).inv hs
  · exact (exec_onlyThread (fun f h => hf ⟨f, h⟩) e).inv hs

end Sys2Proof.Proofs.InstructionFrames
end

section
/-! PROOF SUPPORT. Everything outside the threads that stores, and the settling of O3: the engines' reports, the blitter, the host. -/

namespace Sys2Proof.Proofs.InvariantSteps

open Sys2Proof.Machine Sys2Proof.Claims Sys2Proof.Proofs.Stores Sys2Proof.Proofs.InstructionFrames
open Sys2Proof.Proofs.ControlFrames

/-! ### Engines -/

theorem limit_le (v : Engine) : v.limit ≤ addressLimit := by
  unfold Engine.limit
  split
  · split
    · decide
    · exact Nat.le_refl _
  · exact Nat.le_refl _

theorem inv_setEngine {s : State} {e : EngineId} {v : Engine} : (s.setEngine e v).Inv ↔ s.Inv := by
  cases e <;> rfl

/-- An engine's status page and a context's page have addresses of 32 bits. -/
theorem storeAs_page_inv {s : State} {page off n v : Nat} (hp : page < 2 ^ 32) (ho : off + n ≤ 1024) (hs : s.Inv) :
    (s.storeAs .agent (page + off) n v).Inv :=
  State.storeAs_inv hs (by simp only [addressLimit]; omega)

theorem contextPage_lt (d : QWord) : contextPage d < 2 ^ 32 := by
  have h : descField d 12 20 < 2 ^ 20 := BitVec.isLt _
  simp only [contextPage]
  omega

theorem setIrq_inv {s : State} {e : EngineId} {q : Irq} (hs : s.Inv) : (s.setIrq e q).Inv := by
  rcases s.setIrq_cases e q with h | h
  · rw [h]
    exact inv_setEngine.2 hs
  · rw [h]
    exact storeAs_page_inv (off := 0) (BitVec.isLt _) (by decide) (inv_setEngine.2 hs)

theorem raiseEngine_inv {s : State} {e : EngineId} {c : DWord} (hs : s.Inv) : (s.raiseEngine e c).Inv := setIrq_inv hs

theorem lowerEngine_inv {s : State} {e : EngineId} {c : DWord} (hs : s.Inv) : (s.lowerEngine e c).Inv := setIrq_inv hs

theorem pulse_inv {s : State} {e : EngineId} {c : DWord} (hs : s.Inv) : (s.pulse e c).Inv :=
  lowerEngine_inv (raiseEngine_inv hs)

theorem pulsePageFault_inv {s : State} (hs : s.Inv) : s.pulsePageFault.Inv := by
  unfold State.pulsePageFault
  split
  · exact lowerEngine_inv (setIrq_inv hs)
  · exact pulse_inv hs

theorem raiseGroup_inv {s : State} {g : IrqGroup} {c : DWord} (hs : s.Inv) : (s.raiseGroup g c).Inv := by
  cases g with
  | engine e => exact raiseEngine_inv hs
  | display u => exact hs

theorem lowerGroup_inv {s : State} {g : IrqGroup} {c : DWord} (hs : s.Inv) : (s.lowerGroup g c).Inv := by
  cases g with
  | engine e => exact lowerEngine_inv hs
  | display u => exact hs

theorem writeGroup_inv {s : State} {g : IrqGroup} {r : IrqReg} {v : DWord} (hs : s.Inv) : (s.writeGroup g r v).Inv := by
  cases g with
  | engine e => exact inv_setEngine.2 hs
  | display u => exact hs

theorem engineError_inv {s : State} {e : EngineId} {b : DWord} (hs : s.Inv) : (s.engineError e b).Inv := by
  unfold State.engineError
  dsimp only
  split
  · exact inv_setEngine.2 hs
  · exact raiseEngine_inv (inv_setEngine.2 hs)

theorem instructionError_inv {s : State} {e : EngineId} (hs : s.Inv) : (s.instructionError e).Inv :=
  inv_setEngine.2 (engineError_inv hs)

theorem clearErrors_inv {s : State} {e : EngineId} {w : DWord} (hs : s.Inv) : (s.clearErrors e w).Inv := by
  unfold State.clearErrors
  dsimp only
  split
  · exact lowerEngine_inv (inv_setEngine.2 hs)
  · exact inv_setEngine.2 hs

theorem storeDword_inv {s : State} {page k : Nat} {v : DWord} (hp : page < 2 ^ 32) (hk : k < 64) (hs : s.Inv) :
    (s.storeDword page k v).Inv := storeAs_page_inv hp (by omega) hs

theorem storeQword_inv {s : State} {page k : Nat} {v : QWord} (hp : page < 2 ^ 32) (hk : k < 64) (hs : s.Inv) :
    (s.storeQword page k v).Inv := storeAs_page_inv hp (by omega) hs

theorem reportStatus_inv {s : State} {e : EngineId} {v : QWord} (hs : s.Inv) : (s.reportStatus e v).Inv :=
  inv_setEngine.2 (storeDword_inv (BitVec.isLt _) (by decide) (storeQword_inv (BitVec.isLt _) (by omega) hs))

theorem loadImage_inv {s : State} {e : EngineId} {i : ContextImage} (hs : s.Inv) : (s.loadImage e i).Inv := by
  cases e <;> exact hs

theorem restoreContext_inv {s : State} {e : EngineId} {d : QWord} (hs : s.Inv) : (s.restoreContext e d).Inv := by
  unfold State.restoreContext
  dsimp only
  split
  · split
    · exact loadImage_inv hs
    · exact loadImage_inv hs
  · split
    · exact inv_setEngine.2 hs
    · exact hs

theorem enterContext_inv {s : State} {e : EngineId} {d : QWord} {b : Bool} (hs : s.Inv) : (s.enterContext e d b).Inv := by
  have h0 : ((s.restoreContext e d).storeDword (contextPage d) 17 (if b then 1#32 else 0#32)).Inv :=
    storeDword_inv (contextPage_lt d) (by decide) (restoreContext_inv hs)
  unfold State.enterContext
  dsimp only
  refine inv_setEngine.2 ?_
  split
  · exact storeQword_inv (contextPage_lt d) (by decide) h0
  · exact h0

theorem leaveContext_inv {s : State} {e : EngineId} {d : QWord} {why : SwitchReason} (hs : s.Inv) :
    (s.leaveContext e d why).Inv := by
  have store {t : State} {k : Nat} {v : QWord} (hk : k < 64) (ht : t.Inv) : (t.storeQword (contextPage d) k v).Inv :=
    storeQword_inv (contextPage_lt d) hk ht
  have h1 {v : DWord} {w : QWord} :
      (((s.saveContext e d).storeDword (contextPage d) 16 v).storeQword (contextPage d) 22 w).Inv :=
    store (by decide) (storeDword_inv (contextPage_lt d) (by decide) (inv_setEngine.2 hs))
  cases why with
  | semaphore p => exact store (by decide) (store (by decide) h1)
  | _ => exact h1

theorem pulseSwitch_inv {s : State} {e : EngineId} (hs : s.Inv) : (s.pulseSwitch e).Inv := by
  unfold State.pulseSwitch
  split
  · exact pulse_inv hs
  · exact hs

theorem submit_inv {s : State} {e : EngineId} {d0 d1 : QWord} (hs : s.Inv) : Yields State.Inv (s.submit e d0 d1) := by
  refine .bind fun _ => ?_
  dsimp only
  split
  · exact .pure hs
  · exact .pure (inv_setEngine.2 hs)
  · split
    · exact .pure (inv_setEngine.2 hs)
    · exact .pure (pulseSwitch_inv (enterContext_inv (reportStatus_inv (inv_setEngine.2 hs))))
  · exact .pure (storeQword_inv (contextPage_lt _) (by decide) (inv_setEngine.2 hs))

theorem switchOut_inv {s : State} {e : EngineId} {why : SwitchReason} (hs : s.Inv) :
    Yields State.Inv (s.switchOut e why) := by
  refine .bind fun _ => ?_
  split
  · exact .pure hs
  · exact .pure hs
  · refine .pure (pulseSwitch_inv ?_)
    have h2 {t : State} {v : Engine} (ht : t.Inv) : (t.setEngine e v).Inv := inv_setEngine.2 ht
    split
    · exact enterContext_inv (h2 (reportStatus_inv (leaveContext_inv hs)))
    · exact h2 (reportStatus_inv (leaveContext_inv hs))

theorem parsing_inv {s : State} {e : EngineId} {c : State → Exec State} (hs : s.Inv) (h : Yields State.Inv (c s)) :
    Yields State.Inv (s.parsing e c) := by
  unfold State.parsing
  split
  · exact h
  · exact .ok hs

theorem privilegedCommand_inv {s : State} {e : EngineId} {p : Bool} {c : State → Exec State} (hs : s.Inv)
    (h : Yields State.Inv (c s)) : Yields State.Inv (s.privilegedCommand e p c) := by
  unfold State.privilegedCommand
  split
  · exact .ok (engineError_inv hs)
  · exact h

theorem parse_inv {s : State} {e : EngineId} {d : DWord} {p : Bool} (hs : s.Inv) : Yields State.Inv (s.parse e d p) := by
  refine parsing_inv hs ?_
  split
  · exact .ok (instructionError_inv hs)
  · exact privilegedCommand_inv hs (.ok hs)

theorem semaphoreWait_inv {s : State} {e : EngineId} (hs : s.Inv) : Yields State.Inv (s.semaphoreWait e) := by
  refine parsing_inv hs (.ok ?_)
  split
  · exact pulse_inv (inv_setEngine.2 hs)
  · exact inv_setEngine.2 hs

theorem semaphoreSignal_inv {s : State} {e : EngineId} {d : DWord} (hs : s.Inv) : (s.semaphoreSignal e d).Inv := by
  unfold State.semaphoreSignal
  dsimp only
  split
  · exact inv_setEngine.2 hs
  · exact hs

theorem reportHead_inv {s : State} {e : EngineId} (hs : s.Inv) : Yields State.Inv (s.reportHead e) := by
  have h : (s.storeDword (s.engine e).hwsPga.toNat 4 (s.engine e).ringHead).Inv :=
    storeDword_inv (BitVec.isLt _) (by decide) hs
  refine parsing_inv hs (.ok ?_)
  split
  · exact storeDword_inv (contextPage_lt _) (by decide) h
  · exact h

theorem flushNotify_inv {s : State} {e : EngineId} {x : Option (Nat × QWord)} (hs : s.Inv) :
    Yields State.Inv (s.flushNotify e x) := by
  refine parsing_inv hs ?_
  cases x with
  | none => exact .pure (pulse_inv hs)
  | some p =>
    intro t ht
    obtain ⟨_, hb, ht⟩ := Exec.bind_eq_ok.1 ht
    cases ht
    exact pulse_inv (State.storeAs_inv hs (Nat.le_trans (checkBelow_eq_ok.1 hb) (limit_le _)))

theorem pageFault_inv {s : State} {e : EngineId} {f : FaultSource} {r : Bool} (hs : s.Inv) :
    Yields State.Inv (s.pageFault e f r) :=
  yields_ite (.pure hs) (yields_ite (.pure (inv_setEngine.2 hs))
    (.pure (raiseEngine_inv (pulsePageFault_inv (inv_setEngine.2 (inv_setEngine.2 hs))))))

theorem faultFixed_inv {s : State} {e : EngineId} {f : PendingFault} (hs : s.Inv) : (s.faultFixed e f).Inv := by
  unfold State.faultFixed
  dsimp only
  split
  · exact hs
  · exact inv_setEngine.2 hs

theorem mmioWrite_inv {s : State} {off : Nat} {v : DWord} (hs : s.Inv) : Yields State.Inv (s.mmioWrite off v) := by
  refine .bind fun _ => ?_
  split
  · exact .pure hs
  · split
    · exact .pure hs
    · exact .pure hs

theorem loadRegister_inv {s : State} {e : EngineId} {d : QWord} {p : Bool} (hs : s.Inv) :
    Yields State.Inv (s.loadRegister e d p) :=
  parsing_inv hs (privilegedCommand_inv hs (.bind fun _ => mmioWrite_inv hs))

theorem writeEngine_inv {s : State} {e : EngineId} {r : EngineReg} {v : QWord} (hs : s.Inv) :
    Yields State.Inv (s.writeEngine e r v) := by
  have h {w : Engine} : (s.setEngine e w).Inv := inv_setEngine.2 hs
  cases r with
  | emr => exact .bind fun _ => .pure h
  | eir => exact .bind fun _ => .pure (clearErrors_inv hs)
  | engineMask => exact .bind fun _ => .pure h
  | hwsPga => exact .bind fun _ => .pure h
  | _ => exact .pure h

/-- A report's DWords end where the check of its address says. -/
theorem storeDwords_inv : ∀ {l : List DWord} {s : State} {a : Nat}, a + 4 * l.length ≤ addressLimit → s.Inv →
    (s.storeDwords a l).Inv
  | [], _, _, _, hs => hs
  | v :: vs, s, a, ha, hs => by
    simp only [List.length_cons] at ha
    exact storeDwords_inv (l := vs) (by omega) (State.storeAs_inv hs (by omega))

theorem reportDwords_length (d : Device) (r c : DWord) : (reportDwords d r c).length = 64 := by
  simp [reportDwords]

theorem report_inv {s : State} {a : Nat} {r : DWord} {o : Option DWord} (hs : s.Inv) :
    Yields State.Inv (s.report a r o) := by
  intro t ht
  obtain ⟨_, hb, ht⟩ := Exec.bind_eq_ok.1 ht
  have ha : a + 256 ≤ addressLimit := Nat.le_trans (checkBelow_eq_ok.1 hb) (limit_le _)
  dsimp only at ht
  split at ht
  · exact Except.ok.inj ht ▸ hs
  · exact Except.ok.inj ht ▸ storeDwords_inv (by rw [reportDwords_length]; exact ha) hs

theorem timeout_inv {b s : State} {e : EngineId} (hs : s.Inv) : (State.timeout b s e).Inv := by
  unfold State.timeout
  dsimp only
  split
  · exact pulse_inv hs
  · exact hs

/-- The passing of time. -/
theorem tick_inv {s : State} (hs : s.Inv) : s.tick.Inv := by
  have fold : ∀ (l : List EngineId) (t : State), t.Inv → (l.foldl (fun t e => State.timeout s t e) t).Inv := by
    intro l
    induction l with
    | nil => exact fun t ht => ht
    | cons e l ih => exact fun t ht => ih _ (timeout_inv ht)
  exact fold _ _ hs

/-! ### The blitter -/

/-- The pixels a blit addresses are in the address space. -/
theorem pixelAddress_bound {limit base bytes x y : Nat} {pitch : Int} {tiled : Bool} :
    Yields (fun a => a + bytes ≤ limit) (pixelAddress limit base pitch tiled bytes x y) :=
  yields_ite (fun _ h => nomatch h) (.andThen (fun _ h => checkBelow_eq_ok.1 h) fun _ hb => .pure hb)

theorem blitPixel_inv {low high : DWord} {b : Blit} {im : Immediate} {s : State} {x y : Nat} (hs : s.Inv) :
    Yields State.Inv (blitPixel low high b im s x y) := by
  refine .andThen pixelAddress_bound fun a ha => .bind fun _ => .bind fun _ => ?_
  dsimp only
  split
  · exact .pure hs
  · exact .pure (State.storeAs_inv hs (Nat.le_trans ha (limit_le _)))

theorem blitPixels_inv {low high : DWord} {b : Blit} {im : Immediate} :
    ∀ {l : List (Nat × Nat)} {s : State}, s.Inv → Yields State.Inv (blitPixels low high b im s l)
  | [], _, hs => .ok hs
  | (_, _) :: _, _, hs => .andThen (blitPixel_inv hs) fun _ ht => blitPixels_inv ht

theorem startBlit_inv {s : State} {data : List Byte} (hs : s.Inv) : Yields State.Inv (s.startBlit data) := by
  unfold State.startBlit
  dsimp only
  split
  · exact .pure hs
  · split
    · exact .pure hs
    · exact .bind fun _ => .andThen (blitPixels_inv hs) fun _ ht => .pure ⟨ht.1, ht.2.1, ht.2.2⟩

theorem writeBr_inv {s : State} {n : Fin 31} {v : DWord} {data : List Byte} (hs : s.Inv) :
    Yields State.Inv (s.writeBr n v data) := by
  refine .bind fun _ => .bind fun _ => ?_
  dsimp only
  split
  · exact startBlit_inv hs
  · exact .pure hs

/-! ### Resets, dispatches and the host -/

theorem resetEngine_inv {s : State} {e : EngineId} (hs : s.Inv) : (s.resetEngine e).Inv := by
  cases e with
  | rcs => exact ⟨hs.1, hs.2.1, fun _ hg => absurd hg List.not_mem_nil⟩
  | _ => exact hs

theorem hostWrite_inv {s : State} {a : Nat} {bytes : List Byte} (ha : a + bytes.length ≤ addressLimit) (hs : s.Inv) :
    (s.hostWrite a bytes).Inv :=
  ⟨Memory.wf_writeBytes hs.1 ha, hs.2.1, hs.2.2⟩

theorem askDispatch_inv {s : State} {q : DispatchRequest} (hs : s.Inv) : (s.askDispatch q).Inv := by
  unfold State.askDispatch State.requestDispatch
  split
  · split
    · exact hs
    · split
      · exact hs
      · exact hs
  · exact hs

/-- A host event. -/
theorem apply_inv {s : State} {e : HostEvent} (hs : s.Inv) : Yields State.Inv (s.apply e) := by
  unfold State.apply
  cases e with
  | reset g => exact .ok (resetEngine_inv hs)
  | resetAll => exact .ok ⟨hs.1, hs.2.1, fun _ hg => absurd hg List.not_mem_nil⟩
  | writeIrq g r v => exact .ok (writeGroup_inv hs)
  | raise g c => exact .ok (raiseGroup_inv hs)
  | lower g c => exact .ok (lowerGroup_inv hs)
  | writeEngine g r v => exact writeEngine_inv hs
  | submit g d0 d1 => exact submit_inv hs
  | switchOut g why => exact switchOut_inv hs
  | reportHead g => exact reportHead_inv hs
  | parse g h p => exact parse_inv hs
  | batch g p =>
    refine parsing_inv hs ?_
    exact .ok (inv_setEngine.2 hs)
  | loadRegister g d p => exact loadRegister_inv hs
  | mmioWrite off v => exact mmioWrite_inv hs
  | pageFault g f r => exact pageFault_inv hs
  | faultFixed g f => exact .ok (faultFixed_inv hs)
  | userInterrupt g =>
    refine parsing_inv hs ?_
    exact .ok (pulse_inv hs)
  | semaphoreWait g => exact semaphoreWait_inv hs
  | semaphoreSignal g d => exact .ok (semaphoreSignal_inv hs)
  | flushNotify g x => exact flushNotify_inv hs
  | report a r o => exact report_inv hs
  | powerClock v => exact .bind fun _ => .bind fun _ => .pure hs
  | clockGate g b off => exact .ok (inv_setEngine.2 hs)
  | audioPower v => exact .bind fun _ => .pure hs
  | setContext c =>
    refine parsing_inv hs ?_
    exact .bind fun _ => .pure hs
  | writeMemory a bytes => exact .andThen (fun _ h => checkAddress_eq_ok.1 h) fun _ ha => .pure (hostWrite_inv ha hs)
  | writeBlitter n v =>
    refine parsing_inv hs ?_
    exact writeBr_inv hs
  | blitImmediate n v data =>
    refine parsing_inv hs ?_
    exact writeBr_inv hs
  | vfeState v =>
    refine parsing_inv hs ?_
    exact .bind fun _ => .pure hs
  | vertexBuffer v =>
    refine parsing_inv hs ?_
    exact .bind fun _ => .pure hs
  | dispatch d => exact .ok (askDispatch_inv hs)
  | _ => exact .ok hs

/-- A dispatch: a new group's shared memory is empty. -/
theorem dispatchNow_inv {s : State} {h : HeldDispatch} (hs : s.Inv) : Yields State.Inv (s.dispatchNow h) := by
  unfold State.dispatchNow
  split
  · refine .bind fun d => .bind fun _ => ?_
    dsimp only
    split
    · exact .pure hs
    · refine .pure ⟨hs.1, hs.2.1, fun g hg => ?_⟩
      dsimp only at hg
      split at hg
      · exact hs.2.2 g hg
      · rcases List.mem_append.1 hg with hg | hg
        · exact hs.2.2 g hg
        · rw [List.mem_singleton.1 hg]
          rfl
  · exact .bind fun _ => .bind fun _ => .pure hs

/-! ### A thread's step -/

theorem rotate_inv {s : State} (hs : s.Inv) : s.rotate.Inv := by
  unfold State.rotate
  split
  · exact hs
  · split <;> exact hs

theorem deliver_inv {s : State} {r : Response} (hs : s.Inv) : (s.deliver r).Inv := by
  unfold State.deliver
  split <;> exact hs

theorem deliverAt_inv {s : State} {k : Nat} (hs : s.Inv) : (s.deliverAt k).Inv := by
  rcases s.deliverAt_cases k with ⟨_, h⟩ | ⟨r, _, h⟩
  · exact h.symm ▸ hs
  · rw [h]
    exact deliver_inv (r := r) hs

theorem yieldThread_inv {s : State} (hs : s.Inv) : s.yieldThread.Inv := by
  unfold State.yieldThread
  split
  · exact deliverAt_inv hs
  · exact rotate_inv hs

theorem unsuppress_inv {s : State} {t : Thread} (hs : s.Inv) : (unsuppress t s).Inv := by
  unfold unsuppress
  split <;> exact hs

theorem afterExec_inv {s s1 : State} {i : Instr} (hs : s1.Inv) : (s.afterExec i s1).Inv := by
  unfold State.afterExec
  split
  · refine unsuppress_inv ?_
    have hm : (s1.markAnswered i s.pending.length).Inv := by
      unfold State.markAnswered
      split <;> exact hs
    unfold retire
    dsimp only
    split <;> exact hm
  · exact rotate_inv hs

theorem markRaces_inv {s : State} {i : Instr} (hs : s.Inv) : (s.markRaces i).Inv := by
  unfold State.markRaces
  split <;> exact hs

theorem issue_inv {s s' : State} {i : Instr} (hs : s.Inv) (e : s.issue i = .next s') : s'.Inv := by
  unfold State.issue at e
  split at e
  · cases e
    exact yieldThread_inv hs
  · split at e
    · rename_i s1 h1
      cases e
      exact afterExec_inv (exec_inv h1 (markRaces_inv hs))
    · cases e
    · cases e

theorem executeWord_inv {s s' : State} {w : BitVec 128} (hs : s.Inv) (e : s.executeWord w = .next s') : s'.Inv := by
  unfold State.executeWord at e
  split at e
  · exact issue_inv hs e
  · split at e
    · rename_i s1 h1
      cases e
      exact unsuppress_inv ((raiseIllegal_onlyThread (Exec.outcome_eq_next.1 h1)).inv hs)
    · cases e
    · cases e
  · cases e

theorem runCurrent_inv {s s' : State} (hs : s.Inv) (e : s.runCurrent = .next s') : s'.Inv := by
  unfold State.runCurrent at e
  split at e
  · unfold State.runThread at e
    split at e
    · cases e
    · cases e
    · split at e
      · dsimp only at e
        split at e
        · refine executeWord_inv ?_ e
          exact hs
        · cases e
          exact hs
      · exact executeWord_inv hs e
  · split at e <;> cases e
    · exact rotate_inv hs
    · exact hs
  · cases e
    exact rotate_inv hs
  · cases e
    exact rotate_inv hs

theorem takeResponse_inv {s : State} {tid base : Nat} (hs : s.Inv) : (s.takeResponse tid base).Inv := by
  unfold State.takeResponse
  dsimp only
  split
  · exact deliverAt_inv hs
  · exact hs

/-- What an agent does. -/
theorem act_inv {s s' : State} {a : Agent} (hs : s.Inv) (e : s.act a = .next s') : s'.Inv := by
  cases a with
  | input =>
    simp only [State.act, State.takeInput] at e
    split at e
    · refine apply_inv ?_ s' (Exec.outcome_eq_next.1 e)
      exact hs
    · cases e
      exact hs
  | dispatch =>
    simp only [State.act, State.takeDispatch] at e
    split at e
    · refine dispatchNow_inv ?_ s' (Exec.outcome_eq_next.1 e)
      exact hs
    · cases e
      exact hs
  | thread tid =>
    refine runCurrent_inv ?_ e
    rcases s.withThread_cases tid with h | ⟨_, _, _, _, h⟩
    · exact h.symm ▸ hs
    · rw [h]
      exact hs
  | response tid base =>
    cases e
    exact takeResponse_inv hs

theorem ticked_eq_next {x : Host.Outcome State Fault Refusal} {s : State} :
    ticked x = .next s ↔ ∃ t, x = .next t ∧ s = t.tick := by
  cases x <;> simp [ticked, eq_comm]

/-- Settles O3: what the agent whose turn it is does keeps the form, and so does the passing of time. -/
theorem everyStepKeepsTheInvariant : Obligations.EveryStepKeepsTheInvariant := by
  intro s s' hs e
  obtain ⟨t, ht, rfl⟩ := ticked_eq_next.1 e
  refine tick_inv ?_
  unfold State.once at ht
  split at ht
  · exact act_inv hs ht
  · cases ht
    exact hs

end Sys2Proof.Proofs.InvariantSteps
end

section
/-! PROOF SUPPORT. The codes of the fields of an instruction word and the fields themselves, each decoded and encoded (O5, O6): the
decoder answers exactly with what the encoder gives those bits. -/

namespace Sys2Proof.Proofs.Fields

/-! ### Decoders' answers -/

theorem bind_eq_ok {α β : Type} {x : Decoded α} {f : α → Decoded β} {b : β} :
    (x >>= f) = .ok b ↔ ∃ a, x = .ok a ∧ f a = .ok b := by
  cases x <;> simp [bind, Except.bind]

theorem pure_eq_ok {α : Type} {a b : α} : (pure a : Decoded α) = .ok b ↔ a = b := Except.ok.injEq a b ▸ Iff.rfl

theorem demand_eq_ok {b : Bool} {f : String} {u : Unit} : demand b f = .ok u ↔ b = true := by
  cases b <;> simp [demand]

theorem listed_eq_ok {α : Type} {f : String} {x : Option α} {a : α} : listed f x = .ok a ↔ x = some a := by
  cases x <;> simp [listed]

/-! ### Bits of words -/

/-- Two words agree on fields, each given by its first bit and its width. -/
def Agree {n : Nat} (x y : BitVec n) : List (Nat × Nat) → Prop
  | [] => True
  | (s, k) :: l => x.extractLsb' s k = y.extractLsb' s k ∧ Agree x y l

/-- The fields lie side by side from bit `s` up, the last one ending at bit `n`. -/
def tiles (n : Nat) : Nat → List (Nat × Nat) → Bool
  | s, [] => s == n
  | s, (a, k) :: l => a == s && tiles n (s + k) l

theorem bit_of_agree {n i m : Nat} {x y : BitVec n} : ∀ {l : List (Nat × Nat)} {s : Nat}, Agree x y l →
    tiles m s l = true → s ≤ i → i < m → x.getLsbD i = y.getLsbD i
  | [], s, _, ht, h1, h2 => by
    simp only [tiles, beq_iff_eq] at ht
    omega
  | (a, k) :: l, s, h, ht, h1, h2 => by
    obtain ⟨hk, hl⟩ := h
    simp only [tiles, Bool.and_eq_true, beq_iff_eq] at ht
    obtain ⟨rfl, ht⟩ := ht
    by_cases hi : i < a + k
    · have := congrArg (fun z => z.getLsbD (i - a)) hk
      simpa [show i - a < k by omega, show a + (i - a) = i by omega] using this
    · exact bit_of_agree hl ht (by omega) h2

theorem Agree.refl {n : Nat} (x : BitVec n) : ∀ l, Agree x x l
  | [] => trivial
  | _ :: l => ⟨rfl, Agree.refl x l⟩

/-- Words are equal when their fields are. -/
theorem eq_iff_agree {n : Nat} {x y : BitVec n} (l : List (Nat × Nat)) (hl : tiles n 0 l = true) : x = y ↔ Agree x y l :=
  ⟨fun h => h ▸ Agree.refl x l, fun h => BitVec.eq_of_getLsbD_eq fun _ hi => bit_of_agree h hl (Nat.zero_le _) hi⟩

/-- A field of a field. -/
theorem extractLsb'_extractLsb' {n s l t m : Nat} {x : BitVec n} (h : t + m ≤ l) :
    (x.extractLsb' s l).extractLsb' t m = x.extractLsb' (s + t) m := by
  ext i hi
  simp [show t + i < l by omega, Nat.add_assoc]

/-- A bit as a field of width 1. -/
theorem extract_one {n k : Nat} {x : BitVec n} {b : Bool} : x.extractLsb' k 1 = BitVec.ofBool b ↔ x.getLsbD k = b := by
  constructor
  · intro h
    have := congrArg (fun z => z.getLsbD 0) h
    simpa using this
  · rintro rfl
    ext i hi
    have hi : i = 0 := by omega
    simp [hi]

theorem extract_one_eq_zero {n k : Nat} {x : BitVec n} : x.extractLsb' k 1 = 0#1 ↔ x.getLsbD k = false :=
  extract_one (b := false)

theorem extract_one_eq_one {n k : Nat} {x : BitVec n} : x.extractLsb' k 1 = 1#1 ↔ x.getLsbD k = true :=
  extract_one (b := true)

/-! ### Codes -/

theorem RType.ofCode_iff {c : BitVec 4} {t : RType} : RType.ofCode c = some t ↔ c = t.code := by
  revert c; cases t <;> decide

theorem IType.ofCode_iff {c : BitVec 4} {t : IType} : IType.ofCode c = some t ↔ c = t.code := by
  revert c; cases t <;> decide

theorem TType.ofCode_iff {c : BitVec 3} {t : TType} : TType.ofCode c = some t ↔ c = t.code := by
  revert c; cases t <;> decide

theorem CondMod.ofCode_iff {c : BitVec 4} {m : CondMod} : CondMod.ofCode c = some m ↔ c = m.code := by
  revert c; cases m <;> decide

theorem ExecSize.ofCode_iff {c : BitVec 3} {z : ExecSize} : ExecSize.ofCode c = some z ↔ c = z.code := by
  revert c; cases z <;> decide

theorem ThreadCtrl.ofCode_iff {c : BitVec 2} {t : ThreadCtrl} : ThreadCtrl.ofCode c = some t ↔ c = t.code := by
  revert c; cases t <;> decide

theorem AccessMode.ofCode_iff {c : BitVec 1} {a : AccessMode} : AccessMode.ofCode c = some a ↔ c = a.code := by
  revert c; cases a <;> decide

theorem HStride.ofCode_iff {c : BitVec 2} {h : HStride} : HStride.ofCode c = some h ↔ c = h.code := by
  revert c; cases h <;> decide

theorem VStride.ofCode_iff {c : BitVec 4} {v : VStride} : VStride.ofCode c = some v ↔ c = v.code := by
  revert c; cases v <;> decide

theorem Width.ofCode_iff {c : BitVec 3} {w : Width} : Width.ofCode c = some w ↔ c = w.code := by
  revert c; cases w <;> decide

theorem Sfid.ofCode_iff {c : BitVec 4} {f : Sfid} : Sfid.ofCode c = some f ↔ c = f.code := by
  revert c; cases f <;> decide

theorem regFileOf_iff {c : BitVec 2} {f : RegFile} : regFileOf c = some f ↔ c = f.code := by
  revert c; cases f <;> decide

/-- A predicate control, in the access modes it exists in. -/
theorem PredCtrl.ofCode_iff {a : AccessMode} {c : BitVec 4} {p : PredCtrl} :
    PredCtrl.ofCode a c = some p ↔ c = p.code a ∧ (PredCtrl.ofCode a (p.code a) == some p) = true := by
  revert c; cases a <;> cases p <;> decide

theorem regFileOfBit_iff {b : Bool} {f : RegFile} : regFileOfBit b = f ↔ BitVec.ofBool b = f.code.extractLsb' 0 1 := by
  revert b; cases f <;> decide

theorem Tag.ofCodes_iff {f : BitVec 2} {y : BitVec 4} {t : Tag} :
    Tag.ofCodes f y = some t ↔ f = t.fileCode ∧ y = t.typeCode := by
  revert f y
  cases t with
  | reg file ty => cases file <;> cases ty <;> decide
  | imm ty => cases ty <;> decide

end Sys2Proof.Proofs.Fields
end

section
/-! PROOF SUPPORT. Locations, regions, operands and controls (R44 to R71): the decoder answers with an operand exactly when it is
well-formed and the bits are the encoder's. -/

namespace Sys2Proof.Proofs.Fields

open BitVec (extractLsb'_append_eq_of_add_le extractLsb'_append_eq_of_le extractLsb'_eq_self)

/-! ### Locations -/

theorem loc13_direct_iff {b : BitVec 13} {reg : BitVec 8} {sub : BitVec 5} :
    b = reg ++ sub ↔ b.extractLsb' 5 8 = reg ∧ b.extractLsb' 0 5 = sub := by
  rw [eq_iff_agree (x := b) [(0, 5), (5, 8)] rfl]
  simp (disch := decide) only [Agree, and_true, extractLsb'_append_eq_of_add_le, extractLsb'_append_eq_of_le, Nat.reduceSub,
    extractLsb'_eq_self]
  exact and_comm

theorem imm10_iff {bit9 : BitVec 1} {low : BitVec 9} {imm : BitVec 10} :
    bit9 ++ low = imm ↔ low = imm.extractLsb' 0 9 ∧ bit9 = imm.extractLsb' 9 1 := by
  rw [eq_iff_agree (x := bit9 ++ low) (y := imm) [(0, 9), (9, 1)] rfl]
  simp (disch := decide) only [Agree, and_true, extractLsb'_append_eq_of_add_le, extractLsb'_append_eq_of_le, Nat.reduceSub,
    extractLsb'_eq_self]

theorem loc13_indirect_iff {b : BitVec 13} {a : BitVec 3} {low : BitVec 9} :
    b = 0#1 ++ a ++ low ↔ b.extractLsb' 12 1 = 0#1 ∧ b.extractLsb' 9 3 = a ∧ b.extractLsb' 0 9 = low := by
  rw [eq_iff_agree (x := b) [(0, 9), (9, 3), (12, 1)] rfl]
  simp (disch := decide) only [Agree, and_true, extractLsb'_append_eq_of_add_le, extractLsb'_append_eq_of_le, Nat.reduceSub,
    extractLsb'_eq_self]
  tauto

theorem decodeLoc13_false {b : BitVec 13} {bit9 : BitVec 1} {l : Loc} :
    decodeLoc13 false b bit9 = .ok l ↔ bit9 = 0#1 ∧ .direct (b.extractLsb' 5 8) (b.extractLsb' 0 5) = l := by
  simp only [decodeLoc13, Bool.false_eq_true, if_false, bind_eq_ok, demand_eq_ok, pure_eq_ok, exists_const, beq_iff_eq]

theorem decodeLoc13_true {b : BitVec 13} {bit9 : BitVec 1} {l : Loc} :
    decodeLoc13 true b bit9 = .ok l ↔
      b.extractLsb' 12 1 = 0#1 ∧ .indirect (b.extractLsb' 9 3) (bit9 ++ b.extractLsb' 0 9) = l := by
  simp only [decodeLoc13, if_true, bind_eq_ok, demand_eq_ok, pure_eq_ok, exists_const, Bool.not_eq_true',
    extract_one_eq_zero]

/-- A location from the 13 bits of an Align1 operand (R58, R61). -/
theorem decodeLoc13_iff {mode : Bool} {b : BitVec 13} {bit9 : BitVec 1} {l : Loc} :
    decodeLoc13 mode b bit9 = .ok l ↔ BitVec.ofBool mode = l.mode ∧ b = encodeLoc13 l ∧ bit9 = l.bit9 := by
  cases mode with
  | false =>
    cases l with
    | direct reg sub => simp [decodeLoc13_false, encodeLoc13, Loc.mode, Loc.bit9, loc13_direct_iff, and_comm]
    | indirect a imm => simp [decodeLoc13_false, Loc.mode]
  | true =>
    cases l with
    | direct reg sub => simp [decodeLoc13_true, Loc.mode]
    | indirect a imm => simp [decodeLoc13_true, encodeLoc13, Loc.mode, Loc.bit9, loc13_indirect_iff, imm10_iff, and_assoc]

theorem loc9_direct_iff {b : BitVec 9} {reg : BitVec 8} {sub : BitVec 1} :
    b = reg ++ sub ↔ b.extractLsb' 1 8 = reg ∧ b.extractLsb' 0 1 = sub := by
  rw [eq_iff_agree (x := b) [(0, 1), (1, 8)] rfl]
  simp (disch := decide) only [Agree, and_true, extractLsb'_append_eq_of_add_le, extractLsb'_append_eq_of_le, Nat.reduceSub,
    extractLsb'_eq_self]
  exact and_comm

theorem loc9_indirect_iff {b : BitVec 9} {a : BitVec 3} {low : BitVec 5} :
    b = 0#1 ++ a ++ low ↔ b.extractLsb' 8 1 = 0#1 ∧ b.extractLsb' 5 3 = a ∧ b.extractLsb' 0 5 = low := by
  rw [eq_iff_agree (x := b) [(0, 5), (5, 3), (8, 1)] rfl]
  simp (disch := decide) only [Agree, and_true, extractLsb'_append_eq_of_add_le, extractLsb'_append_eq_of_le, Nat.reduceSub,
    extractLsb'_eq_self]
  tauto

theorem sub5_iff {b : BitVec 1} {sub : BitVec 5} :
    b ++ 0#4 = sub ↔ b = sub.extractLsb' 4 1 ∧ sub.extractLsb' 0 4 = 0#4 := by
  rw [eq_iff_agree (x := b ++ 0#4) (y := sub) [(0, 4), (4, 1)] rfl]
  simp (disch := decide) only [Agree, and_true, extractLsb'_append_eq_of_add_le, extractLsb'_append_eq_of_le, Nat.reduceSub,
    extractLsb'_eq_self]
  tauto

theorem imm10_aligned_iff {bit9 : BitVec 1} {mid : BitVec 5} {imm : BitVec 10} :
    bit9 ++ mid ++ 0#4 = imm ↔ mid = imm.extractLsb' 4 5 ∧ bit9 = imm.extractLsb' 9 1 ∧ imm.extractLsb' 0 4 = 0#4 := by
  rw [eq_iff_agree (x := bit9 ++ mid ++ 0#4) (y := imm) [(0, 4), (4, 5), (9, 1)] rfl]
  simp (disch := decide) only [Agree, and_true, extractLsb'_append_eq_of_add_le, extractLsb'_append_eq_of_le, Nat.reduceSub,
    extractLsb'_eq_self]
  tauto

theorem decodeLoc9_false {b : BitVec 9} {bit9 : BitVec 1} {l : Loc} :
    decodeLoc9 false b bit9 = .ok l ↔ bit9 = 0#1 ∧ .direct (b.extractLsb' 1 8) (b.extractLsb' 0 1 ++ 0#4) = l := by
  simp only [decodeLoc9, Bool.false_eq_true, if_false, bind_eq_ok, demand_eq_ok, pure_eq_ok, exists_const, beq_iff_eq]

theorem decodeLoc9_true {b : BitVec 9} {bit9 : BitVec 1} {l : Loc} :
    decodeLoc9 true b bit9 = .ok l ↔
      b.extractLsb' 8 1 = 0#1 ∧ .indirect (b.extractLsb' 5 3) (bit9 ++ b.extractLsb' 0 5 ++ 0#4) = l := by
  simp only [decodeLoc9, if_true, bind_eq_ok, demand_eq_ok, pure_eq_ok, exists_const, Bool.not_eq_true',
    extract_one_eq_zero]

/-- A location from the 9 bits of a 16-byte-aligned operand (R59, R62, R92). -/
theorem decodeLoc9_iff {mode : Bool} {b : BitVec 9} {bit9 : BitVec 1} {l : Loc} :
    decodeLoc9 mode b bit9 = .ok l ↔
      BitVec.ofBool mode = l.mode ∧ b = encodeLoc9 l ∧ bit9 = l.bit9 ∧ l.aligned16 = true := by
  cases mode with
  | false =>
    cases l with
    | direct reg sub =>
      simp only [decodeLoc9_false, encodeLoc9, Loc.mode, Loc.bit9, Loc.aligned16, loc9_direct_iff, Loc.direct.injEq, sub5_iff,
        BitVec.ofBool_false, beq_iff_eq]
      tauto
    | indirect a imm => simp [decodeLoc9_false, Loc.mode]
  | true =>
    cases l with
    | direct reg sub => simp [decodeLoc9_true, Loc.mode]
    | indirect a imm =>
      simp [decodeLoc9_true, encodeLoc9, Loc.mode, Loc.bit9, Loc.aligned16, loc9_indirect_iff, imm10_aligned_iff, and_assoc]

/-! ### Sources -/

theorem SrcMod.ofCode_iff {c : BitVec 2} {m : SrcMod} : SrcMod.ofCode c = m ↔ c = m.code := by
  obtain ⟨n, a⟩ := m
  revert c
  cases n <;> cases a <;> decide

/-- The bits of an Align1 source. -/
theorem src_align1_iff {b : BitVec 25} {vs : BitVec 4} {w : BitVec 3} {hs : BitVec 2} {mode : BitVec 1} {mod : BitVec 2}
    {loc : BitVec 13} :
    b = vs ++ w ++ hs ++ mode ++ mod ++ loc ↔ b.extractLsb' 21 4 = vs ∧ b.extractLsb' 18 3 = w ∧
      b.extractLsb' 16 2 = hs ∧ b.extractLsb' 15 1 = mode ∧ b.extractLsb' 13 2 = mod ∧ b.extractLsb' 0 13 = loc := by
  rw [eq_iff_agree (x := b) [(0, 13), (13, 2), (15, 1), (16, 2), (18, 3), (21, 4)] rfl]
  simp (disch := decide) only [Agree, and_true, extractLsb'_append_eq_of_add_le, extractLsb'_append_eq_of_le, Nat.reduceSub,
    extractLsb'_eq_self]
  tauto

/-- The bits of an Align16 source. -/
theorem src_align16_iff {b : BitVec 25} {vs : BitVec 4} {swz : BitVec 8} {mode : BitVec 1} {mod : BitVec 2}
    {loc : BitVec 9} :
    b = vs ++ 0#1 ++ swz.extractLsb' 4 4 ++ mode ++ mod ++ loc ++ swz.extractLsb' 0 4 ↔ b.extractLsb' 21 4 = vs ∧
      b.extractLsb' 20 1 = 0#1 ∧ b.extractLsb' 16 4 ++ b.extractLsb' 0 4 = swz ∧ b.extractLsb' 15 1 = mode ∧
      b.extractLsb' 13 2 = mod ∧ b.extractLsb' 4 9 = loc := by
  rw [eq_iff_agree (x := b) [(0, 4), (4, 9), (13, 2), (15, 1), (16, 4), (20, 1), (21, 4)] rfl,
    eq_iff_agree (x := b.extractLsb' 16 4 ++ b.extractLsb' 0 4) (y := swz) [(0, 4), (4, 4)] rfl]
  simp (disch := decide) only [Agree, and_true, extractLsb'_append_eq_of_add_le, extractLsb'_append_eq_of_le, Nat.reduceSub,
    extractLsb'_eq_self]
  tauto

theorem extract_bit {n k : Nat} {x : BitVec n} : BitVec.ofBool (x.getLsbD k) = x.extractLsb' k 1 := (extract_one.2 rfl).symm

theorem srcMod_code_ofCode {c : BitVec 2} : c = (SrcMod.ofCode c).code := SrcMod.ofCode_iff.1 rfl

/-- A source from its bits (R61, R62). -/
theorem decodeSrc_iff {a : AccessMode} {file : RegFile} {ty : RType} {b : BitVec 25} {bit9 : BitVec 1} {s : SrcOp} :
    decodeSrc a file ty b bit9 = .ok s ↔
      s.file = file ∧ s.ty = ty ∧ s.wf a = true ∧ b = encodeSrc s ∧ bit9 = s.loc.bit9 := by
  cases a with
  | align1 =>
    simp only [decodeSrc, bind_eq_ok, listed_eq_ok, demand_eq_ok, pure_eq_ok, VStride.ofCode_iff, Width.ofCode_iff,
      HStride.ofCode_iff, decodeLoc13_iff, extract_bit]
    constructor
    · rintro ⟨vs, hvs, w, hw, hs, hhs, l, ⟨hm, hl, h9⟩, _, hwf, rfl⟩
      exact ⟨rfl, rfl, hwf, src_align1_iff.2 ⟨hvs, hw, hhs, hm, srcMod_code_ofCode, hl⟩, h9⟩
    · obtain ⟨f, y, m, l, r⟩ := s
      rintro ⟨rfl, rfl, hwf, hb, h9⟩
      cases r with
      | align16 vs swz => simp [SrcOp.wf] at hwf
      | align1 vs w hs =>
        obtain ⟨hvs, hw, hhs, hm, hmod, hl⟩ := src_align1_iff.1 hb
        have hmod := SrcMod.ofCode_iff.2 hmod
        exact ⟨vs, hvs, w, hw, hs, hhs, l, ⟨hm, hl, h9⟩, (), hmod ▸ hwf, hmod ▸ rfl⟩
  | align16 =>
    simp only [decodeSrc, bind_eq_ok, listed_eq_ok, demand_eq_ok, pure_eq_ok, VStride.ofCode_iff, decodeLoc9_iff,
      Bool.not_eq_true', ← extract_one_eq_zero, extract_bit]
    constructor
    · rintro ⟨vs, hvs, _, h20, l, ⟨hm, hl, h9, hal⟩, _, hwf, rfl⟩
      refine ⟨rfl, rfl, hwf, src_align16_iff.2 ⟨hvs, h20, rfl, hm, srcMod_code_ofCode, hl⟩, h9⟩
    · obtain ⟨f, y, m, l, r⟩ := s
      rintro ⟨rfl, rfl, hwf, hb, h9⟩
      cases r with
      | align1 vs w hs => simp [SrcOp.wf] at hwf
      | align16 vs swz =>
        obtain ⟨hvs, h20, hswz, hm, hmod, hl⟩ := src_align16_iff.1 hb
        have hmod := SrcMod.ofCode_iff.2 hmod
        have hal : l.aligned16 = true := by
          simp only [SrcOp.wf, Bool.and_eq_true] at hwf
          exact hwf.2.1
        exact ⟨vs, hvs, (), h20, l, ⟨hm, hl, h9, hal⟩, (), hmod ▸ hswz ▸ hwf, hmod ▸ hswz ▸ rfl⟩

/-! ### Destinations -/

theorem dst_align1_iff {b : BitVec 16} {mode : BitVec 1} {hs : BitVec 2} {loc : BitVec 13} :
    b = mode ++ hs ++ loc ↔ b.extractLsb' 15 1 = mode ∧ b.extractLsb' 13 2 = hs ∧ b.extractLsb' 0 13 = loc := by
  rw [eq_iff_agree (x := b) [(0, 13), (13, 2), (15, 1)] rfl]
  simp (disch := decide) only [Agree, and_true, extractLsb'_append_eq_of_add_le, extractLsb'_append_eq_of_le,
    Nat.reduceSub, extractLsb'_eq_self]
  tauto

theorem dst_align16_iff {b : BitVec 16} {mode : BitVec 1} {loc : BitVec 9} {en : BitVec 4} :
    b = mode ++ 0#2 ++ loc ++ en ↔
      b.extractLsb' 15 1 = mode ∧ b.extractLsb' 13 2 = 0#2 ∧ b.extractLsb' 4 9 = loc ∧ b.extractLsb' 0 4 = en := by
  rw [eq_iff_agree (x := b) [(0, 4), (4, 9), (13, 2), (15, 1)] rfl]
  simp (disch := decide) only [Agree, and_true, extractLsb'_append_eq_of_add_le, extractLsb'_append_eq_of_le,
    Nat.reduceSub, extractLsb'_eq_self]
  tauto

/-- A destination from its bits (R58, R59). -/
theorem decodeDst_iff {a : AccessMode} {file : RegFile} {ty : RType} {b : BitVec 16} {bit9 : BitVec 1} {d : DstOp} :
    decodeDst a file ty b bit9 = .ok d ↔
      d.file = file ∧ d.ty = ty ∧ d.wf a = true ∧ b = encodeDst16 d ∧ bit9 = d.loc.bit9 := by
  cases a with
  | align1 =>
    simp only [decodeDst, bind_eq_ok, listed_eq_ok, demand_eq_ok, pure_eq_ok, HStride.ofCode_iff, decodeLoc13_iff, extract_bit]
    constructor
    · rintro ⟨hs, hhs, l, ⟨hm, hl, h9⟩, _, hwf, rfl⟩
      exact ⟨rfl, rfl, hwf, dst_align1_iff.2 ⟨hm, hhs, hl⟩, h9⟩
    · obtain ⟨f, y, l, r⟩ := d
      rintro ⟨rfl, rfl, hwf, hb, h9⟩
      cases r with
      | align16 en => simp [DstOp.wf] at hwf
      | align1 hs =>
        obtain ⟨hm, hhs, hl⟩ := dst_align1_iff.1 hb
        exact ⟨hs, hhs, l, ⟨hm, hl, h9⟩, (), hwf, rfl⟩
  | align16 =>
    simp only [decodeDst, bind_eq_ok, demand_eq_ok, pure_eq_ok, decodeLoc9_iff, beq_iff_eq, extract_bit]
    constructor
    · rintro ⟨_, h13, l, ⟨hm, hl, h9, _⟩, _, hwf, rfl⟩
      exact ⟨rfl, rfl, hwf, dst_align16_iff.2 ⟨hm, h13, hl, rfl⟩, h9⟩
    · obtain ⟨f, y, l, r⟩ := d
      rintro ⟨rfl, rfl, hwf, hb, h9⟩
      cases r with
      | align1 hs => simp [DstOp.wf] at hwf
      | align16 en =>
        obtain ⟨hm, h13, hl, rfl⟩ := dst_align16_iff.1 hb
        have hal : l.aligned16 = true := by
          simp only [DstOp.wf, Bool.and_eq_true] at hwf
          exact hwf.2
        exact ⟨(), h13, l, ⟨hm, hl, h9, hal⟩, (), hwf, rfl⟩

/-! ### Three-source operands -/

theorem tri_bits_iff {b : BitVec 21} {sub : BitVec 4} {reg swz : BitVec 8} {rep : BitVec 1} :
    b = sub.extractLsb' 0 1 ++ reg ++ sub.extractLsb' 1 3 ++ swz ++ rep ↔
      b.extractLsb' 12 8 = reg ∧ b.extractLsb' 9 3 ++ b.extractLsb' 20 1 = sub ∧ b.extractLsb' 1 8 = swz ∧
        b.extractLsb' 0 1 = rep := by
  rw [eq_iff_agree (x := b) [(0, 1), (1, 8), (9, 3), (12, 8), (20, 1)] rfl,
    eq_iff_agree (x := b.extractLsb' 9 3 ++ b.extractLsb' 20 1) (y := sub) [(0, 1), (1, 3)] rfl]
  simp (disch := decide) only [Agree, and_true, extractLsb'_append_eq_of_add_le, extractLsb'_append_eq_of_le,
    Nat.reduceSub, extractLsb'_eq_self]
  tauto

/-- A three-source operand from its bits (R63). -/
theorem decodeTri_iff {b : BitVec 21} {mod : SrcMod} {t : TriOp} :
    decodeTri b mod = .ok t ↔ t.wf = true ∧ t.mod = mod ∧ b = encodeTri t := by
  simp only [decodeTri, bind_eq_ok, demand_eq_ok, pure_eq_ok]
  constructor
  · rintro ⟨_, hwf, rfl⟩
    exact ⟨hwf, rfl, tri_bits_iff.2 ⟨rfl, rfl, rfl, extract_one.2 rfl⟩⟩
  · obtain ⟨reg, sub, swz, rep, m⟩ := t
    rintro ⟨hwf, rfl, hb⟩
    obtain ⟨rfl, rfl, rfl, hr⟩ := tri_bits_iff.1 hb
    have hr := extract_one.1 hr
    exact ⟨(), hwf, hr ▸ rfl⟩

/-! ### Controls -/

/-- The fields of the first DWord (R44, R45, R46, R52). -/
theorem header_iff {h : BitVec 32} {op : BitVec 7} {x : BitVec 4} {c : Ctl} :
    h = encodeHeader op x c ↔ (h.extractLsb' 0 7 = op ∧ h.extractLsb' 24 4 = x ∧ h.extractLsb' 29 1 = 0#1) ∧
      h.extractLsb' 7 1 = 0#1 ∧ h.extractLsb' 8 1 = c.access.code ∧ h.extractLsb' 9 1 = BitVec.ofBool c.noDDClr ∧
      h.extractLsb' 10 1 = BitVec.ofBool c.noDDChk ∧ h.extractLsb' 11 1 = BitVec.ofBool c.nib ∧
      h.extractLsb' 12 2 = c.qtr ∧ h.extractLsb' 14 2 = c.thread.code ∧ h.extractLsb' 16 4 = c.pred.code c.access ∧
      h.extractLsb' 20 1 = BitVec.ofBool c.predInv ∧ h.extractLsb' 21 3 = c.exec.code ∧
      h.extractLsb' 28 1 = BitVec.ofBool c.accWr ∧ h.extractLsb' 30 1 = BitVec.ofBool c.debug ∧
      h.extractLsb' 31 1 = BitVec.ofBool c.sat := by
  rw [eq_iff_agree (x := h) [(0, 7), (7, 1), (8, 1), (9, 1), (10, 1), (11, 1), (12, 2), (14, 2), (16, 4), (20, 1), (21, 3),
    (24, 4), (28, 1), (29, 1), (30, 1), (31, 1)] rfl]
  unfold encodeHeader
  simp (disch := decide) only [Agree, and_true, extractLsb'_append_eq_of_add_le, extractLsb'_append_eq_of_le,
    Nat.reduceSub, extractLsb'_eq_self]
  tauto

theorem maskFlag_iff {b : BitVec 3} {c : Ctl} : b = encodeMaskFlag c ↔
    b.extractLsb' 0 1 = BitVec.ofBool c.flagSub ∧ b.extractLsb' 1 1 = BitVec.ofBool c.flagReg ∧
      b.extractLsb' 2 1 = BitVec.ofBool c.noMask := by
  rw [eq_iff_agree (x := b) [(0, 1), (1, 1), (2, 1)] rfl]
  unfold encodeMaskFlag
  simp (disch := decide) only [Agree, and_true, extractLsb'_append_eq_of_add_le, extractLsb'_append_eq_of_le,
    Nat.reduceSub, extractLsb'_eq_self]

/-- The controls from a native word's first two DWords (R44 to R57). -/
theorem decodeCtl_iff {h oc : BitVec 32} {c : Ctl} (h29 : h.extractLsb' 29 1 = 0#1) :
    decodeCtl h oc = .ok c ↔ c.wf = true ∧ oc.extractLsb' 0 3 = encodeMaskFlag c ∧
      h = encodeHeader (h.extractLsb' 0 7) (h.extractLsb' 24 4) c := by
  rw [header_iff, maskFlag_iff]
  simp (disch := decide) only [extractLsb'_extractLsb', Nat.reduceAdd, h29, true_and]
  simp only [decodeCtl, bind_eq_ok, listed_eq_ok, demand_eq_ok, pure_eq_ok, AccessMode.ofCode_iff, ThreadCtrl.ofCode_iff,
    PredCtrl.ofCode_iff, ExecSize.ofCode_iff, Bool.not_eq_true', ← extract_one_eq_zero, Ctl.wf, Bool.and_eq_true]
  constructor
  · rintro ⟨_, h7, a, ha, t, ht, p, ⟨hp, hpw⟩, z, hz, rfl⟩
    exact ⟨⟨rfl, hpw⟩, ⟨extract_one.2 rfl, extract_one.2 rfl, extract_one.2 rfl⟩, h7, ha, extract_one.2 rfl, extract_one.2 rfl,
      extract_one.2 rfl, rfl, ht, hp, extract_one.2 rfl, hz, extract_one.2 rfl, extract_one.2 rfl, extract_one.2 rfl⟩
  · obtain ⟨a, ddClr, ddChk, nib, qtr, t, p, pi, z, aw, cm, db, sat, fs, fr, nm⟩ := c
    rintro ⟨⟨hc, hpw⟩, ⟨hfs, hfr, hnm⟩, h7, ha, hclr, hchk, hnib, rfl, ht, hp, hpi, hz, haw, hdb, hsat⟩
    refine ⟨(), h7, a, ha, t, ht, p, ⟨hp, hpw⟩, z, hz, ?_⟩
    simp only [extract_one] at *
    simp only [hclr, hchk, hnib, hpi, haw, hdb, hsat, hfs, hfr, hnm, Ctl.mk.injEq, true_and, and_true]
    simpa using hc.symm

/-- The fields of the second DWord (R56). -/
theorem operandControls_iff {oc : BitVec 32} {c : Ctl} {d : DstOp} {ty0 : BitVec 4} {file0 : BitVec 2} :
    oc = encodeOperandControls c d ty0 file0 ↔ oc.extractLsb' 0 3 = encodeMaskFlag c ∧
      (oc.extractLsb' 3 2 = d.file.code ∧ oc.extractLsb' 5 4 = d.ty.code ∧ oc.extractLsb' 16 16 = encodeDst16 d ∧
        oc.extractLsb' 15 1 = d.loc.bit9) ∧ oc.extractLsb' 9 2 = file0 ∧ oc.extractLsb' 11 4 = ty0 := by
  rw [eq_iff_agree (x := oc) [(0, 3), (3, 2), (5, 4), (9, 2), (11, 4), (15, 1), (16, 16)] rfl]
  unfold encodeOperandControls
  simp (disch := decide) only [Agree, and_true, extractLsb'_append_eq_of_add_le, extractLsb'_append_eq_of_le,
    Nat.reduceSub, extractLsb'_eq_self]
  tauto

/-- The destination of the operand controls (R56). -/
theorem decodeOcDst_iff {a : AccessMode} {oc : BitVec 32} {d : DstOp} :
    decodeOcDst a oc = .ok d ↔ d.wf a = true ∧ oc.extractLsb' 3 2 = d.file.code ∧ oc.extractLsb' 5 4 = d.ty.code ∧
      oc.extractLsb' 16 16 = encodeDst16 d ∧ oc.extractLsb' 15 1 = d.loc.bit9 := by
  simp only [decodeOcDst, bind_eq_ok, listed_eq_ok, regFileOf_iff, RType.ofCode_iff, decodeDst_iff]
  constructor
  · rintro ⟨_, hf, _, ht, rfl, rfl, hwf, hb, h9⟩
    exact ⟨hwf, hf, ht, hb, h9⟩
  · rintro ⟨hwf, hf, ht, hb, h9⟩
    exact ⟨_, hf, _, ht, rfl, rfl, hwf, hb, h9⟩

theorem decodeTag0_iff {oc : BitVec 32} {t : Tag} :
    decodeTag0 oc = .ok t ↔ oc.extractLsb' 9 2 = t.fileCode ∧ oc.extractLsb' 11 4 = t.typeCode := by
  simp only [decodeTag0, listed_eq_ok, Tag.ofCodes_iff]

/-- The register source 0 of the two-source containers (R66, R67). -/
theorem decodeSrc0_iff {a : AccessMode} {hi : BitVec 64} {oc : BitVec 32} {s : SrcOp} :
    decodeSrc0 a hi oc = .ok s ↔ s.wf a = true ∧ (oc.extractLsb' 9 2 = s.file.code ∧ oc.extractLsb' 11 4 = s.ty.code) ∧
      hi.extractLsb' 0 25 = encodeSrc s ∧ hi.extractLsb' 31 1 = s.loc.bit9 := by
  simp only [decodeSrc0, bind_eq_ok, decodeTag0_iff]
  constructor
  · rintro ⟨t, ⟨hf, ht⟩, h⟩
    cases t with
    | imm y => cases h
    | reg f y =>
      obtain ⟨rfl, rfl, hwf, hb, h9⟩ := decodeSrc_iff.1 h
      exact ⟨hwf, ⟨hf, ht⟩, hb, h9⟩
  · rintro ⟨hwf, ht, hb, h9⟩
    exact ⟨.reg s.file s.ty, ht, decodeSrc_iff.2 ⟨rfl, rfl, hwf, hb, h9⟩⟩

end Sys2Proof.Proofs.Fields
end

section
/-! PROOF SUPPORT. The forms of the native words (R81 to R92): a form is decoded exactly when it is well-formed and the word is its
encoding. -/

namespace Sys2Proof.Proofs.Forms

open Sys2Proof.Proofs.Fields
open BitVec (extractLsb'_append_eq_of_add_le extractLsb'_append_eq_of_le extractLsb'_eq_self)

/-! ### The three parts of a word -/

theorem assemble_iff {w : BitVec 128} {hi : BitVec 64} {oc h : BitVec 32} :
    w = assemble hi oc h ↔ w.extractLsb' 64 64 = hi ∧ w.extractLsb' 32 32 = oc ∧ w.extractLsb' 0 32 = h := by
  rw [eq_iff_agree (x := w) [(0, 32), (32, 32), (64, 64)] rfl]
  unfold assemble
  simp (disch := decide) only [Agree, and_true, extractLsb'_append_eq_of_add_le, extractLsb'_append_eq_of_le,
    Nat.reduceSub, extractLsb'_eq_self]
  tauto

theorem assemble_inj {hi hi' : BitVec 64} {oc oc' h h' : BitVec 32} :
    assemble hi oc h = assemble hi' oc' h' ↔ hi = hi' ∧ oc = oc' ∧ h = h' := by
  rw [assemble_iff]
  unfold assemble
  simp (disch := decide) only [extractLsb'_append_eq_of_add_le, extractLsb'_append_eq_of_le, Nat.reduceSub,
    extractLsb'_eq_self]

/-- A header that decodes is the encoding of its controls, with the value of its field 27:24. -/
theorem header_of_field {h : BitVec 32} {c : Ctl} {x : BitVec 4} (hx : h.extractLsb' 24 4 = x)
    (e : h = encodeHeader (h.extractLsb' 0 7) (h.extractLsb' 24 4) c) : h = encodeHeader (h.extractLsb' 0 7) x c := hx ▸ e

theorem field_of_header {h : BitVec 32} {c : Ctl} {x : BitVec 4} {op : BitVec 7} (e : h = encodeHeader op x c) :
    h.extractLsb' 24 4 = x ∧ h = encodeHeader (h.extractLsb' 0 7) (h.extractLsb' 24 4) c := by
  obtain ⟨h0, h24, _⟩ := (header_iff.1 e).1
  refine ⟨h24, ?_⟩
  rw [h0, h24]
  exact e

theorem bit9_eq_zero_iff {l : Loc} : 0#1 = l.bit9 ↔ l.noBit9 = true := by
  cases l with
  | direct reg sub => simp [Loc.bit9, Loc.noBit9]
  | indirect a imm =>
    simp only [Loc.bit9, Loc.noBit9, Bool.not_eq_true', ← extract_one_eq_zero]
    exact eq_comm

/-! ### One source -/

theorem one_reg_iff {hi : BitVec 64} {b : BitVec 25} :
    hi = 0#39 ++ b ↔ hi.extractLsb' 25 39 = 0#39 ∧ hi.extractLsb' 0 25 = b := by
  rw [eq_iff_agree (x := hi) [(0, 25), (25, 39)] rfl]
  simp (disch := decide) only [Agree, and_true, extractLsb'_append_eq_of_add_le, extractLsb'_append_eq_of_le,
    Nat.reduceSub, extractLsb'_eq_self]
  exact and_comm

theorem one_imm_iff {hi : BitVec 64} {v : BitVec 32} :
    hi = v ++ 0#32 ↔ hi.extractLsb' 25 7 = 0#7 ∧ hi.extractLsb' 0 25 = 0#25 ∧ hi.extractLsb' 32 32 = v := by
  rw [eq_iff_agree (x := hi) [(0, 25), (25, 7), (32, 32)] rfl]
  simp (disch := decide) only [Agree, and_true, extractLsb'_append_eq_of_add_le, extractLsb'_append_eq_of_le,
    Nat.reduceSub, extractLsb'_eq_self]
  rw [show (0#32).extractLsb' 0 25 = 0#25 by decide, show (0#32).extractLsb' 25 7 = 0#7 by decide]
  tauto

theorem decodeOne_iff {hi : BitVec 64} {oc h : BitVec 32} {o : OneSrc} (h29 : h.extractLsb' 29 1 = 0#1) :
    decodeOne hi oc h = .ok o ↔ o.wf = true ∧ assemble hi oc h = encodeOne (h.extractLsb' 0 7) o := by
  simp only [decodeOne, bind_eq_ok, listed_eq_ok, decodeCtl_iff h29, CondMod.ofCode_iff, decodeOcDst_iff, decodeTag0_iff]
  constructor
  · rintro ⟨c, ⟨hc, hmf, hh⟩, m, hm, d, ⟨hdw, hd⟩, t, ht, e⟩
    have hh := header_of_field hm hh
    cases t with
    | reg f y =>
      simp only [bind_eq_ok, demand_eq_ok, pure_eq_ok, beq_iff_eq, decodeSrc_iff] at e
      obtain ⟨_, h25, s, ⟨rfl, rfl, hs, hb, h9⟩, rfl⟩ := e
      exact ⟨by simp [OneSrc.wf, hc, hdw, hs, bit9_eq_zero_iff.1 h9],
        assemble_inj.2 ⟨one_reg_iff.2 ⟨h25, hb⟩, operandControls_iff.2 ⟨hmf, hd, ht⟩, hh⟩⟩
    | imm y =>
      simp only [bind_eq_ok, demand_eq_ok, pure_eq_ok, beq_iff_eq] at e
      obtain ⟨_, h25, _, h0, rfl⟩ := e
      exact ⟨by simp [OneSrc.wf, hc, hdw],
        assemble_inj.2 ⟨one_imm_iff.2 ⟨h25, h0, rfl⟩, operandControls_iff.2 ⟨hmf, hd, ht⟩, hh⟩⟩
  · obtain ⟨c, m, d, s⟩ := o
    rintro ⟨hwf, e⟩
    cases s with
    | reg s =>
      simp only [OneSrc.wf, Bool.and_eq_true] at hwf
      obtain ⟨⟨hc, hdw⟩, hs, h9⟩ := hwf
      obtain ⟨e1, e2, e3⟩ := assemble_inj.1 e
      obtain ⟨hmf, hd, ht⟩ := operandControls_iff.1 e2
      obtain ⟨h25, hb⟩ := one_reg_iff.1 e1
      obtain ⟨hm, hh⟩ := field_of_header e3
      refine ⟨c, ⟨hc, hmf, hh⟩, m, hm, d, ⟨hdw, hd⟩, .reg s.file s.ty, ht, ?_⟩
      simp only [bind_eq_ok, demand_eq_ok, pure_eq_ok, beq_iff_eq, decodeSrc_iff]
      exact ⟨(), h25, s, ⟨rfl, rfl, hs, hb, bit9_eq_zero_iff.2 h9⟩, rfl⟩
    | imm y v =>
      simp only [OneSrc.wf, Bool.and_eq_true] at hwf
      obtain ⟨⟨hc, hdw⟩, _⟩ := hwf
      obtain ⟨e1, e2, e3⟩ := assemble_inj.1 e
      obtain ⟨hmf, hd, ht⟩ := operandControls_iff.1 e2
      obtain ⟨h25, h0, hv⟩ := one_imm_iff.1 e1
      obtain ⟨hm, hh⟩ := field_of_header e3
      refine ⟨c, ⟨hc, hmf, hh⟩, m, hm, d, ⟨hdw, hd⟩, .imm y, ht, ?_⟩
      simp only [bind_eq_ok, demand_eq_ok, pure_eq_ok, beq_iff_eq]
      exact ⟨(), h25, (), h0, hv ▸ rfl⟩

/-! ### Two sources -/

/-- The fields of the container of two registers (R67). -/
theorem regReg_iff {hi : BitVec 64} {s0 s1 : SrcOp} :
    hi = encodeRegReg s0 s1 ↔ (hi.extractLsb' 0 25 = encodeSrc s0 ∧ hi.extractLsb' 31 1 = s0.loc.bit9) ∧
      (hi.extractLsb' 25 2 = s1.file.code ∧ hi.extractLsb' 27 4 = s1.ty.code) ∧ hi.extractLsb' 58 6 = 0#6 ∧
      hi.extractLsb' 32 25 = encodeSrc s1 ∧ hi.extractLsb' 57 1 = s1.loc.bit9 := by
  rw [eq_iff_agree (x := hi) [(0, 25), (25, 2), (27, 4), (31, 1), (32, 25), (57, 1), (58, 6)] rfl]
  unfold encodeRegReg
  simp (disch := decide) only [Agree, and_true, extractLsb'_append_eq_of_add_le, extractLsb'_append_eq_of_le,
    Nat.reduceSub, extractLsb'_eq_self]
  tauto

/-- The fields of the container of a register and an immediate (R66). -/
theorem regImm_iff {hi : BitVec 64} {s0 : SrcOp} {v : BitVec 32} {ty : BitVec 4} {file : BitVec 2} :
    hi = v ++ s0.loc.bit9 ++ ty ++ file ++ encodeSrc s0 ↔
      (hi.extractLsb' 0 25 = encodeSrc s0 ∧ hi.extractLsb' 31 1 = s0.loc.bit9) ∧
      (hi.extractLsb' 25 2 = file ∧ hi.extractLsb' 27 4 = ty) ∧ hi.extractLsb' 32 32 = v := by
  rw [eq_iff_agree (x := hi) [(0, 25), (25, 2), (27, 4), (31, 1), (32, 32)] rfl]
  simp (disch := decide) only [Agree, and_true, extractLsb'_append_eq_of_add_le, extractLsb'_append_eq_of_le,
    Nat.reduceSub, extractLsb'_eq_self]
  tauto

theorem decodeTwo_iff {hi : BitVec 64} {oc h : BitVec 32} {o : TwoSrc} (h29 : h.extractLsb' 29 1 = 0#1) :
    decodeTwo hi oc h = .ok o ↔ o.wf = true ∧ assemble hi oc h = encodeTwo (h.extractLsb' 0 7) o := by
  simp only [decodeTwo, bind_eq_ok, listed_eq_ok, decodeCtl_iff h29, CondMod.ofCode_iff, decodeOcDst_iff, decodeSrc0_iff,
    Tag.ofCodes_iff]
  constructor
  · rintro ⟨c, ⟨hc, hmf, hh⟩, m, hm, d, ⟨hdw, hd⟩, s0, ⟨hs0, ht0, hb0⟩, t, ht, e⟩
    have hh := header_of_field hm hh
    cases t with
    | reg f y =>
      simp only [bind_eq_ok, demand_eq_ok, pure_eq_ok, beq_iff_eq, decodeSrc_iff] at e
      obtain ⟨_, h58, s, ⟨rfl, rfl, hs, hb⟩, rfl⟩ := e
      exact ⟨by simp [TwoSrc.wf, hc, hdw, hs0, hs],
        assemble_inj.2 ⟨regReg_iff.2 ⟨hb0, ht, h58, hb⟩, operandControls_iff.2 ⟨hmf, hd, ht0⟩, hh⟩⟩
    | imm y =>
      obtain rfl := pure_eq_ok.1 e
      exact ⟨by simp [TwoSrc.wf, hc, hdw, hs0],
        assemble_inj.2 ⟨regImm_iff.2 ⟨hb0, ht, rfl⟩, operandControls_iff.2 ⟨hmf, hd, ht0⟩, hh⟩⟩
  · obtain ⟨c, m, d, s0, s⟩ := o
    rintro ⟨hwf, e⟩
    cases s with
    | reg s =>
      simp only [TwoSrc.wf, Bool.and_eq_true] at hwf
      obtain ⟨⟨⟨hc, hdw⟩, hs0⟩, hs⟩ := hwf
      obtain ⟨e1, e2, e3⟩ := assemble_inj.1 e
      obtain ⟨hmf, hd, ht0⟩ := operandControls_iff.1 e2
      obtain ⟨hb0, ht, h58, hb⟩ := regReg_iff.1 e1
      obtain ⟨hm, hh⟩ := field_of_header e3
      refine ⟨c, ⟨hc, hmf, hh⟩, m, hm, d, ⟨hdw, hd⟩, s0, ⟨hs0, ht0, hb0⟩, .reg s.file s.ty, ht, ?_⟩
      simp only [bind_eq_ok, demand_eq_ok, pure_eq_ok, beq_iff_eq, decodeSrc_iff]
      exact ⟨(), h58, s, ⟨rfl, rfl, hs, hb⟩, rfl⟩
    | imm y v =>
      simp only [TwoSrc.wf, Bool.and_eq_true] at hwf
      obtain ⟨⟨⟨hc, hdw⟩, hs0⟩, _⟩ := hwf
      obtain ⟨e1, e2, e3⟩ := assemble_inj.1 e
      obtain ⟨hmf, hd, ht0⟩ := operandControls_iff.1 e2
      obtain ⟨hb0, ht, hv⟩ := regImm_iff.1 e1
      obtain ⟨hm, hh⟩ := field_of_header e3
      exact ⟨c, ⟨hc, hmf, hh⟩, m, hm, d, ⟨hdw, hd⟩, s0, ⟨hs0, ht0, hb0⟩, .imm y, ht, hv ▸ rfl⟩

/-! ### Three sources -/

theorem tri_container_iff {hi : BitVec 64} {t0 t1 t2 : BitVec 21} :
    hi = 0#1 ++ t2 ++ t1 ++ t0 ↔ hi.extractLsb' 63 1 = 0#1 ∧ hi.extractLsb' 0 21 = t0 ∧ hi.extractLsb' 21 21 = t1 ∧
      hi.extractLsb' 42 21 = t2 := by
  rw [eq_iff_agree (x := hi) [(0, 21), (21, 21), (42, 21), (63, 1)] rfl]
  simp (disch := decide) only [Agree, and_true, extractLsb'_append_eq_of_add_le, extractLsb'_append_eq_of_le,
    Nat.reduceSub, extractLsb'_eq_self]
  tauto

/-- The second DWord of a three-source word (R83). -/
theorem tri_controls_iff {oc : BitVec 32} {o : ThreeSrc} :
    oc = o.dstReg ++ o.dstSub ++ o.chanEn ++ o.dstTy.code ++ o.srcTy.code ++ o.s2.mod.code ++ o.s1.mod.code ++
      o.s0.mod.code ++ BitVec.ofBool o.half1 ++ BitVec.ofBool o.half2 ++ encodeMaskFlag o.ctl ↔
    oc.extractLsb' 0 3 = encodeMaskFlag o.ctl ∧ oc.extractLsb' 3 1 = BitVec.ofBool o.half2 ∧
      oc.extractLsb' 4 1 = BitVec.ofBool o.half1 ∧ oc.extractLsb' 5 2 = o.s0.mod.code ∧ oc.extractLsb' 7 2 = o.s1.mod.code ∧
      oc.extractLsb' 9 2 = o.s2.mod.code ∧ oc.extractLsb' 11 3 = o.srcTy.code ∧ oc.extractLsb' 14 3 = o.dstTy.code ∧
      oc.extractLsb' 17 4 = o.chanEn ∧ oc.extractLsb' 21 3 = o.dstSub ∧ oc.extractLsb' 24 8 = o.dstReg := by
  rw [eq_iff_agree (x := oc) [(0, 3), (3, 1), (4, 1), (5, 2), (7, 2), (9, 2), (11, 3), (14, 3), (17, 4), (21, 3),
    (24, 8)] rfl]
  simp (disch := decide) only [Agree, and_true, extractLsb'_append_eq_of_add_le, extractLsb'_append_eq_of_le,
    Nat.reduceSub, extractLsb'_eq_self]

theorem decodeThree_iff {hi : BitVec 64} {oc h : BitVec 32} {o : ThreeSrc} (h29 : h.extractLsb' 29 1 = 0#1) :
    decodeThree hi oc h = .ok o ↔ o.wf = true ∧ assemble hi oc h = encodeThree (h.extractLsb' 0 7) o := by
  simp only [decodeThree, bind_eq_ok, listed_eq_ok, demand_eq_ok, pure_eq_ok, decodeCtl_iff h29, CondMod.ofCode_iff,
    TType.ofCode_iff, decodeTri_iff, Bool.not_eq_true', ← extract_one_eq_zero]
  constructor
  · rintro ⟨c, ⟨hc, hmf, hh⟩, m, hm, _, h63, dt, hdt, st, hst, s0, ⟨w0, m0, b0⟩, s1, ⟨w1, m1, b1⟩, s2, ⟨w2, m2, b2⟩, _, hr, rfl⟩
    refine ⟨by simp [ThreeSrc.wf, hc, hr, w0, w1, w2], assemble_inj.2 ⟨tri_container_iff.2 ⟨h63, b0, b1, b2⟩, ?_,
      header_of_field hm hh⟩⟩
    exact tri_controls_iff.2 ⟨hmf, extract_one.2 rfl, extract_one.2 rfl, SrcMod.ofCode_iff.1 m0.symm,
      SrcMod.ofCode_iff.1 m1.symm, SrcMod.ofCode_iff.1 m2.symm, hst, hdt, rfl, rfl, rfl⟩
  · rintro ⟨hwf, e⟩
    obtain ⟨e1, e2, e3⟩ := assemble_inj.1 e
    obtain ⟨c, m, dr, ds, ce, dt, st, h1, h2, s0, s1, s2⟩ := o
    simp only [ThreeSrc.wf, Bool.and_eq_true] at hwf
    obtain ⟨⟨⟨⟨hc, hr⟩, w0⟩, w1⟩, w2⟩ := hwf
    obtain ⟨h63, b0, b1, b2⟩ := tri_container_iff.1 e1
    obtain ⟨hmf, hh2, hh1, m0, m1, m2, hst, hdt, hce, hds, hdr⟩ := tri_controls_iff.1 e2
    obtain ⟨hm, hh⟩ := field_of_header e3
    dsimp only at *
    refine ⟨c, ⟨hc, hmf, hh⟩, m, hm, (), h63, dt, hdt, st, hst, s0, ⟨w0, (SrcMod.ofCode_iff.2 m0).symm, b0⟩, s1,
      ⟨w1, (SrcMod.ofCode_iff.2 m1).symm, b1⟩, s2, ⟨w2, (SrcMod.ofCode_iff.2 m2).symm, b2⟩, (), hdr ▸ hr, ?_⟩
    rw [hdr, hds, hce, extract_one.1 hh1, extract_one.1 hh2]

/-! ### Branches -/

theorem decodeBranchOne_iff {hi : BitVec 64} {oc h : BitVec 32} {op : BitVec 7} {o : BranchOne}
    (h29 : h.extractLsb' 29 1 = 0#1) :
    decodeBranchOne op hi oc h = .ok o ↔ o.wf op = true ∧ assemble hi oc h = encodeBranchOne (h.extractLsb' 0 7) o := by
  simp only [decodeBranchOne, bind_eq_ok, listed_eq_ok, demand_eq_ok, decodeCtl_iff h29, decodeOcDst_iff, decodeSrc0_iff,
    Tag.ofCodes_iff, Bool.not_eq_true', beq_iff_eq]
  constructor
  · rintro ⟨c, ⟨hc, hmf, hh⟩, _, hsat, _, hm, d, ⟨hdw, hd⟩, s0, ⟨hs0, ht0, hb0⟩, t, ht, e⟩
    have hh := header_of_field hm hh
    split at e
    · rename_i y hop
      simp only [bind_eq_ok, demand_eq_ok, pure_eq_ok, beq_iff_eq, decodeSrc_iff] at e
      obtain ⟨_, h58, s, ⟨hf, rfl, hs, hb⟩, rfl⟩ := e
      exact ⟨by simp [BranchOne.wf, hc, hsat, hdw, hs0, hs, hf, hop],
        assemble_inj.2 ⟨regReg_iff.2 ⟨hb0, hf ▸ ht, h58, hb⟩, operandControls_iff.2 ⟨hmf, hd, ht0⟩, hh⟩⟩
    · rename_i hne
      obtain rfl := pure_eq_ok.1 e
      refine ⟨?_, assemble_inj.2 ⟨regImm_iff.2 ⟨hb0, ht, rfl⟩, operandControls_iff.2 ⟨hmf, hd, ht0⟩, hh⟩⟩
      simp only [BranchOne.wf, hc, hsat, hdw, hs0, Bool.not_false, Bool.and_self, Bool.true_and]
      split
      · rename_i y _
        simpa [bne] using hne y
      · rfl
      · contradiction
  · obtain ⟨c, d, s0, t, off⟩ := o
    rintro ⟨hwf, e⟩
    simp only [BranchOne.wf, Bool.and_eq_true, Bool.not_eq_true'] at hwf
    obtain ⟨⟨⟨⟨hc, hsat⟩, hdw⟩, hs0⟩, hoff⟩ := hwf
    cases off with
    | jip v =>
      obtain ⟨e1, e2, e3⟩ := assemble_inj.1 e
      obtain ⟨hmf, hd, ht0⟩ := operandControls_iff.1 e2
      obtain ⟨hb0, ht, hv⟩ := regImm_iff.1 e1
      obtain ⟨hm, hh⟩ := field_of_header e3
      refine ⟨c, ⟨hc, hmf, hh⟩, (), hsat, (), hm, d, ⟨hdw, hd⟩, s0, ⟨hs0, ht0, hb0⟩, t, ht, ?_⟩
      split
      · rename_i y hop
        simp only [bne, hop, Bool.not_true, Bool.false_eq_true] at hoff
      · exact hv ▸ rfl
    | reg s =>
      simp only [Bool.and_eq_true, beq_iff_eq] at hoff
      obtain ⟨⟨⟨rfl, hf⟩, rfl⟩, hs⟩ := hoff
      obtain ⟨e1, e2, e3⟩ := assemble_inj.1 e
      obtain ⟨hmf, hd, ht0⟩ := operandControls_iff.1 e2
      obtain ⟨hb0, ht, h58, hb⟩ := regReg_iff.1 e1
      obtain ⟨hm, hh⟩ := field_of_header e3
      refine ⟨c, ⟨hc, hmf, hh⟩, (), hsat, (), hm, d, ⟨hdw, hd⟩, s0, ⟨hs0, ht0, hb0⟩, .reg .grf s.ty, hf ▸ ht, ?_⟩
      simp only [BEq.rfl, bind_eq_ok, demand_eq_ok, pure_eq_ok, beq_iff_eq, decodeSrc_iff]
      exact ⟨(), h58, s, ⟨hf, rfl, hs, hb⟩, rfl⟩

theorem offsets_iff {hi : BitVec 64} {jip uip : BitVec 32} :
    hi = jip ++ uip ↔ hi.extractLsb' 32 32 = jip ∧ hi.extractLsb' 0 32 = uip := by
  rw [eq_iff_agree (x := hi) [(0, 32), (32, 32)] rfl]
  simp (disch := decide) only [Agree, and_true, extractLsb'_append_eq_of_add_le, extractLsb'_append_eq_of_le,
    Nat.reduceSub, extractLsb'_eq_self]
  exact and_comm

theorem decodeBranchTwo_iff {hi : BitVec 64} {oc h : BitVec 32} {o : BranchTwo} (h29 : h.extractLsb' 29 1 = 0#1) :
    decodeBranchTwo hi oc h = .ok o ↔ o.wf = true ∧ assemble hi oc h = encodeBranchTwo (h.extractLsb' 0 7) o := by
  simp only [decodeBranchTwo, bind_eq_ok, demand_eq_ok, pure_eq_ok, decodeCtl_iff h29, decodeOcDst_iff, decodeTag0_iff,
    Bool.not_eq_true', beq_iff_eq]
  constructor
  · rintro ⟨c, ⟨hc, hmf, hh⟩, _, hsat, _, hm, d, ⟨hdw, hd⟩, t, ht, rfl⟩
    exact ⟨by simp [BranchTwo.wf, hc, hsat, hdw],
      assemble_inj.2 ⟨offsets_iff.2 ⟨rfl, rfl⟩, operandControls_iff.2 ⟨hmf, hd, ht⟩, header_of_field hm hh⟩⟩
  · obtain ⟨c, d, t, jip, uip⟩ := o
    rintro ⟨hwf, e⟩
    simp only [BranchTwo.wf, Bool.and_eq_true, Bool.not_eq_true'] at hwf
    obtain ⟨⟨hc, hsat⟩, hdw⟩ := hwf
    obtain ⟨e1, e2, e3⟩ := assemble_inj.1 e
    obtain ⟨hmf, hd, ht⟩ := operandControls_iff.1 e2
    obtain ⟨rfl, rfl⟩ := offsets_iff.1 e1
    obtain ⟨hm, hh⟩ := field_of_header e3
    exact ⟨c, ⟨hc, hmf, hh⟩, (), hsat, (), hm, d, ⟨hdw, hd⟩, t, ht, rfl⟩

/-! ### Math -/

theorem decodeMath_iff {hi : BitVec 64} {oc h : BitVec 32} {o : MathOp} (h29 : h.extractLsb' 29 1 = 0#1) :
    decodeMath hi oc h = .ok o ↔ o.wf = true ∧ assemble hi oc h = assemble (encodeRegReg o.src0 o.src1)
      (encodeOperandControls o.ctl o.dst o.src0.ty.code o.src0.file.code)
      (encodeHeader (h.extractLsb' 0 7) (h.extractLsb' 24 4) o.ctl) := by
  simp only [decodeMath, bind_eq_ok, listed_eq_ok, decodeCtl_iff h29, decodeOcDst_iff, decodeSrc0_iff, Tag.ofCodes_iff,
    assemble_inj]
  constructor
  · rintro ⟨c, ⟨hc, hmf, hh⟩, d, ⟨hdw, hd⟩, s0, ⟨hs0, ht0, hb0⟩, t, ht, e⟩
    cases t with
    | imm y => cases e
    | reg f y =>
      simp only [bind_eq_ok, demand_eq_ok, pure_eq_ok, beq_iff_eq, decodeSrc_iff] at e
      obtain ⟨_, h58, s, ⟨rfl, rfl, hs, hb⟩, rfl⟩ := e
      exact ⟨by simp [MathOp.wf, hc, hdw, hs0, hs], regReg_iff.2 ⟨hb0, ht, h58, hb⟩, operandControls_iff.2 ⟨hmf, hd, ht0⟩, hh⟩
  · obtain ⟨c, d, s0, s⟩ := o
    rintro ⟨hwf, e1, e2, hh⟩
    simp only [MathOp.wf, Bool.and_eq_true] at hwf
    obtain ⟨⟨⟨hc, hdw⟩, hs0⟩, hs⟩ := hwf
    obtain ⟨hmf, hd, ht0⟩ := operandControls_iff.1 e2
    obtain ⟨hb0, ht, h58, hb⟩ := regReg_iff.1 e1
    refine ⟨c, ⟨hc, hmf, hh⟩, d, ⟨hdw, hd⟩, s0, ⟨hs0, ht0, hb0⟩, .reg s.file s.ty, ht, ?_⟩
    simp only [bind_eq_ok, demand_eq_ok, pure_eq_ok, beq_iff_eq, decodeSrc_iff]
    exact ⟨(), h58, s, ⟨rfl, rfl, hs, hb⟩, rfl⟩

end Sys2Proof.Proofs.Forms
end

section
/-! PROOF SUPPORT. The words of sends (R91, R92) and the compact words (R72, R76), decoded and encoded. -/

namespace Sys2Proof.Proofs.Forms

open Sys2Proof.Proofs.Fields
open BitVec (extractLsb'_append_eq_of_add_le extractLsb'_append_eq_of_le extractLsb'_eq_self)

/-! ### Sends -/

/-- The bits of a descriptor field that an instruction's descriptor admits: an immediate's own, any for a register (R69). -/
def Desc.Admits (desc : Desc) (d : BitVec 31) : Prop := desc = .reg ∨ desc = .imm d

theorem Desc.admits_bits (desc : Desc) : Desc.Admits desc desc.bits := by
  cases desc
  · exact .inr rfl
  · exact .inl rfl

/-- The word of a `send` (R91) with `d` in the field of the descriptor. -/
def plainWord (op : BitVec 7) (o : SendOp) (d : BitVec 31) : BitVec 128 :=
  assemble
    (BitVec.ofBool o.eot ++ d ++ 0#1 ++ o.ex.extractLsb' 12 4 ++ o.desc.selPlain ++ o.ex.extractLsb' 8 4 ++
      0#1 ++ o.ex.extractLsb' 4 4 ++ o.src0.mode ++ o.src0.bit9 ++ 0#1 ++ encodeLoc9 o.src0 ++ o.ex.extractLsb' 0 4)
    (encodeOperandControls o.ctl o.dst o.tag0.typeCode o.tag0.fileCode)
    (encodeHeader op o.sfid.code o.ctl)

/-- The word of a `sends` (R92) with `d` in the field of the descriptor. -/
def splitWord (op : BitVec 7) (o : SendsOp) (d : BitVec 31) : BitVec 128 :=
  assemble
    (BitVec.ofBool o.eot ++ d ++ o.ex ++ o.src0.mode ++ o.src0.bit9 ++ o.desc.selSplit ++ encodeLoc9 o.src0 ++ o.exLen)
    (o.dst.mode ++ o.dst.bit9 ++ 0#1 ++ encodeLoc9 o.dst ++ o.src1 ++ 0#3 ++ o.dstTy.code ++
      o.src1File.code.extractLsb' 0 1 ++ o.dstFile.code.extractLsb' 0 1 ++ encodeMaskFlag o.ctl)
    (encodeHeader op o.sfid.code o.ctl)

theorem encodeSend_eq (op : BitVec 7) (o : SendOp) : encodeSend op o = plainWord op o o.desc.bits := rfl

theorem encodeSends_eq (op : BitVec 7) (o : SendsOp) : encodeSends op o = splitWord op o o.desc.bits := rfl

theorem ex_iff {a b c d : BitVec 4} {ex : BitVec 16} : d ++ c ++ b ++ a = ex ↔
    a = ex.extractLsb' 0 4 ∧ b = ex.extractLsb' 4 4 ∧ c = ex.extractLsb' 8 4 ∧ d = ex.extractLsb' 12 4 := by
  rw [eq_iff_agree (x := d ++ c ++ b ++ a) (y := ex) [(0, 4), (4, 4), (8, 4), (12, 4)] rfl]
  simp (disch := decide) only [Agree, and_true, extractLsb'_append_eq_of_add_le, extractLsb'_append_eq_of_le,
    Nat.reduceSub, extractLsb'_eq_self]

theorem plain_container_iff {hi : BitVec 64} {o : SendOp} {d : BitVec 31} :
    hi = BitVec.ofBool o.eot ++ d ++ 0#1 ++ o.ex.extractLsb' 12 4 ++ o.desc.selPlain ++ o.ex.extractLsb' 8 4 ++
      0#1 ++ o.ex.extractLsb' 4 4 ++ o.src0.mode ++ o.src0.bit9 ++ 0#1 ++ encodeLoc9 o.src0 ++ o.ex.extractLsb' 0 4 ↔
    (hi.extractLsb' 31 1 = 0#1 ∧ hi.extractLsb' 20 1 = 0#1 ∧ hi.extractLsb' 13 1 = 0#1) ∧
      (hi.extractLsb' 15 1 = o.src0.mode ∧ hi.extractLsb' 4 9 = encodeLoc9 o.src0 ∧ hi.extractLsb' 14 1 = o.src0.bit9) ∧
      hi.extractLsb' 27 4 ++ hi.extractLsb' 21 4 ++ hi.extractLsb' 16 4 ++ hi.extractLsb' 0 4 = o.ex ∧
      hi.extractLsb' 25 2 = o.desc.selPlain ∧ hi.extractLsb' 32 31 = d ∧ hi.extractLsb' 63 1 = BitVec.ofBool o.eot := by
  rw [eq_iff_agree (x := hi) [(0, 4), (4, 9), (13, 1), (14, 1), (15, 1), (16, 4), (20, 1), (21, 4), (25, 2), (27, 4),
    (31, 1), (32, 31), (63, 1)] rfl, ex_iff]
  simp (disch := decide) only [Agree, and_true, extractLsb'_append_eq_of_add_le, extractLsb'_append_eq_of_le,
    Nat.reduceSub, extractLsb'_eq_self]
  tauto

/-- `SelReg32Desc` of `send` (R91), and what is read after it. -/
theorem selPlain_iff {β : Type} {c : BitVec 2} {d : BitVec 31} {f : Desc → Decoded β} {r : β} :
    (match c.toNat with
      | 0 => (.ok Desc.reg : Decoded Desc) >>= f
      | 3 => .ok (Desc.imm d) >>= f
      | _ => .error (.illFormed "SelReg32Desc") >>= f) = .ok r ↔
    ∃ desc : Desc, (c = desc.selPlain ∧ Desc.Admits desc d) ∧ f desc = .ok r := by
  have hc : c = 0#2 ∨ c = 1#2 ∨ c = 2#2 ∨ c = 3#2 := by
    revert c
    decide
  constructor
  · rcases hc with rfl | rfl | rfl | rfl <;> intro e
    · exact ⟨.reg, ⟨rfl, .inl rfl⟩, e⟩
    · cases e
    · cases e
    · exact ⟨.imm d, ⟨rfl, .inr rfl⟩, e⟩
  · rintro ⟨desc, ⟨rfl, hadm⟩, e⟩
    rcases hadm with rfl | rfl <;> exact e

theorem decodeSend_iff {hi : BitVec 64} {oc h : BitVec 32} {o : SendOp} (h29 : h.extractLsb' 29 1 = 0#1) :
    decodeSend hi oc h = .ok o ↔ o.wf = true ∧
      ∃ d, Desc.Admits o.desc d ∧ assemble hi oc h = plainWord (h.extractLsb' 0 7) o d := by
  simp only [decodeSend, bind_eq_ok, listed_eq_ok, demand_eq_ok, decodeCtl_iff h29, decodeOcDst_iff,
    decodeTag0_iff, decodeLoc9_iff, Sfid.ofCode_iff, Bool.not_eq_true', Bool.and_eq_true,
    ← extract_one_eq_zero, extract_bit]
  constructor
  · rintro ⟨c, ⟨hc, hmf, hh⟩, _, hsat, sf, hsf, d, ⟨hdw, hd⟩, t, ht, _, hz, s0, ⟨hm, hl, h9, ha⟩, _, hr, e⟩
    obtain ⟨desc, ⟨hsel, hadm⟩, e⟩ := selPlain_iff.1 e
    obtain rfl := pure_eq_ok.1 e
    refine ⟨by simp [SendOp.wf, hc, hsat, hdw, hr, ha], _, hadm, assemble_inj.2 ⟨?_, operandControls_iff.2 ⟨hmf, hd, ht⟩,
      header_of_field hsf hh⟩⟩
    exact plain_container_iff.2 ⟨⟨hz.1.1, hz.1.2, hz.2⟩, ⟨hm, hl, h9⟩, rfl, hsel, rfl, extract_one.2 rfl⟩
  · obtain ⟨c, sf, d, t, s0, ex, eot, desc⟩ := o
    rintro ⟨hwf, bits, hadm, e⟩
    simp only [SendOp.wf, Bool.and_eq_true, Bool.not_eq_true'] at hwf
    obtain ⟨⟨⟨⟨hc, hsat⟩, hdw⟩, hr⟩, ha⟩ := hwf
    obtain ⟨e1, e2, e3⟩ := assemble_inj.1 e
    obtain ⟨hmf, hd, ht⟩ := operandControls_iff.1 e2
    obtain ⟨⟨h31, h20, h13⟩, ⟨hm, hl, h9⟩, hex, hsel, hbits, heot⟩ := plain_container_iff.1 e1
    obtain ⟨hsf, hh⟩ := field_of_header e3
    dsimp only at *
    refine ⟨c, ⟨hc, hmf, hh⟩, (), hsat, sf, hsf, d, ⟨hdw, hd⟩, t, ht, (), ⟨⟨h31, h20⟩, h13⟩, s0, ⟨hm, hl, h9, ha⟩, (), hr,
      selPlain_iff.2 ⟨desc, ⟨hsel, hbits ▸ hadm⟩, pure_eq_ok.2 ?_⟩⟩
    rw [hex, extract_one.1 heot]

theorem split_container_iff {hi : BitVec 64} {o : SendsOp} {d : BitVec 31} :
    hi = BitVec.ofBool o.eot ++ d ++ o.ex ++ o.src0.mode ++ o.src0.bit9 ++ o.desc.selSplit ++ encodeLoc9 o.src0 ++ o.exLen ↔
    (hi.extractLsb' 15 1 = o.src0.mode ∧ hi.extractLsb' 4 9 = encodeLoc9 o.src0 ∧ hi.extractLsb' 14 1 = o.src0.bit9) ∧
      hi.extractLsb' 0 4 = o.exLen ∧ hi.extractLsb' 16 16 = o.ex ∧
      hi.extractLsb' 13 1 = o.desc.selSplit ∧ hi.extractLsb' 32 31 = d ∧ hi.extractLsb' 63 1 = BitVec.ofBool o.eot := by
  rw [eq_iff_agree (x := hi) [(0, 4), (4, 9), (13, 1), (14, 1), (15, 1), (16, 16), (32, 31), (63, 1)] rfl]
  simp (disch := decide) only [Agree, and_true, extractLsb'_append_eq_of_add_le, extractLsb'_append_eq_of_le,
    Nat.reduceSub, extractLsb'_eq_self]
  tauto

theorem split_controls_iff {oc : BitVec 32} {o : SendsOp} :
    oc = o.dst.mode ++ o.dst.bit9 ++ 0#1 ++ encodeLoc9 o.dst ++ o.src1 ++ 0#3 ++ o.dstTy.code ++
      o.src1File.code.extractLsb' 0 1 ++ o.dstFile.code.extractLsb' 0 1 ++ encodeMaskFlag o.ctl ↔
    oc.extractLsb' 0 3 = encodeMaskFlag o.ctl ∧ oc.extractLsb' 3 1 = o.dstFile.code.extractLsb' 0 1 ∧
      oc.extractLsb' 4 1 = o.src1File.code.extractLsb' 0 1 ∧ oc.extractLsb' 5 4 = o.dstTy.code ∧
      oc.extractLsb' 9 3 = 0#3 ∧ oc.extractLsb' 12 8 = o.src1 ∧ oc.extractLsb' 29 1 = 0#1 ∧
      oc.extractLsb' 31 1 = o.dst.mode ∧ oc.extractLsb' 20 9 = encodeLoc9 o.dst ∧ oc.extractLsb' 30 1 = o.dst.bit9 := by
  rw [eq_iff_agree (x := oc) [(0, 3), (3, 1), (4, 1), (5, 4), (9, 3), (12, 8), (20, 9), (29, 1), (30, 1), (31, 1)] rfl]
  simp (disch := decide) only [Agree, and_true, extractLsb'_append_eq_of_add_le, extractLsb'_append_eq_of_le,
    Nat.reduceSub, extractLsb'_eq_self]
  tauto

/-- `SelReg32Desc` of `sends` (R92). -/
theorem selSplit_iff {b : Bool} {d : BitVec 31} {desc : Desc} :
    (if b then Desc.reg else Desc.imm d) = desc ↔ BitVec.ofBool b = desc.selSplit ∧ Desc.Admits desc d := by
  cases b <;> cases desc <;> simp [Desc.selSplit, Desc.Admits, eq_comm]

theorem decodeSends_iff {hi : BitVec 64} {oc h : BitVec 32} {o : SendsOp} (h29 : h.extractLsb' 29 1 = 0#1) :
    decodeSends hi oc h = .ok o ↔ o.wf = true ∧
      ∃ d, Desc.Admits o.desc d ∧ assemble hi oc h = splitWord (h.extractLsb' 0 7) o d := by
  simp only [decodeSends, bind_eq_ok, listed_eq_ok, demand_eq_ok, pure_eq_ok, decodeCtl_iff h29, decodeLoc9_iff,
    Sfid.ofCode_iff, RType.ofCode_iff, Bool.not_eq_true', ← extract_one_eq_zero, extract_bit, beq_iff_eq]
  constructor
  · rintro ⟨c, ⟨hc, hmf, hh⟩, _, hsat, sf, hsf, _, h29', _, h9z, ty, hty, d, ⟨dm, dl, d9, da⟩, _, hdr, s0, ⟨hm, hl, h9, ha⟩, _, hr,
      _, hr1, rfl⟩
    obtain ⟨hsel, hadm⟩ := selSplit_iff.1 (rfl : (if hi.getLsbD 13 then Desc.reg else Desc.imm (hi.extractLsb' 32 31)) = _)
    refine ⟨by simp only [SendsOp.wf, hc, hsat, hdr, da, hr, ha, hr1, Bool.not_false, Bool.and_self], _, hadm, assemble_inj.2 ⟨?_, ?_, header_of_field hsf hh⟩⟩
    · exact split_container_iff.2 ⟨⟨hm, hl, h9⟩, rfl, rfl, extract_bit ▸ hsel, rfl, extract_one.2 rfl⟩
    · exact split_controls_iff.2 ⟨hmf, extract_bit ▸ regFileOfBit_iff.1 rfl, extract_bit ▸ regFileOfBit_iff.1 rfl, hty, h9z,
        rfl, h29', dm, dl, d9⟩
  · obtain ⟨c, sf, df, ty, d, s0, s1f, s1, ex, el, eot, desc⟩ := o
    rintro ⟨hwf, bits, hadm, e⟩
    simp only [SendsOp.wf, Bool.and_eq_true, Bool.not_eq_true'] at hwf
    obtain ⟨⟨⟨⟨⟨⟨hc, hsat⟩, hdr⟩, da⟩, hr⟩, ha⟩, hr1⟩ := hwf
    obtain ⟨e1, e2, e3⟩ := assemble_inj.1 e
    obtain ⟨⟨hm, hl, h9⟩, hel, hex, hsel, hbits, heot⟩ := split_container_iff.1 e1
    obtain ⟨hmf, hdf, hs1f, hty, h9z, hs1, h29', dm, dl, d9⟩ := split_controls_iff.1 e2
    obtain ⟨hsf, hh⟩ := field_of_header e3
    dsimp only at *
    have hdf := regFileOfBit_iff.2 (extract_bit.trans hdf)
    have hs1f := regFileOfBit_iff.2 (extract_bit.trans hs1f)
    have hdesc := selSplit_iff.2 ⟨extract_bit.trans hsel, hbits ▸ hadm⟩
    refine ⟨c, ⟨hc, hmf, hh⟩, (), hsat, sf, hsf, (), h29', (), h9z, ty, hty, d, ⟨dm, dl, d9, da⟩, (), hdf ▸ hdr, s0,
      ⟨hm, hl, h9, ha⟩, (), hr, (), ?_, ?_⟩
    · rw [hs1f, hs1]
      exact hr1
    · rw [hdf, hs1f, hs1, hex, hel, hdesc, extract_one.1 heot]

/-! ### Compact words -/

theorem decodeCompactTwo_iff {w : BitVec 64} {o : CompactTwo} (h29 : w.extractLsb' 29 1 = 1#1) :
    decodeCompactTwo w = .ok o ↔ w = encodeCompactTwo o := by
  rw [eq_iff_agree (x := w) [(0, 7), (7, 1), (8, 5), (13, 5), (18, 5), (23, 1), (24, 4), (28, 1), (29, 1), (30, 5), (35, 5),
    (40, 8), (48, 8), (56, 8)] rfl]
  unfold encodeCompactTwo
  simp (disch := decide) only [Agree, and_true, extractLsb'_append_eq_of_add_le, extractLsb'_append_eq_of_le,
    Nat.reduceSub, extractLsb'_eq_self]
  simp only [decodeCompactTwo, bind_eq_ok, demand_eq_ok, pure_eq_ok, Bool.not_eq_true', ← extract_one_eq_zero, h29, true_and,
    extract_one, exists_const]
  constructor
  · rintro ⟨h28, rfl⟩
    exact ⟨rfl, rfl, rfl, rfl, rfl, rfl, rfl, h28, rfl, rfl, rfl, rfl, rfl⟩
  · rintro ⟨h1, h2, h3, h4, h5, h6, h7, h28, h8, h9, h10, h11, h12⟩
    refine ⟨h28, ?_⟩
    rw [h1, h2, h3, h4, h5, h6, h7, h8, h9, h10, h11, h12]

theorem decodeCompactThree_iff {w : BitVec 64} {o : CompactThree} (h29 : w.extractLsb' 29 1 = 1#1) :
    decodeCompactThree w = .ok o ↔ w = encodeCompactThree o := by
  rw [eq_iff_agree (x := w) [(0, 7), (7, 1), (8, 2), (10, 2), (12, 7), (19, 9), (28, 1), (29, 1), (30, 1), (31, 1), (32, 1),
    (33, 1), (34, 3), (37, 3), (40, 3), (43, 7), (50, 7), (57, 7)] rfl]
  unfold encodeCompactThree
  simp (disch := decide) only [Agree, and_true, extractLsb'_append_eq_of_add_le, extractLsb'_append_eq_of_le,
    Nat.reduceSub, extractLsb'_eq_self]
  simp only [decodeCompactThree, bind_eq_ok, demand_eq_ok, pure_eq_ok, Bool.not_eq_true', ← extract_one_eq_zero, h29, true_and,
    extract_one, exists_const, beq_iff_eq]
  constructor
  · rintro ⟨h19, h7, rfl⟩
    exact ⟨rfl, h7, rfl, rfl, rfl, h19, rfl, rfl, rfl, rfl, rfl, rfl, rfl, rfl, rfl, rfl, rfl⟩
  · rintro ⟨h1, h7, h2, h3, h4, h19, h5, h6, h8, h9, h10, h11, h12, h13, h14, h15, h16⟩
    refine ⟨h19, h7, ?_⟩
    rw [h1, h2, h3, h4, h5, h6, h8, h9, h10, h11, h12, h13, h14, h15, h16]

end Sys2Proof.Proofs.Forms
end

section
/-! PROOF. Decoding and encoding are inverse to each other (O5, O6): the opcode selects the form, the form gives back its word,
the codes give back the constructor. -/

namespace Sys2Proof.Proofs.RoundTrip

open Sys2Proof.Machine Sys2Proof.Claims Sys2Proof.Proofs.Fields Sys2Proof.Proofs.Forms

/-! ### The opcode selects the form -/

/-- A native word that decodes to a form: its opcode belongs to the form, and its fields decode to the operands. -/
def Native (w : BitVec 128) : Shape → Prop
  | .illegal => w = encodeShape .illegal
  | .nop d => w = encodeShape (.nop d)
  | .one op o => w.extractLsb' 0 7 = op ∧ (lookupCode op oneTable).isSome = true ∧
      decodeOne (w.extractLsb' 64 64) (w.extractLsb' 32 32) (w.extractLsb' 0 32) = .ok o
  | .two op o => w.extractLsb' 0 7 = op ∧ (lookupCode op twoTable).isSome = true ∧
      decodeTwo (w.extractLsb' 64 64) (w.extractLsb' 32 32) (w.extractLsb' 0 32) = .ok o
  | .three op o => w.extractLsb' 0 7 = op ∧ (lookupCode op threeTable).isSome = true ∧
      decodeThree (w.extractLsb' 64 64) (w.extractLsb' 32 32) (w.extractLsb' 0 32) = .ok o
  | .br1 op o => w.extractLsb' 0 7 = op ∧ (lookupCode op branchOneTable).isSome = true ∧
      decodeBranchOne op (w.extractLsb' 64 64) (w.extractLsb' 32 32) (w.extractLsb' 0 32) = .ok o
  | .br2 op o => w.extractLsb' 0 7 = op ∧ (lookupCode op branchTwoTable).isSome = true ∧
      decodeBranchTwo (w.extractLsb' 64 64) (w.extractLsb' 32 32) (w.extractLsb' 0 32) = .ok o
  | .math fc o => w.extractLsb' 0 7 = 0x38#7 ∧ w.extractLsb' 24 4 = fc ∧
      decodeMath (w.extractLsb' 64 64) (w.extractLsb' 32 32) (w.extractLsb' 0 32) = .ok o
  | .send (.plain b o) => w.extractLsb' 0 7 = SendForm.opcode (.plain b o) ∧
      decodeSend (w.extractLsb' 64 64) (w.extractLsb' 32 32) (w.extractLsb' 0 32) = .ok o
  | .send (.split b o) => w.extractLsb' 0 7 = SendForm.opcode (.split b o) ∧
      decodeSends (w.extractLsb' 64 64) (w.extractLsb' 32 32) (w.extractLsb' 0 32) = .ok o
  | .compact2 _ | .compact3 _ => False

theorem nop_word_iff {w : BitVec 128} {d : Bool} : w = encodeShape (.nop d) ↔
    w.extractLsb' 0 7 = 0x7E#7 ∧ w.extractLsb' 7 23 = 0#23 ∧ w.getLsbD 30 = d ∧ w.extractLsb' 31 97 = 0#97 := by
  rw [eq_iff_agree (x := w) [(0, 7), (7, 23), (30, 1), (31, 97)] rfl]
  unfold encodeShape
  simp (disch := decide) only [Agree, and_true, BitVec.extractLsb'_append_eq_of_add_le, BitVec.extractLsb'_append_eq_of_le,
    Nat.reduceSub, BitVec.extractLsb'_eq_self, extract_one]

/-- The opcodes of the forms are disjoint (R95). -/
theorem opcode_of_one : ∀ op : BitVec 7, (lookupCode op oneTable).isSome = true →
    (op == 0x00#7) = false ∧ (op == 0x7E#7) = false := by decide

theorem opcode_of_two : ∀ op : BitVec 7, (lookupCode op twoTable).isSome = true →
    (op == 0x00#7) = false ∧ (op == 0x7E#7) = false ∧ (lookupCode op oneTable).isSome = false := by decide

theorem opcode_of_three : ∀ op : BitVec 7, (lookupCode op threeTable).isSome = true →
    (op == 0x00#7) = false ∧ (op == 0x7E#7) = false ∧ (lookupCode op oneTable).isSome = false ∧
      (lookupCode op twoTable).isSome = false := by decide

theorem opcode_of_br1 : ∀ op : BitVec 7, (lookupCode op branchOneTable).isSome = true →
    (op == 0x00#7) = false ∧ (op == 0x7E#7) = false ∧ (lookupCode op oneTable).isSome = false ∧
      (lookupCode op twoTable).isSome = false ∧ (lookupCode op threeTable).isSome = false := by decide

theorem opcode_of_br2 : ∀ op : BitVec 7, (lookupCode op branchTwoTable).isSome = true →
    (op == 0x00#7) = false ∧ (op == 0x7E#7) = false ∧ (lookupCode op oneTable).isSome = false ∧
      (lookupCode op twoTable).isSome = false ∧ (lookupCode op threeTable).isSome = false ∧
      (lookupCode op branchOneTable).isSome = false := by decide

theorem ite_cases {α : Type} {c : Prop} [Decidable c] {x y r : α} (e : (if c then x else y) = r) :
    (c ∧ x = r) ∨ y = r := by
  by_cases h : c
  · exact .inl ⟨h, (if_pos h).symm.trans e⟩
  · exact .inr ((if_neg h).symm.trans e)

/-- The operands of a form that is read with a decoder of its own. -/
theorem operands_of_form {α β : Type} {x : Decoded α} {f : α → β} {b : β} (e : (x >>= fun a => pure (f a)) = .ok b) :
    ∃ a, x = .ok a ∧ f a = b := by
  simpa only [bind_eq_ok, pure_eq_ok] using e

theorem native_of_decodeNative {w : BitVec 128} {sh : Shape} (e : decodeNative w = .ok sh) : Native w sh := by
  rcases ite_cases e with ⟨_, e⟩ | e
  · simp only [bind_eq_ok, demand_eq_ok, pure_eq_ok, beq_iff_eq] at e
    obtain ⟨_, hw, rfl⟩ := e
    exact hw
  rcases ite_cases e with ⟨hop, e⟩ | e
  · simp only [bind_eq_ok, demand_eq_ok, pure_eq_ok, beq_iff_eq, Bool.and_eq_true] at e hop
    obtain ⟨_, ⟨h31, h7⟩, rfl⟩ := e
    exact nop_word_iff.2 ⟨hop, h7, rfl, h31⟩
  iterate 5
    rcases ite_cases e with ⟨hop, e⟩ | e
    · obtain ⟨o, ho, rfl⟩ := operands_of_form e
      exact ⟨rfl, hop, ho⟩
  rcases ite_cases e with ⟨hop, e⟩ | e
  · obtain ⟨o, ho, rfl⟩ := operands_of_form e
    exact ⟨beq_iff_eq.1 hop, rfl, ho⟩
  iterate 4
    rcases ite_cases e with ⟨hop, e⟩ | e
    · obtain ⟨o, ho, rfl⟩ := operands_of_form e
      exact ⟨beq_iff_eq.1 hop, ho⟩
  cases e

theorem decodeNative_of_native {w : BitVec 128} {sh : Shape} (e : Native w sh) : decodeNative w = .ok sh := by
  cases sh with
  | illegal =>
    obtain rfl : w = encodeShape .illegal := e
    rfl
  | nop d =>
    obtain ⟨hop, h7, rfl, h31⟩ := nop_word_iff.1 e
    simp [decodeNative, hop, h7, h31, demand, bind, Except.bind, pure, Except.pure]
  | one op o =>
    obtain ⟨hop, ht, ho⟩ := e
    obtain ⟨n0, n1⟩ := opcode_of_one op ht
    simp [decodeNative, hop, ht, ho, n0, n1, bind, Except.bind, pure, Except.pure]
  | two op o =>
    obtain ⟨hop, ht, ho⟩ := e
    obtain ⟨n0, n1, n2⟩ := opcode_of_two op ht
    simp [decodeNative, hop, ht, ho, n0, n1, n2, bind, Except.bind, pure, Except.pure]
  | three op o =>
    obtain ⟨hop, ht, ho⟩ := e
    obtain ⟨n0, n1, n2, n3⟩ := opcode_of_three op ht
    simp [decodeNative, hop, ht, ho, n0, n1, n2, n3, bind, Except.bind, pure, Except.pure]
  | br1 op o =>
    obtain ⟨hop, ht, ho⟩ := e
    obtain ⟨n0, n1, n2, n3, n4⟩ := opcode_of_br1 op ht
    simp [decodeNative, hop, ht, ho, n0, n1, n2, n3, n4, bind, Except.bind, pure, Except.pure]
  | br2 op o =>
    obtain ⟨hop, ht, ho⟩ := e
    obtain ⟨n0, n1, n2, n3, n4, n5⟩ := opcode_of_br2 op ht
    simp [decodeNative, hop, ht, ho, n0, n1, n2, n3, n4, n5, bind, Except.bind, pure, Except.pure]
  | math fc o =>
    obtain ⟨hop, hfc, ho⟩ := e
    unfold decodeNative
    dsimp only
    rw [hop, hfc, ho]
    rfl
  | send f =>
    rcases f with ⟨_ | _, o⟩ | ⟨_ | _, o⟩ <;> obtain ⟨hop, ho⟩ := e <;> unfold decodeNative <;> dsimp only <;> rw [hop, ho] <;> rfl
  | compact2 o => cases e
  | compact3 o => cases e

/-! ### The codes give back the constructor -/

theorem mem_of_lookupCode {n : Nat} {α : Type} {c : BitVec n} {v : α} :
    ∀ {l : List (BitVec n × α)}, lookupCode c l = some v → (c, v) ∈ l
  | (k, x) :: l, h => by
    simp only [lookupCode] at h
    split at h
    · rename_i hk
      obtain rfl := beq_iff_eq.1 hk
      cases h
      exact List.mem_cons_self
    · exact List.mem_cons_of_mem _ (mem_of_lookupCode h)

/-- A constructor that a table gives for a code has the form that the table is for. -/
theorem shape_of_lookup {n : Nat} {α : Type} {l : List (BitVec n × (α → Instr))} {F : BitVec n → α → Shape}
    (hl : ∀ p ∈ l, ∀ o, (p.2 o).shape = F p.1 o) {c : BitVec n} {o : α} {i : Instr}
    (h : (lookupCode c l).map (· o) = some i) : i.shape = F c o := by
  obtain ⟨f, hf, rfl⟩ := Option.map_eq_some_iff.1 h
  exact hl _ (mem_of_lookupCode hf) o

/-- The forms of the tables' constructors (R90, R95, R185 to R187, R200, R205). -/
theorem shape_oneTable : ∀ p ∈ oneTable, ∀ o, (p.2 o).shape = .one p.1 o := by
  simp only [oneTable, List.forall_mem_cons, List.not_mem_nil, false_imp_iff, implies_true, and_true]
  and_intros <;> exact fun _ => rfl

theorem shape_twoTable : ∀ p ∈ twoTable, ∀ o, (p.2 o).shape = .two p.1 o := by
  simp only [twoTable, List.forall_mem_cons, List.not_mem_nil, false_imp_iff, implies_true, and_true]
  and_intros <;> exact fun _ => rfl

theorem shape_threeTable : ∀ p ∈ threeTable, ∀ o, (p.2 o).shape = .three p.1 o := by
  simp only [threeTable, List.forall_mem_cons, List.not_mem_nil, false_imp_iff, implies_true, and_true]
  and_intros <;> exact fun _ => rfl

theorem shape_branchOneTable : ∀ p ∈ branchOneTable, ∀ o, (p.2 o).shape = .br1 p.1 o := by
  simp only [branchOneTable, List.forall_mem_cons, List.not_mem_nil, false_imp_iff, implies_true, and_true]
  and_intros <;> exact fun _ => rfl

theorem shape_branchTwoTable : ∀ p ∈ branchTwoTable, ∀ o, (p.2 o).shape = .br2 p.1 o := by
  simp only [branchTwoTable, List.forall_mem_cons, List.not_mem_nil, false_imp_iff, implies_true, and_true]
  and_intros <;> exact fun _ => rfl

theorem shape_mathTable : ∀ p ∈ mathTable, ∀ o, (p.2 o).shape = .math p.1 o := by
  simp only [mathTable, List.forall_mem_cons, List.not_mem_nil, false_imp_iff, implies_true, and_true]
  and_intros <;> exact fun _ => rfl

theorem shape_dp0Table : ∀ p ∈ dp0Table, ∀ o, (p.2 o).shape = .send o := by
  simp only [dp0Table, List.forall_mem_cons, List.not_mem_nil, false_imp_iff, implies_true, and_true]
  and_intros <;> exact fun _ => rfl

theorem shape_dp1Table : ∀ p ∈ dp1Table, ∀ o, (p.2 o).shape = .send o := by
  simp only [dp1Table, List.forall_mem_cons, List.not_mem_nil, false_imp_iff, implies_true, and_true]
  and_intros <;> exact fun _ => rfl

theorem shape_dp2Table : ∀ p ∈ dp2Table, ∀ o, (p.2 o).shape = .send o := by
  simp only [dp2Table, List.forall_mem_cons, List.not_mem_nil, false_imp_iff, implies_true, and_true]
  and_intros <;> exact fun _ => rfl

theorem shape_readOnlyTable : ∀ p ∈ readOnlyTable, ∀ o, (p.2 o).shape = .send o := by
  simp only [readOnlyTable, List.forall_mem_cons, List.not_mem_nil, false_imp_iff, implies_true, and_true]
  and_intros <;> exact fun _ => rfl

theorem shape_renderWriteTable : ∀ p ∈ renderWriteTable, ∀ o, (p.2 o).shape = .send o := by
  simp only [renderWriteTable, List.forall_mem_cons, List.not_mem_nil, false_imp_iff, implies_true, and_true]
  and_intros <;> exact fun _ => rfl

/-- The constructors of a table of messages are sends. -/
theorem shape_of_message {n : Nat} {l : List (BitVec n × (SendForm → Instr))} (hl : ∀ p ∈ l, ∀ f, (p.2 f).shape = .send f)
    {c : BitVec n} {f : SendForm} {i : Instr} (h : (lookupCode c l).map (· f) = some i) : i.shape = .send f :=
  shape_of_lookup (F := fun _ f => .send f) hl h

theorem shape_of_sfidRow (f : SendForm) : f.sfidRow.shape = .send f := by
  unfold SendForm.sfidRow
  split <;> rfl

theorem shape_of_opcodeRow (f : SendForm) : f.opcodeRow.shape = .send f := by
  rcases f with ⟨_ | _, o⟩ | ⟨_ | _, o⟩ <;> rfl

theorem shape_of_messageRow {f : SendForm} {d : BitVec 31} {i : Instr} (h : f.messageRow d = some i) : i.shape = .send f := by
  unfold SendForm.messageRow at h
  split at h
  · exact shape_of_message shape_dp0Table h
  · exact shape_of_message shape_dp1Table h
  · exact shape_of_message shape_dp2Table h
  · exact shape_of_message shape_readOnlyTable h
  · rcases ite_cases h with ⟨_, h⟩ | h
    · obtain rfl := Option.some.inj h
      cases hc : lookupCode (d.extractLsb' 8 3) renderWriteTable with
      | some c => exact shape_renderWriteTable _ (mem_of_lookupCode hc) f
      | none => rfl
    · rcases ite_cases h with ⟨_, h⟩ | h
      · obtain rfl := Option.some.inj h
        rfl
      · cases h
  · rcases ite_cases h with ⟨_, h⟩ | h <;> obtain rfl := Option.some.inj h <;> rfl
  all_goals cases h

theorem shape_of_row (f : SendForm) : f.row.shape = .send f := by
  unfold SendForm.row
  split
  · split
    · exact shape_of_opcodeRow f
    · exact shape_of_sfidRow f
  · rename_i d _
    split
    · exact shape_of_opcodeRow f
    · cases h : f.messageRow d with
      | none => exact shape_of_sfidRow f
      | some i => exact shape_of_messageRow h

/-- The function controls without a row of their own are the reserved ones 0 and 8 (R90). -/
theorem reserved_functions : ∀ fc : BitVec 4, (lookupCode fc mathTable).isSome = false →
    (if fc.getLsbD 3 then 0x8#4 else 0x0#4) = fc := by decide

theorem shape_of_toInstr {sh : Shape} {i : Instr} (h : sh.toInstr? = some i) : i.shape = sh := by
  cases sh with
  | illegal => exact Option.some.inj h ▸ rfl
  | nop d => exact Option.some.inj h ▸ rfl
  | one op o => exact shape_of_lookup shape_oneTable h
  | two op o => exact shape_of_lookup shape_twoTable h
  | three op o => exact shape_of_lookup shape_threeTable h
  | br1 op o => exact shape_of_lookup shape_branchOneTable h
  | br2 op o => exact shape_of_lookup shape_branchTwoTable h
  | math fc o =>
    unfold Shape.toInstr? at h
    dsimp only at h
    split at h
    · rename_i c hc
      exact shape_of_lookup (l := mathTable) shape_mathTable (Option.map_eq_some_iff.2 ⟨c, hc, Option.some.inj h⟩)
    · rename_i hc
      obtain rfl := Option.some.inj h
      exact congrArg (Shape.math · o) (reserved_functions fc (by rw [hc]; rfl))
  | send f => exact Option.some.inj h ▸ shape_of_row f
  | compact2 o => exact Option.some.inj h ▸ rfl
  | compact3 o => exact Option.some.inj h ▸ rfl

/-! ### The form gives back its word -/

theorem assemble_self (w : BitVec 128) : assemble (w.extractLsb' 64 64) (w.extractLsb' 32 32) (w.extractLsb' 0 32) = w :=
  (assemble_iff.2 ⟨rfl, rfl, rfl⟩).symm

theorem header_bit29 {w : BitVec 128} (h : isCompact w = false) : (w.extractLsb' 0 32).extractLsb' 29 1 = 0#1 := by
  rw [extractLsb'_extractLsb' (by decide)]
  exact extract_one_eq_zero.2 h

theorem header_opcode (w : BitVec 128) : (w.extractLsb' 0 32).extractLsb' 0 7 = w.extractLsb' 0 7 :=
  extractLsb'_extractLsb' (by decide)

theorem header_field (w : BitVec 128) : (w.extractLsb' 0 32).extractLsb' 24 4 = w.extractLsb' 24 4 :=
  extractLsb'_extractLsb' (by decide)

/-- The bits of a form's word that the form does not have (R55, R69). -/
def formNoInformation : Shape → BitVec 128
  | .compact2 _ | .compact3 _ => 0xFFFFFFFFFFFFFFFF0000000000000000#128
  | .send f => if f.desc = .reg then 0x7FFFFFFF000000000000000000000000#128 else 0#128
  | _ => 0#128

theorem noInformation_eq (i : Instr) : noInformation i = formNoInformation i.shape := by
  cases i <;> rfl

/-- A word that is a form's word but for what the form does not have. -/
def WordOf (sh : Shape) (w : BitVec 128) : Prop := encodeShape sh &&& ~~~formNoInformation sh = w &&& ~~~formNoInformation sh

theorem wordOf_of_eq {sh : Shape} {w : BitVec 128} (h : w = encodeShape sh) : WordOf sh w := h ▸ rfl

/-- Words that agree but in the descriptor's 31 bits (R69). -/
theorem and_not_descriptor {x y : BitVec 128} (h0 : x.extractLsb' 0 96 = y.extractLsb' 0 96)
    (h1 : x.extractLsb' 127 1 = y.extractLsb' 127 1) :
    x &&& ~~~0x7FFFFFFF000000000000000000000000#128 = y &&& ~~~0x7FFFFFFF000000000000000000000000#128 := by
  rw [eq_iff_agree (x := x &&& _) [(0, 96), (96, 31), (127, 1)] rfl]
  refine ⟨?_, ?_, ?_, trivial⟩
  · rw [BitVec.extractLsb'_and, h0, ← BitVec.extractLsb'_and]
  · simp only [BitVec.extractLsb'_and]
    rw [show (~~~0x7FFFFFFF000000000000000000000000#128).extractLsb' 96 31 = 0#31 by decide, BitVec.and_zero, BitVec.and_zero]
  · rw [BitVec.extractLsb'_and, h1, ← BitVec.extractLsb'_and]

/-- Words that agree in the lower half (R55). -/
theorem and_not_upper {x y : BitVec 128} (h0 : x.extractLsb' 0 64 = y.extractLsb' 0 64) :
    x &&& ~~~0xFFFFFFFFFFFFFFFF0000000000000000#128 = y &&& ~~~0xFFFFFFFFFFFFFFFF0000000000000000#128 := by
  rw [eq_iff_agree (x := x &&& _) [(0, 64), (64, 64)] rfl]
  refine ⟨?_, ?_, trivial⟩
  · rw [BitVec.extractLsb'_and, h0, ← BitVec.extractLsb'_and]
  · simp only [BitVec.extractLsb'_and]
    rw [show (~~~0xFFFFFFFFFFFFFFFF0000000000000000#128).extractLsb' 64 64 = 0#64 by decide, BitVec.and_zero, BitVec.and_zero]

theorem extract_of_agree {n m : Nat} {x y : BitVec n} {l : List (Nat × Nat)} (h : Agree x y l) (hl : tiles m 0 l = true) :
    x.extractLsb' 0 m = y.extractLsb' 0 m := by
  ext i hi
  simpa [hi] using bit_of_agree h hl (Nat.zero_le i) hi

theorem assemble_and_not_descriptor {hi hi' : BitVec 64} {oc h : BitVec 32}
    (h0 : hi.extractLsb' 0 32 = hi'.extractLsb' 0 32) (h1 : hi.extractLsb' 63 1 = hi'.extractLsb' 63 1) :
    assemble hi oc h &&& ~~~0x7FFFFFFF000000000000000000000000#128 =
      assemble hi' oc h &&& ~~~0x7FFFFFFF000000000000000000000000#128 := by
  unfold assemble
  refine and_not_descriptor ?_ ?_
  · rw [eq_iff_agree (x := (hi ++ oc ++ h).extractLsb' 0 96) [(0, 32), (32, 32), (64, 32)] rfl]
    simp (disch := decide) only [Agree, and_true, extractLsb'_extractLsb', Nat.zero_add]
    simp (disch := decide) only [BitVec.extractLsb'_append_eq_of_add_le, BitVec.extractLsb'_append_eq_of_le, Nat.reduceSub,
      BitVec.extractLsb'_eq_self, h0, and_true]
  · simp (disch := decide) only [BitVec.extractLsb'_append_eq_of_le, Nat.reduceSub, h1]

theorem wordOf_send {f : SendForm} {w : BitVec 128} (hf : f.desc = .reg)
    (h : encodeShape (.send f) &&& ~~~0x7FFFFFFF000000000000000000000000#128 =
      w &&& ~~~0x7FFFFFFF000000000000000000000000#128) : WordOf (.send f) w := by
  have hn : formNoInformation (.send f) = 0x7FFFFFFF000000000000000000000000#128 := if_pos hf
  unfold WordOf
  rw [hn]
  exact h

theorem wordOf_plain {b : Bool} {o : SendOp} {d : BitVec 31} (hd : Desc.Admits o.desc d) :
    WordOf (.send (.plain b o)) (plainWord (SendForm.opcode (.plain b o)) o d) := by
  rcases hd with hd | hd
  · refine wordOf_send hd (assemble_and_not_descriptor
      (extract_of_agree (l := [(0, 4), (4, 9), (13, 1), (14, 1), (15, 1), (16, 4), (20, 1), (21, 4), (25, 2), (27, 4), (31, 1)]) ?_ rfl) ?_)
    all_goals simp (disch := decide) only [Agree, and_true, BitVec.extractLsb'_append_eq_of_add_le,
      BitVec.extractLsb'_append_eq_of_le]
  · exact wordOf_of_eq (by rw [encodeShape, encodeSend_eq, hd]; rfl)

theorem wordOf_split {b : Bool} {o : SendsOp} {d : BitVec 31} (hd : Desc.Admits o.desc d) :
    WordOf (.send (.split b o)) (splitWord (SendForm.opcode (.split b o)) o d) := by
  rcases hd with hd | hd
  · refine wordOf_send hd (assemble_and_not_descriptor
      (extract_of_agree (l := [(0, 4), (4, 9), (13, 1), (14, 1), (15, 1), (16, 16)]) ?_ rfl) ?_)
    all_goals simp (disch := decide) only [Agree, and_true, BitVec.extractLsb'_append_eq_of_add_le,
      BitVec.extractLsb'_append_eq_of_le]
  · exact wordOf_of_eq (by rw [encodeShape, encodeSends_eq, hd]; rfl)

/-- A native word that decodes to a form is the form's word. -/
theorem wordOf_of_native {w : BitVec 128} {sh : Shape} (hw : isCompact w = false) (h : Native w sh) :
    sh.wf = true ∧ WordOf sh w := by
  have h29 := header_bit29 hw
  cases sh with
  | illegal => exact ⟨rfl, wordOf_of_eq h⟩
  | nop d => exact ⟨rfl, wordOf_of_eq h⟩
  | one op o =>
    obtain ⟨rfl, _, h⟩ := h
    rw [decodeOne_iff h29, assemble_self, header_opcode] at h
    exact ⟨h.1, wordOf_of_eq h.2⟩
  | two op o =>
    obtain ⟨rfl, _, h⟩ := h
    rw [decodeTwo_iff h29, assemble_self, header_opcode] at h
    exact ⟨h.1, wordOf_of_eq h.2⟩
  | three op o =>
    obtain ⟨rfl, _, h⟩ := h
    rw [decodeThree_iff h29, assemble_self, header_opcode] at h
    exact ⟨h.1, wordOf_of_eq h.2⟩
  | br1 op o =>
    obtain ⟨rfl, _, h⟩ := h
    rw [decodeBranchOne_iff h29, assemble_self, header_opcode] at h
    exact ⟨h.1, wordOf_of_eq h.2⟩
  | br2 op o =>
    obtain ⟨rfl, _, h⟩ := h
    rw [decodeBranchTwo_iff h29, assemble_self, header_opcode] at h
    exact ⟨h.1, wordOf_of_eq h.2⟩
  | math fc o =>
    obtain ⟨hop, rfl, h⟩ := h
    rw [decodeMath_iff h29, assemble_self, header_opcode, header_field, hop] at h
    exact ⟨h.1, wordOf_of_eq h.2⟩
  | send f =>
    rcases f with ⟨b, o⟩ | ⟨b, o⟩
    · obtain ⟨hop, h⟩ := h
      rw [decodeSend_iff h29, assemble_self, header_opcode, hop] at h
      obtain ⟨hwf, d, hd, rfl⟩ := h
      exact ⟨hwf, wordOf_plain hd⟩
    · obtain ⟨hop, h⟩ := h
      rw [decodeSends_iff h29, assemble_self, header_opcode, hop] at h
      obtain ⟨hwf, d, hd, rfl⟩ := h
      exact ⟨hwf, wordOf_split hd⟩
  | compact2 o => cases h
  | compact3 o => cases h

theorem opcode_of_assemble {hi : BitVec 64} {oc : BitVec 32} {op : BitVec 7} {x : BitVec 4} {c : Ctl} :
    (assemble hi oc (encodeHeader op x c)).extractLsb' 0 7 = op ∧
      (assemble hi oc (encodeHeader op x c)).extractLsb' 24 4 = x := by
  obtain ⟨_, _, h⟩ := assemble_iff.1 (rfl : assemble hi oc (encodeHeader op x c) = _)
  obtain ⟨⟨h0, h24, _⟩, _⟩ := header_iff.1 (rfl : encodeHeader op x c = _)
  exact ⟨by rw [← header_opcode, h, h0], by rw [← header_field, h, h24]⟩

theorem opcode_of_encodeOne (op : BitVec 7) (o : OneSrc) : (encodeOne op o).extractLsb' 0 7 = op := by
  unfold encodeOne
  split <;> exact opcode_of_assemble.1

theorem opcode_of_encodeTwo (op : BitVec 7) (o : TwoSrc) : (encodeTwo op o).extractLsb' 0 7 = op := by
  unfold encodeTwo
  dsimp only
  split <;> exact opcode_of_assemble.1

theorem opcode_of_encodeBranchOne (op : BitVec 7) (o : BranchOne) : (encodeBranchOne op o).extractLsb' 0 7 = op := by
  unfold encodeBranchOne
  dsimp only
  split <;> exact opcode_of_assemble.1

/-- The word of a well-formed native form decodes to the form. -/
theorem native_of_wf {sh : Shape} {i : Instr} (hwf : sh.wf = true) (hi : sh.toInstr? = some i)
    (hn : isCompact (encodeShape sh) = false) : Native (encodeShape sh) sh := by
  have h29 := header_bit29 hn
  have isSome_of_row {n : Nat} {α : Type} {l : List (BitVec n × (α → Instr))} {op : BitVec n} {o : α}
      (h : (lookupCode op l).map (· o) = some i) : (lookupCode op l).isSome = true :=
    Option.isSome_map.symm.trans (Option.isSome_iff_exists.2 ⟨i, h⟩)
  cases sh with
  | illegal => rfl
  | nop d => rfl
  | one op o =>
    have hop := opcode_of_encodeOne op o
    exact ⟨hop, isSome_of_row hi, (decodeOne_iff h29).2 ⟨hwf, by rw [assemble_self, header_opcode, encodeShape, hop]⟩⟩
  | two op o =>
    have hop := opcode_of_encodeTwo op o
    exact ⟨hop, isSome_of_row hi, (decodeTwo_iff h29).2 ⟨hwf, by rw [assemble_self, header_opcode, encodeShape, hop]⟩⟩
  | three op o =>
    have hop : (encodeThree op o).extractLsb' 0 7 = op := opcode_of_assemble.1
    exact ⟨hop, isSome_of_row hi, (decodeThree_iff h29).2 ⟨hwf, by rw [assemble_self, header_opcode, encodeShape, hop]⟩⟩
  | br1 op o =>
    have hop := opcode_of_encodeBranchOne op o
    exact ⟨hop, isSome_of_row hi, (decodeBranchOne_iff h29).2 ⟨hwf, by rw [assemble_self, header_opcode, encodeShape, hop]⟩⟩
  | br2 op o =>
    have hop : (encodeBranchTwo op o).extractLsb' 0 7 = op := opcode_of_assemble.1
    exact ⟨hop, isSome_of_row hi, (decodeBranchTwo_iff h29).2 ⟨hwf, by rw [assemble_self, header_opcode, encodeShape, hop]⟩⟩
  | math fc o =>
    have hop : (encodeMath fc o).extractLsb' 0 7 = 0x38#7 ∧ (encodeMath fc o).extractLsb' 24 4 = fc := opcode_of_assemble
    exact ⟨hop.1, hop.2, (decodeMath_iff h29).2
      ⟨hwf, by rw [assemble_self, header_opcode, header_field, encodeShape, hop.1, hop.2]; rfl⟩⟩
  | send f =>
    rcases f with ⟨b, o⟩ | ⟨b, o⟩
    · have hop : (encodeSend (SendForm.opcode (.plain b o)) o).extractLsb' 0 7 = _ := opcode_of_assemble.1
      exact ⟨hop, (decodeSend_iff h29).2
        ⟨hwf, _, Desc.admits_bits _, by rw [assemble_self, header_opcode, encodeShape, hop]; rfl⟩⟩
    · have hop : (encodeSends (SendForm.opcode (.split b o)) o).extractLsb' 0 7 = _ := opcode_of_assemble.1
      exact ⟨hop, (decodeSends_iff h29).2
        ⟨hwf, _, Desc.admits_bits _, by rw [assemble_self, header_opcode, encodeShape, hop]; rfl⟩⟩
  | compact2 o => rw [Laws.isCompact_compact2] at hn; cases hn
  | compact3 o => rw [Laws.isCompact_compact3] at hn; cases hn

/-! ### Words of either length -/

theorem compact_bit29 {w : BitVec 128} (h : isCompact w = true) : (w.extractLsb' 0 64).extractLsb' 29 1 = 1#1 := by
  rw [extractLsb'_extractLsb' (by decide)]
  exact extract_one_eq_one.2 h

theorem opcode_of_encodeCompactTwo (o : CompactTwo) : (encodeCompactTwo o).extractLsb' 0 7 = o.op := by
  unfold encodeCompactTwo
  simp (disch := decide) only [BitVec.extractLsb'_append_eq_of_add_le, BitVec.extractLsb'_eq_self]

theorem opcode_of_encodeCompactThree (o : CompactThree) : (encodeCompactThree o).extractLsb' 0 7 = o.op := by
  unfold encodeCompactThree
  simp (disch := decide) only [BitVec.extractLsb'_append_eq_of_add_le, BitVec.extractLsb'_eq_self]

theorem lower_half (v : BitVec 64) : (0#64 ++ v).extractLsb' 0 64 = v := by
  simp (disch := decide) only [BitVec.extractLsb'_append_eq_of_add_le, BitVec.extractLsb'_eq_self]

/-- A compact word that decodes to a form is the form's word, in its lower half. -/
theorem wordOf_of_compact {w : BitVec 128} {sh : Shape} (hw : isCompact w = true)
    (h : decodeCompact (w.extractLsb' 0 64) = .ok sh) : sh.wf = true ∧ WordOf sh w := by
  have h29 := compact_bit29 hw
  unfold decodeCompact at h
  cases ho : isOpcode ((w.extractLsb' 0 64).extractLsb' 0 7)
  · rw [ho] at h
    cases h
  cases ht : isThreeSrcOpcode ((w.extractLsb' 0 64).extractLsb' 0 7)
  all_goals
    rw [ho, ht] at h
    obtain ⟨o, e, rfl⟩ := operands_of_form h
  · rw [decodeCompactTwo_iff h29] at e
    rw [e, opcode_of_encodeCompactTwo] at ho ht
    exact ⟨by simp [Shape.wf, CompactTwo.wf, ho, ht], and_not_upper ((lower_half _).trans e.symm)⟩
  · rw [decodeCompactThree_iff h29] at e
    rw [e, opcode_of_encodeCompactThree] at ht
    exact ⟨ht, and_not_upper ((lower_half _).trans e.symm)⟩

theorem opcode_of_three_listed : ∀ op : BitVec 7, isThreeSrcOpcode op = true → isOpcode op = true := by decide

theorem decodeCompact_of_wf {sh : Shape} (hwf : sh.wf = true) (hc : isCompact (encodeShape sh) = true) : decodeCompact ((encodeShape sh).extractLsb' 0 64) = .ok sh := by
  have h29 := compact_bit29 hc
  cases sh with
  | compact2 o =>
    rw [show (encodeShape (.compact2 o)).extractLsb' 0 64 = encodeCompactTwo o from lower_half _] at h29 ⊢
    simp only [Shape.wf, CompactTwo.wf, Bool.and_eq_true, Bool.not_eq_true'] at hwf
    unfold decodeCompact
    rw [opcode_of_encodeCompactTwo, hwf.1, hwf.2, (decodeCompactTwo_iff h29).2 rfl]
    rfl
  | compact3 o =>
    rw [show (encodeShape (.compact3 o)).extractLsb' 0 64 = encodeCompactThree o from lower_half _] at h29 ⊢
    have ht : isThreeSrcOpcode o.op = true := hwf
    unfold decodeCompact
    rw [opcode_of_encodeCompactThree, opcode_of_three_listed _ ht, ht, (decodeCompactThree_iff h29).2 rfl]
    rfl
  | illegal => cases hc
  | nop d => cases d <;> cases hc
  | one op o => rw [show encodeShape (.one op o) = encodeOne op o from rfl, Laws.isCompact_one] at hc; cases hc
  | two op o => rw [show encodeShape (.two op o) = encodeTwo op o from rfl, Laws.isCompact_two] at hc; cases hc
  | three op o => rw [show encodeShape (.three op o) = encodeThree op o from rfl, Laws.isCompact_three] at hc; cases hc
  | br1 op o => rw [show encodeShape (.br1 op o) = encodeBranchOne op o from rfl, Laws.isCompact_br1] at hc; cases hc
  | br2 op o => rw [show encodeShape (.br2 op o) = encodeBranchTwo op o from rfl, Laws.isCompact_br2] at hc; cases hc
  | math fc o => rw [show encodeShape (.math fc o) = encodeMath fc o from rfl, Laws.isCompact_math] at hc; cases hc
  | send f => rw [Laws.isCompact_send] at hc; cases hc

/-- Settles O5. -/
theorem decodeEncodeRoundTrip : Obligations.DecodeEncodeRoundTrip := by
  intro i h
  simp only [Instr.wf, Bool.and_eq_true, beq_iff_eq] at h
  obtain ⟨hwf, hi⟩ := h
  unfold decode encode
  suffices hs : decodeShape (encodeShape i.shape) = .ok i.shape by
    rw [hs]
    show (match i.shape.toInstr? with
      | some i => (.ok i : Decoded Instr)
      | none => .error .reservedOpcode) = .ok i
    rw [hi]
  unfold decodeShape
  cases hc : isCompact (encodeShape i.shape)
  · exact decodeNative_of_native (native_of_wf hwf hi hc)
  · exact decodeCompact_of_wf hwf hc

/-- Settles O6. -/
theorem encodeDecodeRoundTrip : Obligations.EncodeDecodeRoundTrip := by
  intro w i h
  obtain ⟨sh, hs, h⟩ := bind_eq_ok.1 h
  have hi : sh.toInstr? = some i := by
    cases ht : sh.toInstr? with
    | none => rw [ht] at h; cases h
    | some j => rw [ht] at h; cases h; rfl
  have hsh := shape_of_toInstr hi
  have hw : sh.wf = true ∧ WordOf sh w := by
    unfold decodeShape at hs
    cases hc : isCompact w <;> rw [hc] at hs
    · exact wordOf_of_native hc (native_of_decodeNative hs)
    · exact wordOf_of_compact hc hs
  rw [noInformation_eq]
  simp only [Instr.wf, encode, hsh, hw.1, hi, BEq.rfl, Bool.and_self, true_and]
  exact hw.2

end Sys2Proof.Proofs.RoundTrip
end

section
/-! PROOF SUPPORT. What a computing instruction writes (O48): place by place, then the conditions, then the pointers. -/

namespace Sys2Proof.Proofs.ComputingFrames

open Sys2Proof.Machine Sys2Proof.Claims Sys2Proof.Proofs.Stores Sys2Proof.Proofs.Computing
open Sys2Proof.Proofs.InstructionFrames

/-- A thread with the registers of another. -/
def overlay (t u : Thread) : Thread :=
  { t with
    grf := u.grf, a0 := u.a0, acc := u.acc, flag := u.flag, sp := u.sp, sr0 := u.sr0
    cr0 := u.cr0, n0 := u.n0, ip := u.ip, tdr0 := u.tdr0, tm0 := u.tm0, dbg0 := u.dbg0
    pcip := u.pcip }

/-- The flag bit `b` of register `r` is a condition bit of a channel that writes. -/
def ConditionBit (w : Writes) (t : Thread) (off r b : Nat) : Prop :=
  w.toFlags = true ∧ r = w.ctl.flagReg.toNat ∧
    ∃ c, c < w.ctl.exec.channels ∧ w.enabled t off c = true ∧ b = flagBase w.ctl + off + c

/-- `u` differs from `t` where an instruction with these writes may change it. -/
structure Kept (w : Writes) (off : Nat) (t u : Thread) : Prop where
  frame : u = overlay t u
  grf : ∀ b, b < grfBytes → ¬ w.covers t off b → grfByte u.grf b = grfByte t.grf b
  flag : w.dst.archReg ≠ some 3 → ∀ r b, ¬ ConditionBit w t off r b →
    (u.flag.getD r 0#32).getLsbD b = (t.flag.getD r 0#32).getLsbD b
  acc : w.dst.archReg ≠ some 2 → w.ctl.accWr = false → u.acc = t.acc
  a0 : w.dst.archReg ≠ some 1 → u.a0 = t.a0
  sp : w.dst.archReg ≠ some 6 → u.sp = t.sp
  sr0 : w.dst.archReg ≠ some 7 → u.sr0 = t.sr0
  cr0 : w.dst.archReg ≠ some 8 → u.cr0 = t.cr0
  n0 : w.dst.archReg ≠ some 9 → u.n0 = t.n0
  tdr0 : w.dst.archReg ≠ some 0xB → u.tdr0 = t.tdr0
  tm0 : w.dst.archReg ≠ some 0xC → u.tm0 = t.tm0
  dbg0 : w.dst.archReg ≠ some 0xF → u.dbg0 = t.dbg0

theorem Kept.refl (w : Writes) (off : Nat) (t : Thread) : Kept w off t t := by
  constructor <;> intros <;> rfl

/-- An update of registers alone. -/
theorem frame_update {t u : Thread} (h : u = overlay t u) (f : Thread → Thread)
    (hf : ∀ v, f (overlay t v) = overlay t (f v)) : f u = overlay t (f u) := (congrArg f h).trans (hf u)

/-! ### Places -/

/-- A place an instruction with these writes may write. -/
def Within (w : Writes) (off : Nat) (t : Thread) : Place → Prop
  | .grf a => ∀ b, a ≤ b → b < a + w.dst.ty.size → w.covers t off b
  | .arch reg _ => w.dst.archReg = some (reg.extractLsb' 4 4).toNat
  | .acc _ => w.dst.archReg = some 2
  | .null => True

theorem archWrite_kept {w : Writes} {off : Nat} {t u v : Thread} {reg : BitVec 8} {b : HWord} (h : Kept w off t u)
    (hr : w.dst.archReg = some (reg.extractLsb' 4 4).toNat) (e : archWrite u reg b = some v) : Kept w off t v := by
  have kept (f : Thread → Thread) (hf : ∀ v, f (overlay t v) = overlay t (f v)) := frame_update h.frame f hf
  unfold archWrite at e
  generalize (reg.extractLsb' 4 4).toNat = k at hr e
  dsimp only at e
  have of {c : Prop} [Decidable c] {x : Thread} (e : (if c then some x else none) = some v) : x = v := by
    split at e
    · exact Option.some.inj e
    · cases e
  split at e
  · exact of e ▸ { h with frame := kept (fun v => { v with a0 := _ }) fun _ => rfl, a0 := fun n => absurd hr n }
  · refine of e ▸ { h with frame := kept (fun v => { v with flag := v.flag.setIfInBounds _ _ }) fun _ => rfl, flag := ?_ }
    exact fun n => absurd hr n
  · exact of e ▸ { h with frame := kept (fun v => { v with sp := _ }) fun _ => rfl, sp := fun n => absurd hr n }
  · exact of e ▸ { h with frame := kept (fun v => { v with sr0 := _ }) fun _ => rfl, sr0 := fun n => absurd hr n }
  · exact of e ▸ { h with frame := kept (fun v => { v with cr0 := _ }) fun _ => rfl, cr0 := fun n => absurd hr n }
  · exact of e ▸ { h with frame := kept (fun v => { v with n0 := _ }) fun _ => rfl, n0 := fun n => absurd hr n }
  · exact of e ▸ { h with frame := kept (fun v => { v with ip := _ }) fun _ => rfl }
  · exact of e ▸ { h with frame := kept (fun v => { v with tdr0 := _ }) fun _ => rfl, tdr0 := fun n => absurd hr n }
  · exact of e ▸ { h with frame := kept (fun v => { v with tm0 := _ }) fun _ => rfl, tm0 := fun n => absurd hr n }
  · exact of e ▸ { h with frame := kept (fun v => { v with pcip := Vector.ofFn _ }) fun _ => rfl }
  · exact of e ▸ { h with frame := kept (fun v => { v with dbg0 := _ }) fun _ => rfl, dbg0 := fun n => absurd hr n }
  · cases e

theorem writePlace_kept {w : Writes} {off : Nat} {t u v : Thread} {p : Place} {x : QWord} (h : Kept w off t u)
    (hp : Within w off t p) (e : writePlace u p w.dst.ty.size x = .ok v) : Kept w off t v := by
  rcases writePlace_cases e with ⟨a, rfl, rfl⟩ | ⟨k, rfl, rfl⟩ | ⟨rfl, rfl⟩ | ⟨reg, o, b, rfl, ha⟩
  · have hfr := frame_update h.frame (fun v => { v with grf := grfWrite v.grf a x.toNat w.dst.ty.size }) fun _ => rfl
    refine { h with frame := hfr, grf := fun b hb hc => ?_ }
    have ho : b < a ∨ a + w.dst.ty.size ≤ b := by
      by_contra hn
      exact hc (hp b (by omega) (by omega))
    exact (grfByte_write_other ho).trans (h.grf b hb hc)
  · have hfr (y : AccChannel) := frame_update h.frame (fun v => { v with acc := v.acc.setIfInBounds k y }) fun _ => rfl
    exact { h with frame := hfr _, acc := fun n => absurd hp n }
  · exact h
  · exact archWrite_kept h hp ha

/-- Elements of enabled channels stored where they may be. -/
theorem storeLanes_kept {w : Writes} {off : Nat} {t u v : Thread} {outs : List (Bool × Place × Lane)} (h : Kept w off t u)
    (hp : ∀ e ∈ outs, e.1 = true → Within w off t e.2.1) (e : storeLanes w.dst u outs = .ok v) : Kept w off t v :=
  storeLanes_induction (Kept w off t) e h fun x hx he _ _ hk hw => writePlace_kept hk (hp x hx he) hw

/-- What a place of a register file is. -/
theorem placeAt_cases {t : Thread} {file : RegFile} {reg : BitVec 8} {off size : Nat} {p : Place}
    (h : placeAt t file reg off size = .ok p) :
    (file = .grf ∧ ∃ a, p = .grf a) ∨ (file = .arf ∧ (p = .null ∨
      (∃ k, p = .acc k ∧ (reg.extractLsb' 4 4).toNat = 2) ∨ ∃ o, p = .arch reg o)) := by
  cases file with
  | grf =>
    obtain ⟨_, _, h⟩ := Exec.bind_eq_ok.1 h
    exact .inl ⟨rfl, _, (Except.ok.inj h).symm⟩
  | arf =>
    refine .inr ⟨rfl, ?_⟩
    unfold placeAt at h
    dsimp only at h
    split at h
    · exact .inl (Except.ok.inj h).symm
    · rename_i hk
      obtain ⟨_, _, h⟩ := Exec.bind_eq_ok.1 h
      exact .inr (.inl ⟨_, (Except.ok.inj h).symm, hk⟩)
    · split at h
      · obtain ⟨_, _, h⟩ := Exec.bind_eq_ok.1 h
        exact .inr (.inr ⟨_, (Except.ok.inj h).symm⟩)
      · cases h

theorem placeIndirect_grf {t : Thread} {file : RegFile} {a : Nat} {imm : BitVec 10} {off size : Nat} {p : Place}
    (h : placeIndirect t file a imm off size = .ok p) : ∃ b, p = .grf b := by
  simp only [placeIndirect, Exec.bind_eq_ok, Exec.pure_eq, Except.ok.injEq] at h
  obtain ⟨_, _, _, _, _, _, rfl⟩ := h
  exact ⟨_, rfl⟩

/-- What the place of a channel of a destination is: a general register, or the architecture register it names. -/
theorem dstPlace_cases {t : Thread} {d : Dest} {c : Nat} {p : Place} (h : dstPlace t d c = .ok p) :
    (∃ a, p = .grf a) ∨ p = .null ∨ (∃ k, p = .acc k ∧ d.archReg = some 2) ∨
      ∃ reg o, p = .arch reg o ∧ d.archReg = some (reg.extractLsb' 4 4).toNat := by
  cases d with
  | tri reg sub en ty =>
    unfold dstPlace at h
    rcases placeAt_cases h with ⟨_, ha⟩ | ⟨hf, _⟩
    · exact .inl ha
    · cases hf
  | op o =>
    obtain ⟨file, ty, loc, region⟩ := o
    unfold dstPlace at h
    cases loc with
    | indirect a imm => exact .inl (placeIndirect_grf h)
    | direct reg sub =>
      rcases placeAt_cases h with ⟨_, ha⟩ | ⟨hf, hn | ⟨k, hk, hc⟩ | ⟨o, ho⟩⟩
      · exact .inl ha
      · exact .inr (.inl hn)
      · cases hf
        exact .inr (.inr (.inl ⟨k, hk, congrArg some hc⟩))
      · cases hf
        exact .inr (.inr (.inr ⟨reg, o, ho, rfl⟩))

theorem dstPlace_within {w : Writes} {off c : Nat} {t : Thread} {p : Place} (hz : 0 ∈ w.shifts)
    (hc : c < w.ctl.exec.channels) (he : w.enabled t off c = true) (h : dstPlace t w.dst c = .ok p) :
    Within w off t p := by
  rcases dstPlace_cases h with ⟨a, rfl⟩ | rfl | ⟨k, rfl, ha⟩ | ⟨reg, o, rfl, ha⟩
  · exact fun b h1 h2 => ⟨c, a, 0, hc, he, h, hz, by omega, by omega⟩
  · exact trivial
  · exact ha
  · exact ha

/-- The channel of an entry of the outputs. -/
theorem mem_outs {n : Nat} {en : Nat → Bool} {place : Nat → Exec Place} {places : List Place} {lanes : List Lane}
    (hp : Machine.sequence ((List.range n).map place) = .ok places) {e : Bool × Place × Lane}
    (he : e ∈ ((List.range n).map en).zip (places.zip lanes)) :
    ∃ c, c < n ∧ e.1 = en c ∧ place c = .ok e.2.1 := by
  obtain ⟨i, hi, rfl⟩ := List.mem_iff_getElem.1 he
  simp only [List.length_zip, List.length_map, List.length_range] at hi
  have hl : places.length = n := by simpa using sequence_length hp
  have hin : i < n := by omega
  refine ⟨i, hin, by simp, ?_⟩
  have hi' := congrArg (fun l => l[i]?) (sequence_eq_ok hp)
  have hip : i < places.length := by omega
  simpa [hin, hip] using hi'

/-! ### Conditions -/

/-- The flag bits that no enabled channel's condition is. -/
theorem storeFlags_other {base b : Nat} : ∀ {outs : List (Bool × Place × Lane)} {w : DWord} {g : Nat},
    (∀ i (hi : i < outs.length), outs[i].1 = true → b ≠ base + g + i) →
      (storeFlags base w g outs).getLsbD b = w.getLsbD b
  | [], _, _, _ => rfl
  | (en, p, l) :: rest, w, g, h => by
    rw [storeFlags, storeFlags_other fun i hi he => ?_]
    · cases en with
      | false => rfl
      | true =>
        have hne : b ≠ base + g := h 0 (by simp) rfl
        by_cases hb : b < 32
        · simp [getLsbD_setBit _ _ _ _ hb, hne]
        · rw [BitVec.getLsbD_of_ge _ _ (by omega), BitVec.getLsbD_of_ge _ _ (by omega)]
    · have := h (i + 1) (by simpa using hi) (by simpa using he)
      omega

/-- A flag register whose bits differ at most in condition bits. -/
theorem flagged_kept {w : Writes} {off : Nat} {t v : Thread} {x : DWord} (h : Kept w off t v)
    (hx : ∀ b, ¬ ConditionBit w t off w.ctl.flagReg.toNat b →
      x.getLsbD b = (v.flag.getD w.ctl.flagReg.toNat 0#32).getLsbD b) :
    Kept w off t { v with flag := v.flag.setIfInBounds w.ctl.flagReg.toNat x } := by
  have hfr := frame_update h.frame (fun v => { v with flag := v.flag.setIfInBounds w.ctl.flagReg.toNat x }) fun _ => rfl
  refine { h with frame := hfr, flag := fun n r b hb => Eq.trans ?_ (h.flag n r b hb) }
  by_cases hr : r = w.ctl.flagReg.toNat
  · subst hr
    have hlt : w.ctl.flagReg.toNat < 2 := by cases w.ctl.flagReg <;> decide
    rw [← hx b hb]
    simp [Vector.getD, hlt]
  · by_cases hlt : r < 2
    · simp [Vector.getD, hlt, Ne.symm hr]
    · simp [Vector.getD, hlt]

/-- The conditions go to the flag bits of the enabled channels and, with AccWrCtrl, the results to the accumulator. -/
theorem storeConditions_kept {w : Writes} {off : Nat} {t v : Thread} {u : Usage} {outs : List (Bool × Place × Lane)}
    (h : Kept w off t v) (hf : u.writesFlags = w.toFlags)
    (ho : ∀ i (hi : i < outs.length), outs[i].1 = true → i < w.ctl.exec.channels ∧ w.enabled t off i = true) :
    Kept w off t (storeConditions w.ctl u off outs v) := by
  have acc {x : Thread} (hx : Kept w off t x) :
      Kept w off t (if w.ctl.accWr then { x with acc := storeAcc x.acc 0 outs } else x) := by
    split
    · rename_i ha
      have hfr := frame_update hx.frame (fun v => { v with acc := storeAcc v.acc 0 outs }) fun _ => rfl
      exact { hx with frame := hfr, acc := fun _ n => absurd ha (by simp [n]) }
    · exact hx
  refine acc ?_
  split
  · rename_i hw
    exact flagged_kept h fun b hb => storeFlags_other fun i hi he hbi =>
      hb ⟨hf ▸ hw, rfl, i, (ho i hi he).1, (ho i hi he).2, hbi⟩
  · exact h

/-! ### Completion -/

theorem goto_kept {w : Writes} {off : Nat} {t v : Thread} {a : DWord} (h : Kept w off t v) : Kept w off t (v.goto a) :=
  { h with frame := frame_update h.frame (Thread.goto · a) fun _ => rfl }

theorem advance_kept {w : Writes} {off n : Nat} {t v : Thread} (h : Kept w off t v) :
    Yields (Kept w off t) (v.advance n) := by
  intro u hu
  obtain ⟨_, rfl⟩ := Thread.advance_eq_ok.1 hu
  exact goto_kept h

/-- A change of `cr0` and the instruction pointer is within the writes of an instruction whose destination is `cr0`. -/
theorem control_kept {w : Writes} {off : Nat} {t v : Thread} (h : Kept w off t v) (hd : w.dst.archReg = some 8)
    {c : Vector DWord 3} {a : DWord} : Kept w off t { v with cr0 := c, ip := a } :=
  have hfr := frame_update h.frame (fun v => { v with cr0 := c, ip := a }) fun _ => rfl
  { h with frame := hfr, cr0 := fun n => absurd hd n }

theorem afterControlWrite_eq (before t : Thread) (sip : DWord) :
    ∃ c a, before.afterControlWrite t sip = { t with cr0 := c, ip := a } := by
  unfold Thread.afterControlWrite
  split
  · unfold Thread.returnFromRoutine
    dsimp only
    split <;> exact ⟨_, _, rfl⟩
  · split
    · unfold Thread.takeException
      dsimp only
      split <;> exact ⟨_, _, rfl⟩
    · exact ⟨_, _, rfl⟩

theorem completeAt_kept {w : Writes} {off : Nat} {before t v : Thread} {sip : DWord} {wr : Bool} (h : Kept w off t v) :
    Yields (Kept w off t) (completeAt before v sip w.ctl w.dst wr) := by
  unfold completeAt
  split
  · exact .bind fun a => .pure { h with
      frame := frame_update h.frame (fun v => { v with pcip := movePcip v.pcip before.ip a, ip := a }) fun _ => rfl }
  · rename_i hd
    refine .andThen (advance_kept h) fun u hu => .pure ?_
    obtain ⟨c, a, he⟩ := afterControlWrite_eq before u sip
    exact he ▸ control_kept hu hd
  · exact advance_kept h

/-! ### The template -/

/-- The channels do not depend on whether an operand is a double float, when they are legal (R49). -/
theorem channelOffset_double {k : Ctl} {b : Bool} {off : Nat} (h : channelOffset k b = .ok off) :
    channelOffset k true = .ok off := by
  obtain ⟨_, hr, h⟩ := Exec.bind_eq_ok.1 h
  refine Exec.bind_eq_ok.2 ⟨(), require_eq_ok.2 ?_, h⟩
  have := require_eq_ok.1 hr
  cases hn : k.nib <;> simp_all

/-- What the template leaves. -/
theorem templated_kept {s s' : State} {w : Writes} (hz : 0 ∈ w.shifts) (h : Templated s w s') :
    ∃ off t, channelOffset w.ctl true = .ok off ∧ s' = { s with eu := t } ∧ Kept w off s.eu t := by
  obtain ⟨u, lane, h, hf, he⟩ := h
  obtain ⟨off, lanes, places, t1, t2, hoff, _, _, hp, h1, h2, rfl⟩ := channelwise_eq_ok.1 h
  refine ⟨off, t2, channelOffset_double hoff, rfl, ?_⟩
  have hk1 : Kept w off s.eu t1 := by
    refine storeLanes_kept (.refl w off s.eu) (fun e hm hen => ?_) h1
    obtain ⟨c, hc, hec, hpc⟩ := mem_outs hp hm
    exact dstPlace_within hz hc (by rw [← he, ← hec, hen]) hpc
  refine completeAt_kept (storeConditions_kept hk1 hf fun i hi hen => ?_) t2 h2
  simp only [List.length_zip, List.length_map, List.length_range] at hi
  have hin : i < w.ctl.exec.channels := by omega
  refine ⟨hin, ?_⟩
  rw [← he]
  simpa using hen

/-! ### INT DIV with remainder -/

theorem nextArch_class {reg r : BitVec 8} {n : Nat} (h : nextArch reg n = .ok r) :
    (r.extractLsb' 4 4).toNat = (reg.extractLsb' 4 4).toNat := by
  obtain ⟨_, hr, h⟩ := Exec.bind_eq_ok.1 h
  have hr := require_eq_ok.1 hr
  cases h
  simp only [decide_eq_true_eq, BitVec.extractLsb'_toNat, BitVec.toNat_add, BitVec.toNat_ofNat,
    Nat.shiftRight_eq_div_pow] at hr ⊢
  have := reg.isLt
  omega

/-- A channel of an architecture register is in the destination also when the register is another of its class. -/
theorem nextArch_within {w : Writes} {o : MathOp} {off c n : Nat} {t : Thread} {p q : Place} {reg r : BitVec 8}
    {sub : BitVec 5} (hd : w.dst = .op o.dst) (hq : dstPlace t (.op o.dst) c = .ok q) (hn : ∀ a, q ≠ .grf a)
    (hl : o.dst.loc = .direct reg sub) (hr : nextArch reg n = .ok r)
    (hp : dstPlace t (.op { o.dst with loc := .direct r sub }) c = .ok p) : Within w off t p := by
  have hf : o.dst.file = .arf := by
    simp only [dstPlace, hl] at hq
    rcases placeAt_cases hq with ⟨_, a, ha⟩ | ⟨hf, _⟩
    · exact absurd ha (hn a)
    · exact hf
  have hclass : w.dst.archReg = Dest.archReg (.op { o.dst with loc := .direct r sub }) := by
    simp only [hd, Dest.archReg, hl, hf, nextArch_class hr]
  rcases dstPlace_cases hp with ⟨a, rfl⟩ | rfl | ⟨k, rfl, ha⟩ | ⟨reg', o', rfl, ha⟩
  · simp only [dstPlace, hf] at hp
    rcases placeAt_cases hp with ⟨hg, _⟩ | ⟨_, hx | ⟨_, hx, _⟩ | ⟨_, hx⟩⟩
    · cases hg
    all_goals cases hx
  · exact trivial
  · exact hclass.trans ha
  · exact hclass.trans ha

/-- The place of a remainder is the quotient's moved on by some registers, or in the same class of architecture registers. -/
theorem remainderPlace_within {w : Writes} {o : MathOp} {off c : Nat} {t : Thread} {p : Place} (hd : w.dst = .op o.dst)
    (hz : 32 * regsSpanned o ∈ w.shifts) (hc : c < w.ctl.exec.channels) (he : w.enabled t off c = true)
    (h : remainderPlace t o c = .ok p) : Within w off t p := by
  obtain ⟨q, hq, h⟩ := Exec.bind_eq_ok.1 h
  generalize hloc : o.dst.loc = loc at h
  split at h
  · obtain ⟨r, hr, hp⟩ := Exec.bind_eq_ok.1 h
    exact nextArch_within hd hq (fun a ha => by cases ha) hloc hr hp
  · obtain ⟨r, hr, hp⟩ := Exec.bind_eq_ok.1 h
    exact nextArch_within hd hq (fun a ha => by cases ha) hloc hr hp
  · cases q with
    | grf a =>
      obtain ⟨_, _, h⟩ := Exec.bind_eq_ok.1 h
      cases h
      exact fun b h1 h2 => ⟨c, a, _, hc, he, by rw [hd]; exact hq, hz, by omega, by omega⟩
    | null =>
      cases h
      exact trivial
    | arch _ _ => cases h
    | acc _ => cases h

/-- What a computing instruction that is not compact leaves. -/
theorem computing_kept {i : Instr} {w : Writes} {s s' : State} (hc : computing i = some w) (e : exec i s = .next s') :
    ∃ off t, channelOffset w.ctl true = .ok off ∧ s' = { s with eu := t } ∧ Kept w off s.eu t := by
  by_cases hq : ∃ o, i = .mathIntDivQr o
  · obtain ⟨o, rfl⟩ := hq
    cases hc
    obtain ⟨s1, off, lanes, places, t, h1, ho, hp, ht, rfl⟩ := mathPair_cases (Exec.outcome_eq_next.1 e)
    obtain ⟨off', t1, ho', rfl, hk⟩ := templated_kept (w := ⟨o.ctl, .op o.dst, false, true, [0, 32 * regsSpanned o]⟩)
      (by simp) (mathWith_templated s1 h1)
    have hoff : off = off' := Except.ok.inj ((channelOffset_double ho).symm.trans ho')
    subst hoff
    refine ⟨off, t, ho', rfl, storeLanes_kept (w := ⟨o.ctl, .op o.dst, false, true, [0, 32 * regsSpanned o]⟩) hk
      (fun x hm hen => ?_) ht⟩
    obtain ⟨c, hc, hec, hpc⟩ := mem_outs hp hm
    exact remainderPlace_within rfl (by simp) hc (Eq.trans hec.symm hen) hpc
  · have hz : 0 ∈ w.shifts := by
      cases i <;> cases hc <;> simp
    exact templated_kept hz (exec_templated hc (fun o ho => hq ⟨o, ho⟩) e)

/-! ### Compact instructions -/

/-- An expansion is a form of one, two or three sources, so its opcode has a row. -/
theorem isOpcode_of_expanded {w : BitVec 128} {j : Instr} (h : expanded w = .ok j) :
    isOpcode (w.extractLsb' 0 7) = true ∧ w.extractLsb' 0 7 ≠ 0#7 := by
  unfold expanded at h
  cases hd : decodeNative w with
  | error e =>
    rw [hd] at h
    cases h
  | ok sh =>
    rw [hd] at h
    dsimp only [bind, Except.bind] at h
    have hs : expandedShape sh ≠ none := by
      intro hn
      rw [hn] at h
      cases h
    have hl : (lookupCode (w.extractLsb' 0 7) oneTable).isSome = true ∨ (lookupCode (w.extractLsb' 0 7) twoTable).isSome = true ∨
        (lookupCode (w.extractLsb' 0 7) threeTable).isSome = true := by
      have hn := RoundTrip.native_of_decodeNative hd
      cases sh with
      | one op o =>
        obtain ⟨rfl, ht, _⟩ := hn
        exact .inl ht
      | two op o =>
        obtain ⟨rfl, ht, _⟩ := hn
        exact .inr (.inl ht)
      | three op o =>
        obtain ⟨rfl, ht, _⟩ := hn
        exact .inr (.inr ht)
      | _ => exact absurd rfl hs
    refine ⟨?_, fun h0 => ?_⟩
    · rcases hl with hl | hl | hl <;> simp [isOpcode, hl]
    · rw [h0] at hl
      revert hl
      decide

theorem expandTwo_opcode (table : List (BitVec 12)) (o : CompactTwo) : (expandTwo table o).extractLsb' 0 7 = o.op := by
  unfold expandTwo
  simp (disch := decide) only [BitVec.extractLsb'_append_eq_of_add_le, BitVec.extractLsb'_eq_self]

theorem expandThree_opcode (o : CompactThree) : (expandThree o).extractLsb' 0 7 = o.op := by
  unfold expandThree
  simp (disch := decide) only [BitVec.extractLsb'_append_eq_of_add_le, BitVec.extractLsb'_eq_self]

/-- A compact word that has an expansion runs it. -/
theorem run_of_execCompact {op : BitVec 7} {w : BitVec 128} {j : Instr} {s s' : State}
    {run : Instr → State → Host.Outcome State Fault Refusal} (ho : w.extractLsb' 0 7 = op) (hw : expanded w = .ok j)
    (e : execCompact op (expanded w) run s = .next s') : run j s = .next s' := by
  obtain ⟨h1, h2⟩ := isOpcode_of_expanded hw
  rw [ho] at h1 h2
  rcases execCompact_cases e with ⟨_, h | h⟩ | ⟨i, hi, h⟩
  · simp [h1, h2] at h
  · rw [hw] at h
    cases h
  · rw [hw] at hi
    cases hi
    exact h

/-- A compact instruction whose native one computes runs it. -/
theorem exec_native {i : Instr} {w : Writes} {s s' : State} (hc : computing (native i) = some w)
    (e : exec i s = .next s') : exec (native i) s = .next s' := by
  cases i with
  | compactTwo o =>
    cases hw : expanded (expandTwo Config.srcIndexTable o) with
    | error _ =>
      simp only [native, hw] at hc
      cases hc
    | ok j =>
      simp only [native, hw]
      exact (exec_of_execExpandedTwo (run_of_execCompact (expandTwo_opcode _ o) hw e)).1
  | compactThree o =>
    cases hw : expanded (expandThree o) with
    | error _ =>
      simp only [native, hw] at hc
      cases hc
    | ok j =>
      simp only [native, hw]
      exact (exec_of_execExpandedThree (run_of_execCompact (expandThree_opcode o) hw e)).1
  | _ => exact e

/-- Settles O48: the frame of the template, place by place. -/
theorem computingInstructionsWriteOnlyTheirDestination : Obligations.ComputingInstructionsWriteOnlyTheirDestination := by
  intro i w s s' hc e
  obtain ⟨off, t, ho, rfl, h⟩ := computing_kept hc (exec_native hc e)
  exact ⟨off, ho, rfl, h.frame, h.grf, h.flag, h.acc, h.a0, h.sp, h.sr0, h.cr0, h.n0, h.tdr0, h.tm0, h.dbg0⟩

end Sys2Proof.Proofs.ComputingFrames
end

section
/-! PROOF. Control transfers and the instructions that only advance (O19, O21 to O27), from their hypotheses on the state: each
meaning is run forward, part by part. -/

namespace Sys2Proof.Proofs.Control

open Sys2Proof.Machine Sys2Proof.Claims

/-! ### Parts of a branch -/

theorem require_true {r : Refusal} : require true r = .ok () := rfl

/-- The address that some channels go to, or none does (R99). -/
theorem reaches_eq_ok {s : State} {goes : Bool} {d : Int} {a next : DWord} (h : Reaches99 s goes d a next) :
    (if goes = true then branchTarget s.eu.ip d else pure next) = .ok a := by
  cases goes
  · exact congrArg Except.ok (Eq.symm h)
  · exact h

/-- The two ways of running what comes after an address that depends on whether a channel goes there. -/
theorem reaches_bind {α : Type} {s : State} {goes : Bool} {d : Int} {a next : DWord} (h : Reaches99 s goes d a next)
    (f : DWord → Exec α) :
    (if goes = true then branchTarget s.eu.ip d >>= f else (pure next : Exec DWord) >>= f) = f a := by
  cases goes
  · obtain rfl : a = next := h
    rfl
  · have h : branchTarget s.eu.ip d = .ok a := h
    simp only [if_true, h, Exec.ok_bind]

theorem branchBy_eq_ok {s : State} {k : Ctl} {off : Nat} {next dest ip : DWord} {d : Int} {jip : BitVec 32}
    (hb : BranchAt s k off next) (hd : Reaches99 s (anyBranch s.eu k off) d dest next)
    (hip : defaultIp s.eu (movedPcip s.eu (branching s.eu k off) dest next) next jip = .ok ip) :
    branchBy s k d jip = .ok (s.withPointers (movedPcip s.eu (branching s.eu k off) dest next) ip) := by
  obtain ⟨ho, hn⟩ := hb
  simp only [branchBy, ho, branchBytes, hn, Exec.ok_bind]
  refine (reaches_bind hd _).trans ?_
  simp only [hip, Exec.ok_bind, Exec.pure_eq]

theorem reconverge_eq_ok {t : Thread} {k : Ctl} {off : Nat} {next : DWord} (ho : channelOffset k false = .ok off)
    (hn : nextIp t.ip 16 = .ok next) : reconverge t k = .ok (movedPcip t (fun _ => false) next next, next) := by
  simp only [reconverge, ho, branchBytes, hn, Exec.ok_bind, Exec.pure_eq]

/-- The pointers of branched channels do not depend on channels that are not live. -/
theorem movedPcip_congr {t : Thread} {f g : Nat → Bool} {a n : DWord} (h : ∀ i, i < 32 → t.live i = true → f i = g i) :
    movedPcip t f a n = movedPcip t g a n := by
  unfold movedPcip
  congr 1
  funext i
  cases hl : t.live i.val
  · rfl
  · simp only [if_true, h i.val i.isLt hl]

theorem any_range_false {p : Nat → Bool} (h : (List.range 32).any p = false) {g : Nat} (hg : g < 32) : p g = false := by
  rw [List.any_eq_false] at h
  exact Bool.eq_false_iff.2 (h g (List.mem_range.2 hg))

/-- Where no channel branches, all live channels go on, wherever the target is. -/
theorem movedPcip_none {t : Thread} {k : Ctl} {off : Nat} {a n : DWord} (h : anyBranch t k off = false) :
    movedPcip t (branching t k off) a n = movedPcip t (fun _ => false) n n := by
  have hf : movedPcip t (branching t k off) a n = movedPcip t (fun _ => false) a n :=
    movedPcip_congr fun i hi _ => any_range_false h hi
  exact hf

/-! ### if, else -/

theorem ifFails_eq (t : Thread) (k : Ctl) (off g : Nat) :
    (if t.singleFlow = true then !branching t k off g else inWindow k off g && !branching t k off g) = ifFails t k off g := by
  unfold ifFails
  cases t.singleFlow <;> simp

theorem execIfOp_eq {s : State} {o : BranchTwo} {off : Nat} {next other ip : DWord} (hp : o.ctl.pred ≠ .none)
    (hb : BranchAt s o.ctl off next) (ho : Reaches99 s (someFail s.eu o.ctl off) o.jip.toInt other next)
    (hip : if someContinue s.eu o.ctl off then ip = next else branchTarget s.eu.ip o.jip.toInt = .ok ip) :
    exec (.ifOp o) s = .next (s.withPointers (movedPcip s.eu (ifFails s.eu o.ctl off) other next) ip) := by
  refine Exec.outcome_eq_next.2 ?_
  obtain ⟨hof, hn⟩ := hb
  simp only [bne_iff_ne.2 hp, require_true, hof, branchBytes, hn, Exec.ok_bind, ifFails_eq]
  refine (reaches_bind ho _).trans ?_
  change (if someContinue s.eu o.ctl off = true then _ else _) = _
  cases hc : someContinue s.eu o.ctl off <;> rw [hc] at hip
  · have hip : branchTarget s.eu.ip o.jip.toInt = .ok ip := hip
    simp [hip]
  · obtain rfl : ip = next := hip
    rfl

theorem execElseOp_eq {s : State} {o : BranchTwo} {off : Nat} {next dest ip : DWord} (ho : channelOffset o.ctl false = .ok off)
    (hn : nextIp s.eu.ip 16 = .ok next) (hd : Reaches99 s ((List.range 32).any s.eu.live) o.uip.toInt dest next)
    (hip : defaultIp s.eu (movedPcip s.eu (fun _ => true) dest next) next o.jip = .ok ip) :
    exec (.elseOp o) s = .next (s.withPointers (movedPcip s.eu (fun _ => true) dest next) ip) := by
  refine Exec.outcome_eq_next.2 ?_
  simp only [ho, branchBytes, hn, Exec.ok_bind]
  refine (reaches_bind hd _).trans ?_
  simp only [hip, Exec.ok_bind, Exec.pure_eq]

/-- Settles O21. -/
theorem ifAndElseDivideTheirChannels : Obligations.IfAndElseDivideTheirChannels :=
  ⟨fun _ _ _ _ _ _ => execIfOp_eq, fun _ _ _ _ _ _ => execElseOp_eq⟩

/-! ### break, cont, goto, halt, while -/

theorem execWhileOp_eq {s : State} {o : BranchOne} {v : BitVec 32} {off : Nat} {next back : DWord} (hv : o.off = .jip v)
    (hb : BranchAt s o.ctl off next) (hr : Reaches99 s (anyBranch s.eu o.ctl off) v.toInt back next) :
    exec (.whileOp o) s = .next (s.withPointers (movedPcip s.eu (branching s.eu o.ctl off) back next) back) := by
  refine Exec.outcome_eq_next.2 ?_
  obtain ⟨ho, hn⟩ := hb
  simp only [jipOf, hv, ho, branchBytes, hn, Exec.ok_bind]
  cases ha : anyBranch s.eu o.ctl off <;> rw [ha] at hr
  · obtain rfl : back = next := hr
    rw [movedPcip_none ha]
    rfl
  · have hr : branchTarget s.eu.ip v.toInt = .ok back := hr
    simp only [if_true, hr, Exec.ok_bind, Exec.pure_eq]

/-- Settles O22. -/
theorem branchesAndLoopsMoveTheirChannels : Obligations.BranchesAndLoopsMoveTheirChannels := by
  refine ⟨fun s o off next dest ip i d hb hi hd hip => ?_, fun _ _ _ _ _ _ => execWhileOp_eq⟩
  have h := branchBy_eq_ok hb hd hip
  rcases hi with ⟨rfl, rfl⟩ | ⟨rfl, rfl⟩ | ⟨rfl, rfl, hu, hj⟩ | ⟨rfl, rfl, hz⟩
  · exact Exec.outcome_eq_next.2 h
  · exact Exec.outcome_eq_next.2 h
  · refine Exec.outcome_eq_next.2 ?_
    simp only [hu, hj, decide_true, Bool.and_self, require_true, Exec.ok_bind, h]
  · exact Exec.outcome_eq_next.2 ((if_neg hz).trans h)

/-! ### jmpi -/

/-- Settles O23. -/
theorem jmpiJumpsTheThread : Obligations.JmpiJumpsTheThread := by
  intro s o off next a d hx hn hb hoff ha
  refine Exec.outcome_eq_next.2 ?_
  obtain ⟨ho, hnext⟩ := hb
  have hj : jmpiOffset s o = .ok d := by
    rcases hoff with ⟨hv, hd⟩ | ⟨r, hr, hty, hv⟩
    · simp only [jmpiOffset, hv, ← hd]
    · simp only [jmpiOffset, hr, hty, BEq.rfl, require_true, Exec.ok_bind, hv, Exec.pure_eq]
  simp only [hx, hn, BEq.rfl, Bool.not_false, require_true, ho, branchBytes, hnext, Exec.ok_bind]
  cases hp : predicateMask s.eu o.ctl off <;> rw [hp] at ha
  · obtain rfl : a = next := ha
    rfl
  · have ha : branchTarget next d = .ok a := ha
    simp only [if_true, hj, ha, Exec.ok_bind, Exec.pure_eq]

/-! ### call, calla, ret -/

theorem callTo_eq_ok {s : State} {o : BranchOne} {v : BitVec 32} {off p : Nat} {next dest : DWord} {target : Exec DWord}
    (hc : CallAt s o v off p next) (ha : anyBranch s.eu o.ctl off = true) (ht : target = .ok dest) :
    callTo s o target =
      .ok ((linked s o off p next).withPointers (movedPcip s.eu (branching s.eu o.ctl off) dest next) dest) := by
  obtain ⟨_, ⟨ho, hn⟩, hp, hfit⟩ := hc
  simp only [callTo, ho, branchBytes, hn, hp, hfit, decide_true, require_true, ha, ht, if_true, Exec.ok_bind, Exec.pure_eq]
  rfl

theorem callTo_none_eq_ok {s : State} {o : BranchOne} {v : BitVec 32} {off p : Nat} {next : DWord} {target : Exec DWord}
    (hc : CallAt s o v off p next) (ha : anyBranch s.eu o.ctl off = false) :
    callTo s o target = .ok (allGoOn s (linked s o off p next) next) := by
  obtain ⟨_, ⟨ho, hn⟩, hp, hfit⟩ := hc
  simp only [callTo, ho, branchBytes, hn, hp, hfit, decide_true, require_true, ha, Bool.false_eq_true, if_false, Exec.ok_bind,
    Exec.pure_eq]
  rfl

/-- The offset of a call (R129, R130). -/
theorem jipOf_call {s : State} {o : BranchOne} {v : BitVec 32} {off p : Nat} {next : DWord} (hc : CallAt s o v off p next) :
    jipOf o = .ok v := by
  unfold jipOf
  rw [hc.1]

theorem exec_call {s : State} {o : BranchOne} {v : BitVec 32} {off p : Nat} {next : DWord} {s' : State}
    (hc : CallAt s o v off p next) (h : callTo s o (branchTarget s.eu.ip v.toInt) = .ok s') : exec (.call o) s = .next s' := by
  refine Exec.outcome_eq_next.2 ?_
  simp only [jipOf_call hc, Exec.ok_bind, h]

theorem exec_calla {s : State} {o : BranchOne} {v : BitVec 32} {off p : Nat} {next : DWord} {s' : State}
    (hc : CallAt s o v off p next) (h : callTo s o (branchTarget 0#32 v.toInt) = .ok s') : exec (.calla o) s = .next s' := by
  refine Exec.outcome_eq_next.2 ?_
  simp only [jipOf_call hc, Exec.ok_bind, h]

/-- Whether a live channel stays behind where the others return (R131). -/
theorem stays_eq_false {t : Thread} {k : Ctl} {off : Nat} (h : ∀ g, g < 32 → t.live g = true → branching t k off g = true) :
    ((List.range 32).any fun g => t.live g && !branching t k off g) = false := by
  refine List.any_eq_false.2 fun g hg => ?_
  cases hl : t.live g
  · simp
  · simp [h g (List.mem_range.1 hg) hl]

theorem stays_eq_true {t : Thread} {k : Ctl} {off : Nat} (ha : anyBranch t k off = false) (h : ∃ g, g < 32 ∧ t.live g = true) :
    ((List.range 32).any fun g => t.live g && !branching t k off g) = true := by
  obtain ⟨g, hg, hl⟩ := h
  exact List.any_eq_true.2 ⟨g, List.mem_range.2 hg, by rw [hl, any_range_false ha hg]; rfl⟩

theorem execRet_eq {s : State} {o : BranchOne} {off : Nat} {next dest : DWord} {raw : QWord} (hb : BranchAt s o.ctl off next)
    (hr : readSrc s { o.src0 with ty := .ud } drawSrc0 0 = .ok raw) (hd : branchTarget 0#32 (raw.toNat : Int) = .ok dest)
    (hall : ∀ g, g < 32 → s.eu.live g = true → branching s.eu o.ctl off g = true) :
    exec (.ret o) s = .next (s.withPointers (movedPcip s.eu (fun _ => true) dest next)
      (if anyAt s.eu (movedPcip s.eu (fun _ => true) dest next) next then next else dest)) := by
  refine Exec.outcome_eq_next.2 ?_
  obtain ⟨ho, hn⟩ := hb
  simp only [ho, branchBytes, hn, hr, Exec.ok_bind, stays_eq_false hall, Bool.false_and, Bool.not_false, require_true,
    Bool.false_eq_true, if_false, hd, Exec.pure_eq, movedPcip_congr hall]

theorem execRet_none_eq {s : State} {o : BranchOne} {off : Nat} {next : DWord} {raw : QWord} (hb : BranchAt s o.ctl off next)
    (hr : readSrc s { o.src0 with ty := .ud } drawSrc0 0 = .ok raw) (ha : anyBranch s.eu o.ctl off = false)
    (hl : ∃ g, g < 32 ∧ s.eu.live g = true) : exec (.ret o) s = .next (allGoOn s s next) := by
  refine Exec.outcome_eq_next.2 ?_
  obtain ⟨ho, hn⟩ := hb
  simp only [ho, branchBytes, hn, hr, Exec.ok_bind, stays_eq_true ha hl, ha, Bool.and_false, Bool.not_false, require_true,
    if_true, Exec.pure_eq]
  rfl

/-- Settles O24. -/
theorem callsSaveAndReturnsRestore : Obligations.CallsSaveAndReturnsRestore :=
  ⟨fun _ _ _ _ _ _ _ hc ha ht => exec_call hc (callTo_eq_ok hc ha ht),
    fun _ _ _ _ _ _ hc ha => exec_call hc (callTo_none_eq_ok hc ha),
    fun _ _ _ _ _ _ _ hc ha ht => exec_calla hc (callTo_eq_ok hc ha ht),
    fun _ _ _ _ _ _ hc ha => exec_calla hc (callTo_none_eq_ok hc ha),
    fun _ _ _ _ _ _ => execRet_eq, fun _ _ _ _ _ => execRet_none_eq⟩

/-! ### endif, join, nop, wait, illegal -/

/-- Settles O26. -/
theorem nopAndReconvergencePointsAdvance : Obligations.NopAndReconvergencePointsAdvance := by
  refine ⟨⟨fun s o v off next ip hv ho hn => ⟨fun hip => ?_, fun hip => ?_⟩, fun s o off next hj hu ho hn => ?_⟩,
    fun s debug hip => ?_⟩ <;> refine Exec.outcome_eq_next.2 ?_
  · simp only [jipOf, hv, reconverge_eq_ok ho hn, Exec.ok_bind, hip, Exec.pure_eq]
  · simp only [jipOf, hv, reconverge_eq_ok ho hn, Exec.ok_bind]
    cases hl : (List.range 32).any s.eu.live <;> rw [hl] at hip
    · have hip : branchTarget s.eu.ip v.toInt = .ok ip := hip
      simp only [Bool.false_eq_true, if_false, hip, Exec.ok_bind, Exec.pure_eq]
    · obtain rfl : ip = next := hip
      rfl
  · simp only [hj, hu, and_self, if_true, reconverge_eq_ok ho hn, Exec.ok_bind, Exec.pure_eq]
  · have hn : s.eu.ip + 16#32 = BitVec.ofNat 32 (s.eu.ip.toNat + 16) := by
      simp [BitVec.ofNat_add]
    rw [Thread.advance_eq_ok.2 ⟨hip, rfl⟩, hn]
    rfl

/-- Settles O25. -/
theorem waitCountsNotifications : Obligations.WaitCountsNotifications := by
  intro s o k hx hp hk hnib
  have ho : channelOffset o.ctl false = .ok (8 * o.ctl.qtr.toNat) := by
    simp [channelOffset, hx, hnib, require_true]
    omega
  refine ⟨fun hn hip => Exec.outcome_eq_next.2 ?_, fun hn => Exec.outcome_eq_next.2 ?_⟩
  · simp only [hx, hp, BEq.rfl, Bool.and_self, require_true, ho, hk, Exec.ok_bind, if_neg hn,
      Thread.advance_eq_ok.2 ⟨hip, rfl⟩, Exec.pure_eq]
    rfl
  · simp only [hx, hp, BEq.rfl, Bool.and_self, require_true, ho, hk, Exec.ok_bind, if_pos hn, Exec.pure_eq]

/-- Settles O27. -/
theorem illegalTakesItsException : Obligations.IllegalTakesItsException := by
  refine fun s => ⟨fun hr he => Exec.outcome_eq_next.2 ?_, fun h => ?_⟩
  · simp only [raiseIllegal, hr, he, Bool.not_false, Bool.and_self, require_true, Exec.ok_bind, Exec.pure_eq]
  · have hf : (EuException.enabled .illegalOpcode s.eu && !s.eu.inRoutine) = false := by
      rcases h with h | h <;> simp [h]
    change (raiseIllegal s).outcome = _
    rw [raiseIllegal, hf]
    rfl

/-- Settles O19: these meanings are refusals. -/
theorem refusedInstructionsStop : Obligations.RefusedInstructionsStop :=
  ⟨fun _ _ => rfl, fun _ _ => rfl, fun _ _ => rfl, fun _ _ => rfl, fun _ _ => rfl, fun _ _ => rfl, fun _ _ => rfl⟩

end Sys2Proof.Proofs.Control
end

section
/-! PROOF. Reset (O1, O2), a thread's step (O4, O29), printed words (O7), exceptions (O28, O30). -/

namespace Sys2Proof.Proofs.Steps

open Sys2Proof.Machine Sys2Proof.Claims

/-! ### Reset -/

/-- Settles O1: the reset state, field by field. -/
theorem resetStateIsAsTheSpecSays : Obligations.ResetStateIsAsTheSpecSays := by
  refine ⟨rfl, rfl, rfl, rfl, rfl, rfl, rfl, fun e => ?_, fun u => ?_, rfl, rfl, fun n => ?_, rfl⟩
  · cases e <;> exact ⟨rfl, rfl, rfl, rfl, rfl, rfl, rfl, rfl, rfl, rfl, rfl⟩
  · cases u <;> rfl
  · change (Vector.replicate _ 0#32).getD n 0#32 = 0#32
    by_cases hn : n < 31
    · simp [Vector.getD, hn]
    · simp [Vector.getD, hn]

/-- Settles O2. -/
theorem resetMeetsTheInvariant : Obligations.ResetMeetsTheInvariant :=
  ⟨rfl, rfl, fun _ h => nomatch h⟩

/-- Settles O7: the decoder evaluated on each word. -/
theorem printedWordsDecode : Obligations.PrintedWordsDecode :=
  ⟨rfl, rfl, rfl, ⟨_, rfl, rfl, rfl, rfl⟩, ⟨_, rfl, rfl⟩, rfl⟩

/-! ### A thread's step -/

/-- The step of a running thread whose turn it is. -/
theorem step_of_threadActs {s u : State} (h : ThreadActs s u) : step s = ticked u.runThread := by
  obtain ⟨tid, ht, rfl, hr⟩ := h
  simp only [step, State.once, ht, State.act, State.runCurrent, hr]

theorem runThread_of_fetch {u : State} {w : BitVec 128} (hf : u.fetch = .ok w)
    (hd : debugBit w = false ∨ u.eu.suppressed = true) : u.runThread = u.executeWord w := by
  have hc : (debugBit w && !u.eu.suppressed) = false := by
    rcases hd with h | h <;> simp [h]
  simp only [State.runThread, hf, hc, Bool.false_eq_true, if_false]

theorem executeWord_of_decode {u : State} {w : BitVec 128} {i : Instr} (hd : decode w = .ok i) (hb : u.blocked i = false) :
    u.executeWord w = match exec i (u.markRaces i) with
      | .next s1 => .next (afterInstruction u i s1)
      | .fault f => .fault f
      | .refused r => .refused r := by
  simp only [State.executeWord, hd, State.issue, hb, Bool.false_eq_true, if_false]
  rfl

theorem markRaces_nil {s : State} (i : Instr) (h : s.pending = []) : s.markRaces i = s := by
  unfold State.markRaces
  split
  · dsimp only
    rw [h, List.map_nil, ← h]
  · rfl

/-- Settles O4. -/
theorem stepRunsTheDecodedInstruction : Obligations.StepRunsTheDecodedInstruction := by
  intro s u w i ha hf hdec hdbg hb
  have h : step s = ticked _ := (step_of_threadActs ha).trans
    (congrArg ticked ((runThread_of_fetch hf hdbg).trans (executeWord_of_decode hdec hb)))
  refine ⟨fun s1 he => ?_, fun f he => ?_, fun r he => ?_, markRaces_nil i⟩ <;> rw [h, he] <;> rfl

/-- Settles O29. -/
theorem breakpointTrapsBeforeTheInstruction : Obligations.BreakpointTrapsBeforeTheInstruction := by
  intro s u w ha hf hd hs hr
  have hsip : s.ctx.sip = u.ctx.sip := by
    obtain ⟨tid, _, rfl, _⟩ := ha
    rcases State.withThread_cases s tid with h | ⟨_, _, _, _, h⟩ <;> rw [h]
  rw [step_of_threadActs ha, State.runThread, hf, hsip]
  simp only [hd, hs, hr, Bool.not_false, Bool.and_self, if_true, Bool.false_eq_true, if_false]
  rfl

/-! ### Exceptions -/

theorem getD_setIfInBounds {n : Nat} (v : Vector DWord n) (i j : Nat) (x : DWord) (hi : i < n) :
    (v.setIfInBounds i x).getD j 0#32 = if i = j then x else v.getD j 0#32 := by
  by_cases hj : j < n
  · simp [Vector.getD, hj, Array.getElem_setIfInBounds]
  · simp [Vector.getD, hj, show i ≠ j by omega]

/-- A register of `cr0` after a bit is replaced. -/
theorem cr0_setCr0Bit (t : Thread) (k bit r : Nat) (b : Bool) (hk : k < 3) :
    (t.setCr0Bit k bit b).cr0.getD r 0#32 = if k = r then setBit (t.cr0.getD k 0#32) bit b else t.cr0.getD r 0#32 :=
  getD_setIfInBounds _ _ _ _ hk

/-- A register of `cr0` after the system routine is entered (R544). -/
theorem cr0_enterRoutine (t : Thread) (sip : DWord) (r : Nat) : (t.enterRoutine sip).cr0.getD r 0#32 =
    if r = 0 then setBit (t.cr0.getD 0 0#32) 31 true else if r = 2 then t.ip else t.cr0.getD r 0#32 := by
  refine (cr0_setCr0Bit { t with cr0 := t.cr0.setIfInBounds 2 t.ip } 0 31 r true (by decide)).trans ?_
  simp only [getD_setIfInBounds _ _ _ _ (show 2 < 3 by decide), @eq_comm _ 0 r, @eq_comm _ 2 r,
    show ¬ (2 = 0) by decide, if_false]

theorem inRoutine_enterRoutine (t : Thread) (sip : DWord) : (t.enterRoutine sip).inRoutine = true := by
  unfold Thread.inRoutine
  rw [cr0_enterRoutine, if_pos rfl, getLsbD_setBit _ _ _ _ (by decide)]
  rfl

theorem takeException_inside {t : Thread} (sip : DWord) (e : EuException) (h : t.inRoutine = true) :
    t.takeException sip e = t.setCr0Bit 1 e.status true := if_pos h

theorem takeException_outside {t : Thread} (sip : DWord) (e : EuException) (h : t.inRoutine = false) :
    t.takeException sip e = (t.setCr0Bit 1 e.status true).enterRoutine sip := if_neg (by rw [h]; decide)

/-- Settles O28. -/
theorem trapEntrySavesAndJumps : Obligations.TrapEntrySavesAndJumps := by
  intro t sip e r b hb
  have hbit : (setBit (t.cr0.getD 1 0#32) e.status true).getLsbD b =
      (decide (b = e.status) || (t.cr0.getD 1 0#32).getLsbD b) := by
    rw [getLsbD_setBit _ _ _ _ hb]
    by_cases h : b = e.status <;> simp [h]
  cases h : t.inRoutine
  · rw [takeException_outside sip e h]
    refine ⟨rfl, ?_, fun _ => ⟨rfl, ?_, inRoutine_enterRoutine _ _, fun h31 => ?_⟩, fun h => Bool.noConfusion h⟩
    · rw [cr0_enterRoutine, if_neg (by decide), if_neg (by decide), cr0_setCr0Bit _ _ _ _ _ (by decide)]
      exact hbit
    · rw [cr0_enterRoutine]
      rfl
    · rw [cr0_enterRoutine, if_pos rfl, getLsbD_setBit _ _ _ _ hb, if_neg h31, cr0_setCr0Bit _ _ _ _ _ (by decide)]
      rfl
  · rw [takeException_inside sip e h]
    refine ⟨rfl, ?_, fun h => Bool.noConfusion h, fun _ => ⟨rfl, fun hr => ?_⟩⟩
    · rw [cr0_setCr0Bit _ _ _ _ _ (by decide)]
      exact hbit
    · rw [cr0_setCr0Bit _ _ _ _ _ (by decide), if_neg (Ne.symm hr)]

/-- Settles O30. -/
theorem trapReturnRestoresTheAddress : Obligations.TrapReturnRestoresTheAddress := by
  intro before t sip hb ht
  have h : before.afterControlWrite t sip = t.returnFromRoutine sip := if_pos (by rw [hb, ht]; rfl)
  refine ⟨fun hp => ?_, fun hp => ?_⟩ <;> rw [h, Thread.returnFromRoutine, hp]
  · rfl
  · refine ⟨rfl, inRoutine_enterRoutine _ _, ?_, ?_⟩ <;> exact cr0_enterRoutine _ _ _

end Sys2Proof.Proofs.Steps
end

section
/-! PROOF. What the computing instructions give (O8 to O18, O20): the template runs where every channel's result is known; one rule
for each shape of instruction, then each instruction's operation. -/

namespace Sys2Proof.Proofs.Results

open Sys2Proof.Machine Sys2Proof.Claims
open Sys2Proof.Proofs.Ports (require_ok)

/-! ### The shapes -/

/-- The template completes with the channels' results (R96). -/
theorem channelwise_of_template {s : State} {k : Ctl} {d : Dest} {u : Usage} {lane : Nat → Exec Lane} {v : Nat → Lane}
    {t : Thread} (hl : ∀ c, c < k.exec.channels → lane c = .ok (v c)) (h : Template s k d u v t) :
    channelwise s k d u lane = .ok { s with eu := t } := by
  obtain ⟨off, place, t1, hoff, hflags, hplace, hstore, hdone⟩ := h
  have hz : ((List.range k.exec.channels).map (laneEnabled s.eu k u d off)).zip
      (((List.range k.exec.channels).map place).zip ((List.range k.exec.channels).map v)) =
      outputs s k d u off place v := by
    rw [List.zip_map', List.zip_map']
    rfl
  refine channelwise_eq_ok.2 ⟨off, _, _, t1, t, hoff, hflags, sequence_map_ok _ v _ fun c hc => hl c (List.mem_range.1 hc),
    sequence_map_ok _ place _ fun c hc => hplace c (List.mem_range.1 hc), ?_, ?_, rfl⟩ <;> rw [hz]
  · exact hstore
  · exact hdone

theorem checkFloatMode_ok {t : Thread} {types : List RType} (h : FloatMode t types) : checkFloatMode t types = .ok () := by
  refine require_eq_ok.2 ?_
  rcases h with h | h
  · simp [h]
  · have hn : (types.any fun ty => !RType.isInt ty) = false := by
      simpa [List.any_eq_false] using h
    simp [hn]

theorem unary_ok {s : State} {o : OneSrc} {op : QWord → Val → Exec Val} {x v : Nat → Val} {t : Thread}
    (hr : Reads1 s o x) (hop : ∀ c, c < o.ctl.exec.channels → op (s.draw c drawResult) (x c) = .ok (v c))
    (ht : Template s o.ctl (.op o.dst) (plainUsage o.cond (oneTypes o))
      (fun c => finishLane s o.ctl o.cond o.dst.ty c (v c)) t) : unary s o op = .ok { s with eu := t } := by
  obtain ⟨hm, hx⟩ := hr
  rw [unary, checkFloatMode_ok hm, Exec.ok_bind]
  refine channelwise_of_template (fun c hc => ?_) ht
  simp only [hx c hc, hop c hc, Exec.ok_bind, Exec.pure_eq]

theorem binary_ok {s : State} {o : TwoSrc} {op : QWord → Val → Val → Exec Val} {x y v : Nat → Val} {t : Thread}
    (hr : Reads2 s o x y) (hop : ∀ c, c < o.ctl.exec.channels → op (s.draw c drawResult) (x c) (y c) = .ok (v c))
    (ht : Template s o.ctl (.op o.dst) (plainUsage o.cond (twoTypes o))
      (fun c => finishLane s o.ctl o.cond o.dst.ty c (v c)) t) : binary s o op = .ok { s with eu := t } := by
  obtain ⟨hm, ⟨h1, h2⟩, hxy⟩ := hr
  simp only [binary, checkFloatMode_ok hm, h1, h2, Exec.ok_bind]
  refine channelwise_of_template (fun c hc => ?_) ht
  obtain ⟨hx, hy⟩ := hxy c hc
  simp only [hx, hy, hop c hc, Exec.ok_bind, Exec.pure_eq]

theorem ternary_ok {s : State} {o : ThreeSrc} {flags : Bool} {op : QWord → QWord → Val → Val → Val → Exec Val}
    {x y z v : Nat → Val} {t : Thread} (hr : Reads3 s o x y z)
    (hop : ∀ c, c < o.ctl.exec.channels → op (s.draw c drawResult) (s.draw c drawOrder) (x c) (y c) (z c) = .ok (v c))
    (ht : Template s o.ctl (triDest o)
      { plainUsage o.cond (threeTypes o) with writesFlags := flags && (plainUsage o.cond (threeTypes o)).writesFlags }
      (fun c => finishLane s o.ctl o.cond o.dstTy.toR c (v c)) t) : ternary s o flags op = .ok { s with eu := t } := by
  obtain ⟨hm, hxyz⟩ := hr
  rw [ternary, checkFloatMode_ok hm, Exec.ok_bind]
  refine channelwise_of_template (fun c hc => ?_) ht
  obtain ⟨hx, hy, hz⟩ := hxyz c hc
  simp only [hx, hy, hz, hop c hc, Exec.ok_bind, Exec.pure_eq]

/-- A numeric instruction on integers. -/
theorem numeric_ints_ok {s : State} {o : TwoSrc} {onInts : Int → Int → Exec Int}
    {onFloats : FloatEnv → Fmt → QWord → Nat → Nat → Exec Nat} {a b v : Nat → Int} {t : Thread}
    (hr : Reads2 s o (fun c => .int (a c)) (fun c => .int (b c))) (hop : ∀ c, onInts (a c) (b c) = .ok (v c))
    (ht : Template s o.ctl (.op o.dst) (plainUsage o.cond (twoTypes o))
      (fun c => finishLane s o.ctl o.cond o.dst.ty c (.int (v c))) t) :
    numeric s o onInts onFloats = .ok { s with eu := t } :=
  binary_ok (v := fun c => .int (v c)) hr (fun c _ => by simp only [unify, Exec.ok_bind, hop c, Exec.pure_eq]) ht

/-- A numeric instruction on floats. -/
theorem numeric_floats_ok {s : State} {o : TwoSrc} {onInts : Int → Int → Exec Int}
    {onFloats : FloatEnv → Fmt → QWord → Nat → Nat → Exec Nat} {x y : Nat → Val} {p : Fmt} {a b v : Nat → Nat} {t : Thread}
    (hr : Reads2 s o x y)
    (hu : ∀ c, c < o.ctl.exec.channels → unify s.eu.floatEnv (s.draw c drawResult) (x c) (y c) = .ok (.flts p (a c) (b c)))
    (hop : ∀ c, onFloats s.eu.floatEnv p (s.draw c drawResult) (a c) (b c) = .ok (v c))
    (ht : Template s o.ctl (.op o.dst) (plainUsage o.cond (twoTypes o))
      (fun c => finishLane s o.ctl o.cond o.dst.ty c (.flt p (v c))) t) :
    numeric s o onInts onFloats = .ok { s with eu := t } :=
  binary_ok (v := fun c => .flt p (v c)) hr (fun c hc => by simp only [hu c hc, Exec.ok_bind, hop c, Exec.pure_eq]) ht

/-! ### Moves and logic -/

theorem move_ok {s : State} {o : OneSrc} {raw : Nat → QWord} {t : Thread} (hm : FloatMode s.eu (oneTypes o))
    (hr : ∀ c, c < o.ctl.exec.channels → readSource s o.src0 drawSrc0 c = .ok (raw c))
    (ht : Template s o.ctl (.op o.dst) (plainUsage o.cond (oneTypes o)) (movedLane s o raw) t) :
    move s o = .ok { s with eu := t } := by
  rw [move, checkFloatMode_ok hm, Exec.ok_bind]
  refine channelwise_of_template (fun c hc => ?_) ht
  unfold moveLane movedLane
  split
  · simp only [hr c hc, Exec.ok_bind, Exec.pure_eq]
  · simp only [sourceValue, hr c hc, Exec.ok_bind, Exec.pure_eq]

/-- Settles O8. -/
theorem moveGivesSourceConverted : Obligations.MoveGivesSourceConverted :=
  fun _ _ _ _ hm hr ht => ⟨Exec.outcome_eq_next.2 (move_ok hm hr ht), Exec.outcome_eq_next.2 (move_ok hm hr ht)⟩

theorem selectByCondition_ok {s : State} {o : TwoSrc} {x y v : Nat → Val} {t : Thread}
    (hxy : ∀ c, c < o.ctl.exec.channels →
      sourceValue s (.reg o.src0) drawSrc0 c = .ok (x c) ∧ sourceValue s o.src1 drawSrc1 c = .ok (y c))
    (hv : ∀ c, c < o.ctl.exec.channels →
       (∃ a b, unify s.eu.floatEnv (s.draw c drawResult) (x c) (y c) = .ok (.ints a b) ∧
         v c = .int (if CondMod.picks o.cond (s.draw c drawOrder) (some (compareInt a b)) then a else b)) ∨
       (∃ p a b, unify s.eu.floatEnv (s.draw c drawResult) (x c) (y c) = .ok (.flts p a b) ∧
         v c = .flt p (selectFloat s.eu.floatEnv p (s.draw c drawResult) (s.draw c drawOrder) o.cond a b)))
    (ht : Template s o.ctl (.op o.dst) { plainUsage o.cond (twoTypes o) with writesFlags := false }
       (fun c => finishLane s o.ctl o.cond o.dst.ty c (v c)) t) : selectByCondition s o = .ok { s with eu := t } := by
  refine channelwise_of_template (fun c hc => ?_) ht
  obtain ⟨hx, hy⟩ := hxy c hc
  rcases hv c hc with ⟨a, b, hu, hv⟩ | ⟨p, a, b, hu, hv⟩ <;> simp only [hx, hy, hu, hv, Exec.ok_bind, Exec.pure_eq]

theorem selectByPredicate_ok {s : State} {o : TwoSrc} {x y : Nat → Val} {off : Nat} {t : Thread}
    (hxy : ∀ c, c < o.ctl.exec.channels →
      sourceValue s (.reg o.src0) drawSrc0 c = .ok (x c) ∧ sourceValue s o.src1 drawSrc1 c = .ok (y c))
    (ho : channelOffset o.ctl (usesDouble (twoTypes o)) = .ok off)
    (ht : Template s o.ctl (.op o.dst) { plainUsage o.cond (twoTypes o) with predicateGates := false }
       (fun c => finishLane s o.ctl o.cond o.dst.ty c (movedValue s.eu.floatEnv (s.draw c drawResult)
         (if predicateMask s.eu o.ctl (off + c) then x c else y c))) t) :
    selectByPredicate s o = .ok { s with eu := t } := by
  rw [selectByPredicate, ho, Exec.ok_bind]
  refine channelwise_of_template (fun c hc => ?_) ht
  obtain ⟨hx, hy⟩ := hxy c hc
  simp only [hx, hy, Exec.ok_bind, Exec.pure_eq]

/-- Settles O9. -/
theorem selectGivesTheChosenSource : Obligations.SelectGivesTheChosenSource := by
  refine ⟨fun s o x y v t hr hp hc hv ht => Exec.outcome_eq_next.2 ?_,
    fun s o x y off t hr hp hc ho ht => Exec.outcome_eq_next.2 ?_⟩ <;> obtain ⟨hm, ⟨h1, h2⟩, hxy⟩ := hr
  · simp only [checkFloatMode_ok hm, h1, h2, hp, hc, decide_true, decide_false, Exec.ok_bind]
    exact selectByCondition_ok hxy hv ht
  · simp only [checkFloatMode_ok hm, h1, h2, hp, hc, decide_true, decide_false, Exec.ok_bind]
    exact selectByPredicate_ok hxy ho ht

theorem logicUnary_ok {s : State} {o : OneSrc} {op : Int → Int} {a : Nat → Int} {t : Thread}
    (hi : RType.isInt o.dst.ty = true) (ha : ∀ c, c < o.ctl.exec.channels → logicValue s o.src0 true drawSrc0 c = .ok (a c))
    (ht : Template s o.ctl (.op o.dst) (plainUsage o.cond (oneTypes o))
      (fun c => finishNot s o.ctl o.cond o.dst.ty c (op (a c))) t) : logicUnary s o op = .ok { s with eu := t } := by
  rw [logicUnary, require_ok hi, Exec.ok_bind]
  exact channelwise_of_template (fun c hc => by simp only [ha c hc, Exec.ok_bind, Exec.pure_eq]) ht

theorem logicBinary_ok {s : State} {o : TwoSrc} {op : Int → Int → Int} {a b : Nat → Int} {t : Thread}
    (hi : RType.isInt o.dst.ty = true) (h1 : Source1 o)
    (hab : ∀ c, c < o.ctl.exec.channels →
      logicValue s (.reg o.src0) false drawSrc0 c = .ok (a c) ∧ logicValue s o.src1 false drawSrc1 c = .ok (b c))
    (ht : Template s o.ctl (.op o.dst) (plainUsage o.cond (twoTypes o))
      (fun c => finishLane s o.ctl o.cond o.dst.ty c (.int (op (a c) (b c)))) t) :
    logicBinary s o op = .ok { s with eu := t } := by
  simp only [logicBinary, require_ok hi, h1.1, h1.2, Exec.ok_bind]
  refine channelwise_of_template (fun c hc => ?_) ht
  obtain ⟨ha, hb⟩ := hab c hc
  simp only [ha, hb, Exec.ok_bind, Exec.pure_eq]

/-- Settles O10. -/
theorem logicGivesBitwiseResult : Obligations.LogicGivesBitwiseResult := by
  refine ⟨fun s o a t hi ha ht => Exec.outcome_eq_next.2 (logicUnary_ok hi ha ht),
    fun s o a b t i op hi h1 hab hop ht => ?_⟩
  have h := logicBinary_ok hi h1 hab ht
  rcases hop with ⟨rfl, rfl⟩ | ⟨rfl, rfl⟩ | ⟨rfl, rfl⟩ <;> exact Exec.outcome_eq_next.2 h

/-! ### Arithmetic -/

/-- What `mul` checks (R141). -/
theorem mul_control {o : TwoSrc}
    (h : (isDword o.src0.ty && isDword (Src.elemType o.src1)) = false ∨ (o.ctl.sat = false ∧ o.cond = .none)) :
    (!(isDword o.src0.ty && isDword (Src.elemType o.src1) && (o.ctl.sat || o.cond != .none))) = true := by
  rcases h with h | ⟨hs, hc⟩
  · simp [h]
  · simp [hs, hc]

theorem exec_mul {s s' : State} {o : TwoSrc}
    (hc : (isDword o.src0.ty && isDword (Src.elemType o.src1)) = false ∨ (o.ctl.sat = false ∧ o.cond = .none))
    (h : numeric s o (fun a b => .ok (a * b)) (fun v p free a b => .ok (fmul v p free a b)) = .ok s') :
    exec (.mul o) s = .next s' := by
  refine Exec.outcome_eq_next.2 ?_
  rw [require_ok (mul_control hc), Exec.ok_bind]
  exact h

/-- Settles O11. -/
theorem arithmeticGivesItsResult : Obligations.ArithmeticGivesItsResult := by
  refine ⟨fun s o a b hr => ⟨fun t ht => ?_, fun hc t ht => ?_, fun t ht => ?_, fun t ht => ?_, fun t ht => ?_, fun t ht => ?_⟩,
    fun s o x y p a b hr hu => ⟨fun t ht => ?_, fun hc t ht => ?_, fun i hi t ht => ?_⟩⟩
  · exact Exec.outcome_eq_next.2 (numeric_ints_ok hr (fun _ => rfl) ht)
  · exact exec_mul hc (numeric_ints_ok hr (fun _ => rfl) ht)
  · exact Exec.outcome_eq_next.2 (numeric_ints_ok hr (fun _ => rfl) ht)
  · exact Exec.outcome_eq_next.2 (numeric_ints_ok hr (fun _ => rfl) ht)
  · exact Exec.outcome_eq_next.2 (numeric_ints_ok hr (fun _ => rfl) ht)
  · exact Exec.outcome_eq_next.2 (numeric_ints_ok hr (fun _ => rfl) ht)
  · exact Exec.outcome_eq_next.2 (numeric_floats_ok hr hu (fun _ => rfl) ht)
  · exact exec_mul (.inl hc) (numeric_floats_ok hr hu (fun _ => rfl) ht)
  · simp only [List.mem_cons, List.not_mem_nil, or_false] at hi
    rcases hi with rfl | rfl | rfl | rfl <;>
      exact Exec.outcome_eq_next.2 (numeric_floats_ok hr hu (fun _ => rfl) ht)

theorem carryOp_ok {s : State} {o : TwoSrc} {satAllowed : Bool} {op : Int → Int → Int} {carry : Int → Int → Bool}
    {a b : Nat → Int} {t : Thread} (hr : Reads2 s o (fun c => .int (a c)) (fun c => .int (b c)))
    (hty : twoTypes o = [.ud, .ud, .ud]) (hacc : o.ctl.accWr = true) (hsat : satAllowed = true ∨ o.ctl.sat = false)
    (ht : Template s o.ctl (.op o.dst) (plainUsage o.cond (twoTypes o))
      (fun c => { finishLane s o.ctl o.cond o.dst.ty c (.int
          (if o.ctl.sat && (s.draw c drawOrder).getLsbD 0 then clampInt .ud (op (a c) (b c)) else low32 (op (a c) (b c)))) with
        acc := ⟨BitVec.ofNat 64 (carry (a c) (b c)).toNat, true⟩ }) t) :
    carryOp s o satAllowed op carry = .ok { s with eu := t } := by
  obtain ⟨_, ⟨h1, _⟩, hxy⟩ := hr
  have hs : (o.ctl.accWr && (satAllowed || !o.ctl.sat)) = true := by
    rcases hsat with h | h <;> simp [hacc, h]
  simp only [carryOp, require_ok (beq_iff_eq.2 hty), require_ok hs, h1, Exec.ok_bind]
  refine channelwise_of_template (fun c hc => ?_) ht
  obtain ⟨hx, hy⟩ := hxy c hc
  simp only [hx, hy, theInt, Exec.ok_bind, Exec.pure_eq]

/-- Settles O15. -/
theorem carryAndBorrowGoToTheAccumulator : Obligations.CarryAndBorrowGoToTheAccumulator := by
  intro s o a b t i r carry hr hty hacc hi ht
  rcases hi with ⟨rfl, hs, rfl, rfl⟩ | ⟨rfl, rfl, rfl⟩
  · exact Exec.outcome_eq_next.2 (carryOp_ok hr hty hacc (.inr hs) ht)
  · exact Exec.outcome_eq_next.2 (carryOp_ok hr hty hacc (.inl rfl) ht)

theorem accumulate_ok {s : State} {o : TwoSrc} {x y : Nat → Val} {p : Option Fmt} {t : Thread} (hr : Reads2 s o x y)
    (hu : ∀ c, c < o.ctl.exec.channels →
      match p with
      | none => ∃ a b, unify s.eu.floatEnv (s.draw c drawResult) (x c) (y c) = .ok (.ints a b)
      | some q => ∃ a b, unify s.eu.floatEnv (s.draw c drawResult) (x c) (y c) = .ok (.flts q a b))
    (ht : Template s o.ctl (.op o.dst) (plainUsage o.cond (twoTypes o))
      (fun c => finishLane s o.ctl o.cond o.dst.ty c (accResult s p c)) t) : accumulate s o = .ok { s with eu := t } := by
  obtain ⟨hm, ⟨h1, h2⟩, hxy⟩ := hr
  simp only [accumulate, checkFloatMode_ok hm, h1, h2, Exec.ok_bind]
  refine channelwise_of_template (fun c hc => ?_) ht
  obtain ⟨hx, hy⟩ := hxy c hc
  cases p with
  | none =>
    obtain ⟨a, b, hu⟩ := hu c hc
    simp only [hx, hy, hu, Exec.ok_bind, Exec.pure_eq]
  | some q =>
    obtain ⟨a, b, hu⟩ := hu c hc
    simp only [hx, hy, hu, Exec.ok_bind, Exec.pure_eq]

/-- Settles O16. -/
theorem accumulatorInstructionsComplete : Obligations.AccumulatorInstructionsComplete := by
  intro s o x y p hr hu
  refine ⟨fun t ht => Exec.outcome_eq_next.2 (accumulate_ok hr hu ht), fun hacc t ht => Exec.outcome_eq_next.2 ?_⟩
  rw [require_ok hacc, Exec.ok_bind]
  exact accumulate_ok hr hu ht

/-! ### Bit fields -/

theorem bitCount_ok {s : State} {o : OneSrc} {count : Int → Int} {a : Nat → Int} {t : Thread} {stated : Bool}
    (hst : stated = true) (hr : Reads1 s o (fun c => .int (a c)))
    (ht : Template s o.ctl (.op o.dst) (plainUsage o.cond (oneTypes o))
      (fun c => finishLane s o.ctl o.cond o.dst.ty c (.int (count (a c)))) t) :
    bitCount s o stated count = .ok { s with eu := t } :=
  unary_ok (v := fun c => .int (count (a c))) hr (fun c _ => by rw [hst]; rfl) ht

theorem bitCount_open_ok {s : State} {o : OneSrc} {count : Int → Int} {x : Nat → Val} {t : Thread} {stated : Bool}
    (hst : stated = false) (hr : Reads1 s o x)
    (ht : Template s o.ctl (.op o.dst) (plainUsage o.cond (oneTypes o))
      (fun c => finishLane s o.ctl o.cond o.dst.ty c (openResult o.dst.ty (s.draw c drawResult))) t) :
    bitCount s o stated count = .ok { s with eu := t } :=
  unary_ok (v := fun c => openResult o.dst.ty (s.draw c drawResult)) hr (fun c _ => by rw [hst]; rfl) ht

theorem exec_bfrev_ok {s : State} {o : OneSrc} {a : Nat → Int} (hr : Reads1 s o (fun c => .int (a c)))
    (hty : oneTypes o = [.ud, .ud]) : Gives1 s o (.bfrev o) (fun c => .int (reverse32 (low32 (a c)))) := by
  intro t ht
  refine Exec.outcome_eq_next.2 ?_
  rw [require_ok (beq_iff_eq.2 hty), Exec.ok_bind]
  exact unary_ok hr (fun c _ => rfl) ht

theorem exec_bfi1_ok {s : State} {o : TwoSrc} {a b : Nat → Int} (hr : Reads2 s o (fun c => .int (a c)) (fun c => .int (b c)))
    (hty : (twoTypes o).all isDword = true) : Gives2 s o (.bfi1 o) (fun c => .int (fieldMask (a c) (b c))) :=
  fun _ ht => Exec.outcome_eq_next.2 (binary_ok hr (fun c _ => by rw [hty]; rfl) ht)

theorem exec_bfi1_open_ok {s : State} {o : TwoSrc} {x y : Nat → Val} (hr : Reads2 s o x y)
    (hty : (twoTypes o).all isDword = false) :
    Gives2 s o (.bfi1 o) (fun c => openResult o.dst.ty (s.draw c drawResult)) :=
  fun _ ht => Exec.outcome_eq_next.2 (binary_ok hr (fun c _ => by rw [hty]; rfl) ht)

/-- Settles O12. -/
theorem bitFieldInstructionsGiveTheirValue : Obligations.BitFieldInstructionsGiveTheirValue := by
  refine ⟨fun s o a hr => ⟨exec_bfrev_ok hr, fun hty => ⟨?_, ?_⟩, fun hty => ?_, fun hst => ?_⟩,
    fun s o a b hr hty => exec_bfi1_ok hr hty, fun s o a b d hr => ⟨?_, ?_⟩, fun s o x y z p a hr hx i hi => ?_,
    fun s o x hr => ⟨fun hty i hi => ?_, fun hty => ?_, fun hst => ?_⟩, fun s o x y hr hty => exec_bfi1_open_ok hr hty⟩
  · exact fun t ht => Exec.outcome_eq_next.2 (bitCount_ok (beq_iff_eq.2 hty) hr ht)
  · exact fun t ht => Exec.outcome_eq_next.2 (bitCount_ok (beq_iff_eq.2 hty) hr ht)
  · exact fun t ht => Exec.outcome_eq_next.2 (bitCount_ok hty hr ht)
  · exact fun t ht => Exec.outcome_eq_next.2 (bitCount_ok hst hr ht)
  · exact fun t ht => Exec.outcome_eq_next.2 (ternary_ok hr (fun c _ => rfl) ht)
  · exact fun t ht => Exec.outcome_eq_next.2 (ternary_ok hr (fun c _ => rfl) ht)
  · simp only [List.mem_cons, List.not_mem_nil, or_false] at hi
    rcases hi with rfl | rfl <;>
      exact fun t ht => Exec.outcome_eq_next.2 (ternary_ok hr (fun c hc => by rw [hx c hc]; rfl) ht)
  · simp only [List.mem_cons, List.not_mem_nil, or_false] at hi
    rcases hi with rfl | rfl <;>
      exact fun t ht => Exec.outcome_eq_next.2 (bitCount_open_ok (beq_eq_false_iff_ne.2 hty) hr ht)
  · exact fun t ht => Exec.outcome_eq_next.2 (bitCount_open_ok hty hr ht)
  · exact fun t ht => Exec.outcome_eq_next.2 (bitCount_open_ok hst hr ht)

end Sys2Proof.Proofs.Results
end

section
/-! PROOF. Floats, compares, dot products and planes, `math` and the compact forms (O13, O14, O17, O18, O20). -/

namespace Sys2Proof.Proofs.Results

open Sys2Proof.Machine Sys2Proof.Claims
open Sys2Proof.Proofs.Ports (require_ok)

/-! ### Float results -/

theorem floatUnary_ok {s : State} {o : OneSrc} {op : FloatEnv → Fmt → QWord → Nat → Nat} {p : Fmt} {x : Nat → Val}
    {a : Nat → Nat} (hr : Reads1 s o x) (hp : execFormat [Src.elemType o.src0] = .ok p)
    (ha : ∀ c, c < o.ctl.exec.channels → a c = toFormat s.eu.floatEnv p (s.draw c drawResult) (x c)) {t : Thread}
    (ht : Template s o.ctl (.op o.dst) (plainUsage o.cond (oneTypes o)) (fun c => finishLane s o.ctl o.cond o.dst.ty c
      (.flt p (op s.eu.floatEnv p (s.draw c drawResult) (a c)))) t) : floatUnary s o op = .ok { s with eu := t } := by
  rw [floatUnary, hp, Exec.ok_bind]
  exact unary_ok (v := fun c => .flt p (op s.eu.floatEnv p (s.draw c drawResult) (a c))) hr (fun c hc => by rw [ha c hc]) ht

theorem exec_mad_ok {s : State} {o : ThreeSrc} {q q1 q2 p : Fmt} {a b d : Nat → Nat}
    (hr : Reads3 s o (fun c => .flt q (a c)) (fun c => .flt q1 (b c)) (fun c => .flt q2 (d c))) (hp : triFormat o = .ok p) :
    Gives3 s o true (.mad o) (fun c => .flt p (fmaNum s.eu.floatEnv p (s.draw c drawResult)
       (operandNum s.eu.floatEnv q1 (b c)) (operandNum s.eu.floatEnv q2 (d c)) (operandNum s.eu.floatEnv q (a c)))) := by
  intro t ht
  refine Exec.outcome_eq_next.2 ?_
  rw [hp, Exec.ok_bind]
  exact ternary_ok hr (fun c _ => rfl) ht

theorem exec_lrp_ok {s : State} {o : ThreeSrc} {a b d : Nat → Nat}
    (hr : Reads3 s o (fun c => .flt .f (a c)) (fun c => .flt .f (b c)) (fun c => .flt .f (d c)))
    (hty : threeTypes o = [.f, .f, .f, .f]) :
    Gives3 s o true (.lrp o) (fun c => .flt .f (chooseFrom (s.draw c drawOrder)
       (lerpResults s.eu.floatEnv (s.draw c drawResult) (a c) (b c) (d c)))) := by
  intro t ht
  refine Exec.outcome_eq_next.2 ?_
  rw [require_ok (beq_iff_eq.2 hty), Exec.ok_bind]
  exact ternary_ok hr (fun c _ => rfl) ht

theorem exec_csel_ok {s : State} {o : ThreeSrc} {x y z v : Nat → Val} (hr : Reads3 s o x y z)
    (hty : threeTypes o = [.f, .f, .f, .f])
    (hv : ∀ c, v c = movedValue s.eu.floatEnv (s.draw c drawResult)
      (if cselTakes s.eu.floatEnv o.cond (s.draw c drawOrder) (z c) then x c else y c)) :
    Gives3 s o false (.csel o) v := by
  intro t ht
  refine Exec.outcome_eq_next.2 ?_
  rw [require_ok (beq_iff_eq.2 hty), Exec.ok_bind]
  exact ternary_ok hr (fun c _ => by rw [hv c]; rfl) ht

/-- The choice of `csel` by a condition (R114). -/
theorem cselTakes_flt {v : FloatEnv} {cond : CondMod} {order : QWord} {b : Nat} (h : cond ≠ .none) :
    cselTakes v cond order (.flt .f b) = conditionOf cond .f (.flt .f (flush v .f b)) := by
  cases cond <;> first | rfl | exact absurd rfl h

/-- Settles O13. -/
theorem floatInstructionsGiveTheirResult : Obligations.FloatInstructionsGiveTheirResult := by
  refine ⟨fun s o p x a hr hp ha => ⟨?_, ?_, ?_, ?_, ?_⟩, fun s o q q1 q2 p a b d => exec_mad_ok,
    fun s o a b d hr hty => ⟨exec_lrp_ok hr hty, fun hc => exec_csel_ok hr hty fun c => ?_,
      fun hc => exec_csel_ok hr hty fun c => ?_⟩⟩
  iterate 5
    · exact fun t ht => Exec.outcome_eq_next.2 (floatUnary_ok hr hp ha ht)
  · rw [cselTakes_flt hc]
  · rw [hc]
    rfl

/-! ### Compares -/

theorem compare_ok {s : State} {o : TwoSrc} {test : FloatEnv → CondMod → QWord → Pair → Bool} {x y : Nat → Val}
    {z : Nat → Pair} {t : Thread} (hr : Reads2 s o x y) (hc : o.cond ≠ .none) (hs : o.ctl.sat = false)
    (hu : ∀ c, c < o.ctl.exec.channels → unify s.eu.floatEnv (s.draw c drawResult) (x c) (y c) = .ok (z c))
    (ht : Template s o.ctl (.op o.dst) (plainUsage o.cond (twoTypes o))
      (fun c =>
        { v := .int (if test s.eu.floatEnv o.cond (s.draw c drawOrder) (z c) then -1 else 0)
          r := intBits o.dst.ty (if test s.eu.floatEnv o.cond (s.draw c drawOrder) (z c) then -1 else 0)
          f := test s.eu.floatEnv o.cond (s.draw c drawOrder) (z c)
          acc := accBits (.int (if test s.eu.floatEnv o.cond (s.draw c drawOrder) (z c) then -1 else 0)) }) t) :
    Machine.compare s o test = .ok { s with eu := t } := by
  obtain ⟨hm, ⟨h1, h2⟩, hxy⟩ := hr
  have hctl : (o.cond != .none && !o.ctl.sat) = true := by simp [hc, hs]
  simp only [Machine.compare, checkFloatMode_ok hm, h1, h2, require_ok hctl, Exec.ok_bind]
  refine channelwise_of_template (fun c hc => ?_) ht
  obtain ⟨hx, hy⟩ := hxy c hc
  simp only [hx, hy, hu c hc, Exec.ok_bind, Exec.pure_eq]

/-- Settles O14. -/
theorem compareWritesMaskAndFlag : Obligations.CompareWritesMaskAndFlag := by
  intro s o x y z t i test hr hc hs hu hi ht
  rcases hi with ⟨rfl, rfl⟩ | ⟨rfl, rfl⟩ <;> exact Exec.outcome_eq_next.2 (compare_ok hr hc hs hu ht)

/-! ### Dot products, line, plane -/

/-- The four values of a group that a dot product reads. -/
theorem group_ok {n c : Nat} {src : Nat → Exec Nat} {a : Nat → Nat} (hc : c < n)
    (h : ∀ c, c < (n + 3) / 4 * 4 → src c = .ok (a c)) :
    Machine.sequence ((List.range 4).map fun i => src (c / 4 * 4 + i)) = .ok ([0, 1, 2, 3].map fun k => a (c / 4 * 4 + k)) :=
  sequence_map_ok _ (fun k => a (c / 4 * 4 + k)) _ fun i hi => h _ (by
    have := List.mem_range.1 hi
    omega)

theorem dotProduct_ok {s : State} {o : TwoSrc}
    {terms : FloatEnv → Fmt → QWord → (Nat → Nat) → (Nat → Nat) → List Nat} {p : Fmt} {a b : Nat → Nat} {t : Thread}
    (hm : FloatMode s.eu (twoTypes o)) (h1 : Source1 o) (ha : o.ctl.access = .align16)
    (hp : execFormat [o.src0.ty, Src.elemType o.src1] = .ok p)
    (hab : ∀ c, c < (o.ctl.exec.channels + 3) / 4 * 4 →
       floatSource s (.reg o.src0) p drawSrc0 c = .ok (a c) ∧ floatSource s o.src1 p drawSrc1 c = .ok (b c))
    (ht : Template s o.ctl (.op o.dst) (plainUsage o.cond (twoTypes o))
      (fun c => finishLane s o.ctl o.cond o.dst.ty c (dotResult s p terms a b c)) t) :
    Machine.dotProduct s o terms = .ok { s with eu := t } := by
  simp only [Machine.dotProduct, checkFloatMode_ok hm, h1.1, h1.2, require_ok (beq_iff_eq.2 ha), hp, Exec.ok_bind]
  refine channelwise_of_template (fun c hc => ?_) ht
  simp only [group_ok hc fun c hc => (hab c hc).1, group_ok hc fun c hc => (hab c hc).2, Exec.ok_bind, Exec.pure_eq]
  rfl

theorem exec_line_ok {s : State} {o : TwoSrc} {fm : Fmt} {p q : Nat} {x : Nat → Nat}
    (hm : FloatMode s.eu (twoTypes o)) (h1 : Source1 o) (hf : execFormat [o.src0.ty, Src.elemType o.src1] = .ok fm)
    (hp : rowFloat s o.src0 fm 0 = .ok p) (hq : rowFloat s o.src0 fm 3 = .ok q)
    (hx : ∀ c, c < o.ctl.exec.channels → floatSource s o.src1 fm drawSrc1 c = .ok (x c)) :
    Gives2 s o (.line o) (fun c => .flt fm (chooseFrom (s.draw c drawOrder)
       [fadd s.eu.floatEnv fm (s.draw c drawResult) (fmul s.eu.floatEnv fm (s.draw c drawResult) p (x c)) q,
        fmaNum s.eu.floatEnv fm (s.draw c drawResult) (operandNum s.eu.floatEnv fm p) (operandNum s.eu.floatEnv fm (x c))
         (operandNum s.eu.floatEnv fm q)])) := by
  intro t ht
  refine Exec.outcome_eq_next.2 ?_
  simp only [checkFloatMode_ok hm, h1.1, h1.2, hf, hp, hq, Exec.ok_bind]
  exact channelwise_of_template (fun c hc => by simp only [hx c hc, Exec.ok_bind, Exec.pure_eq]) ht

theorem exec_pln_ok {s : State} {o : TwoSrc} {e : SrcOp} {fm : Fmt} {p q r : Nat} {x y : Nat → Nat}
    (hm : FloatMode s.eu (twoTypes o)) (he : o.src1 = .reg e) (hg : e.file = .grf) (hf : execFormat [o.src0.ty, e.ty] = .ok fm)
    (hp : rowFloat s o.src0 fm 0 = .ok p) (hq : rowFloat s o.src0 fm 1 = .ok q) (hr : rowFloat s o.src0 fm 3 = .ok r)
    (hxy : ∀ c, c < o.ctl.exec.channels →
       planeCoordinate s e fm 0 c = .ok (x c) ∧ planeCoordinate s e fm 1 c = .ok (y c)) :
    Gives2 s o (.pln o) (fun c => .flt fm (chooseFrom (s.draw c drawOrder)
       (planeResults s.eu.floatEnv fm (s.draw c drawResult) p q r (x c) (y c)))) := by
  intro t ht
  refine Exec.outcome_eq_next.2 ?_
  have h1 : checkSource1 (.reg e) = .ok () := require_ok (by rw [hg]; rfl)
  simp only [checkFloatMode_ok hm, h1, he, hf, hp, hq, hr, Exec.ok_bind]
  refine channelwise_of_template (fun c hc => ?_) ht
  obtain ⟨hx, hy⟩ := hxy c hc
  simp only [hx, hy, Exec.ok_bind, Exec.pure_eq]

/-- Settles O17. -/
theorem dotLineAndPlaneComplete : Obligations.DotLineAndPlaneComplete := by
  refine ⟨fun s o p a b hm h1 ha hp hab => ⟨?_, ?_, ?_, ?_⟩, fun s o fm p q x => exec_line_ok, fun s o e fm p q r x y => exec_pln_ok⟩
  iterate 4
    · exact fun t ht => Exec.outcome_eq_next.2 (dotProduct_ok hm h1 ha hp hab ht)

/-! ### math -/

theorem mathChecks_ok {s : State} {o : MathOp} {ints two : Bool} {x y : Nat → Val} (hr : MathReads s o ints two x y) :
    mathChecks s o ints two = .ok () := by
  obtain ⟨hm, hsrc, hsat, _⟩ := hr
  have h1 : (o.src1.file == .grf || (!two && isNull o.src1)) = true := by
    rcases hsrc with h | ⟨h, hn⟩
    · simp [h]
    · simp [h, hn]
  have h2 : (!ints || !o.ctl.sat) = true := by
    cases ints
    · rfl
    · simp [hsat rfl]
  simp only [mathChecks, checkFloatMode_ok hm, require_ok h1, require_ok h2, Exec.ok_bind]

theorem mathLane_ok {s : State} {o : MathOp} {ints two : Bool} {x y : Nat → Val} {fn : QWord → QWord → QWord} {c : Nat}
    (hr : MathReads s o ints two x y) (hc : c < o.ctl.exec.channels) :
    mathLane s o two fn c = .ok (mathResult s o fn x y c) := by
  obtain ⟨_, _, _, hxy⟩ := hr
  obtain ⟨hx, hy⟩ := hxy c hc
  cases two
  · have hy : y c = .int 0 := hy
    simp only [mathLane, hx, Bool.false_eq_true, if_false, Exec.ok_bind, Exec.pure_eq, mathResult, hy]
  · have hy : sourceValue s (.reg o.src1) drawSrc1 c = .ok (y c) := hy
    simp only [mathLane, hx, if_true, hy, Exec.ok_bind, Exec.pure_eq, mathResult]

theorem mathWith_ok {s : State} {o : MathOp} {fc : BitVec 4} {ints two : Bool} {x y : Nat → Val} {t : Thread}
    {fn : BitVec 4 → BitVec 4 → QWord → QWord → QWord} (hr : MathReads s o ints two x y)
    (ht : Template s o.ctl (.op o.dst) (plainUsage .none (mathTypes o)) (mathResult s o (fn fc o.src0.ty.code) x y) t) :
    mathWith s o fc ints two fn = .ok { s with eu := t } := by
  rw [mathWith, mathChecks_ok hr, Exec.ok_bind]
  exact channelwise_of_template (fun c hc => mathLane_ok hr hc) ht

theorem mathPair_ok {s : State} {o : MathOp} {x y : Nat → Val} {t u : Thread} {off : Nat} {place : Nat → Place}
    {fc : BitVec 4} (hr : MathReads s o true true x y)
    (ht : Template s o.ctl (.op o.dst) (plainUsage .none (mathTypes o)) (mathResult s o (Config.mathFn fc o.src0.ty.code) x y) t)
    (ho : channelOffset o.ctl (usesDouble (mathTypes o)) = .ok off)
    (hp : ∀ c, c < o.ctl.exec.channels → remainderPlace s.eu o c = .ok (place c))
    (hu : storeLanes (.op o.dst) t (outputs s o.ctl (.op o.dst) (plainUsage .none (mathTypes o)) off place
       (mathResult s o (Config.mathRem fc o.src0.ty.code) x y)) = .ok u) :
    mathPair s o fc = .ok { s with eu := u } := by
  have hl := sequence_map_ok (mathLane s o true (Config.mathRem fc o.src0.ty.code)) _ (List.range o.ctl.exec.channels)
    fun c hc => mathLane_ok hr (List.mem_range.1 hc)
  have hq := sequence_map_ok (remainderPlace s.eu o) place (List.range o.ctl.exec.channels)
    fun c hc => hp c (List.mem_range.1 hc)
  have ho : channelOffset o.ctl (plainUsage .none (mathTypes o)).usesDf = .ok off := ho
  have hz : ((List.range o.ctl.exec.channels).map (laneEnabled s.eu o.ctl (plainUsage .none (mathTypes o)) (.op o.dst) off)).zip
      (((List.range o.ctl.exec.channels).map place).zip
        ((List.range o.ctl.exec.channels).map (mathResult s o (Config.mathRem fc o.src0.ty.code) x y))) =
      outputs s o.ctl (.op o.dst) (plainUsage .none (mathTypes o)) off place
        (mathResult s o (Config.mathRem fc o.src0.ty.code) x y) := by
    rw [List.zip_map', List.zip_map']
    rfl
  simp only [mathPair, mathWith_ok hr ht, ho, hl, hq, hz, hu, Exec.ok_bind, Exec.pure_eq]

/-- Settles O18. -/
theorem mathFunctionsComplete : Obligations.MathFunctionsComplete := by
  refine ⟨fun mk fc ints two hmem s o x y t hr ht => ?_, fun s o x y t u off place hr ht ho hp hu =>
    Exec.outcome_eq_next.2 (mathPair_ok hr ht ho hp hu)⟩
  have h := mathWith_ok (fn := Config.mathFn) hr ht
  simp only [mathRows, List.mem_cons, Prod.mk.injEq, List.not_mem_nil, or_false] at hmem
  rcases hmem with ⟨rfl, rfl, rfl, rfl⟩ | ⟨rfl, rfl, rfl, rfl⟩ | ⟨rfl, rfl, rfl, rfl⟩ | ⟨rfl, rfl, rfl, rfl⟩ |
    ⟨rfl, rfl, rfl, rfl⟩ | ⟨rfl, rfl, rfl, rfl⟩ | ⟨rfl, rfl, rfl, rfl⟩ | ⟨rfl, rfl, rfl, rfl⟩ | ⟨rfl, rfl, rfl, rfl⟩ |
    ⟨rfl, rfl, rfl, rfl⟩ | ⟨rfl, rfl, rfl, rfl⟩ | ⟨rfl, rfl, rfl, rfl⟩ | ⟨rfl, rfl, rfl, rfl⟩ <;>
    exact Exec.outcome_eq_next.2 h

/-! ### Compact forms -/

/-- The instructions of the tables have an arm of their own among the expansions (R72, R76). -/
theorem execExpandedTwo_oneTable : ∀ p ∈ oneTable, ∀ o s, execExpandedTwo (p.2 o) s = exec (p.2 o) s := by
  simp only [oneTable, List.forall_mem_cons, List.not_mem_nil, false_imp_iff, implies_true, and_true]
  and_intros <;> exact fun _ _ => rfl

theorem execExpandedTwo_twoTable : ∀ p ∈ twoTable, ∀ o s, execExpandedTwo (p.2 o) s = exec (p.2 o) s := by
  simp only [twoTable, List.forall_mem_cons, List.not_mem_nil, false_imp_iff, implies_true, and_true]
  and_intros <;> exact fun _ _ => rfl

theorem execExpandedThree_threeTable : ∀ p ∈ threeTable, ∀ o s, execExpandedThree (p.2 o) s = exec (p.2 o) s := by
  simp only [threeTable, List.forall_mem_cons, List.not_mem_nil, false_imp_iff, implies_true, and_true]
  and_intros <;> exact fun _ _ => rfl

/-- An expansion is an instruction that the word's opcode selects from a table (R72, R76). -/
theorem expanded_cases {w : BitVec 128} {i : Instr} (h : expanded w = .ok i) :
    (∃ f o, (w.extractLsb' 0 7, f) ∈ oneTable ∧ i = f o) ∨ (∃ f o, (w.extractLsb' 0 7, f) ∈ twoTable ∧ i = f o) ∨
      ∃ f o, (w.extractLsb' 0 7, f) ∈ threeTable ∧ i = f o := by
  obtain ⟨sh, hd, h⟩ := Fields.bind_eq_ok.1 h
  have hn := RoundTrip.native_of_decodeNative hd
  have row {α : Type} {l : List (BitVec 7 × (α → Instr))} {op : BitVec 7} {o : α}
      (h : (match (lookupCode op l).map (· o) with
        | some i => (.ok i : Decoded Instr)
        | none => .error .reservedOpcode) = .ok i) : ∃ f o, (op, f) ∈ l ∧ i = f o := by
    cases hl : lookupCode op l with
    | none => rw [hl] at h; cases h
    | some f => rw [hl] at h; cases h; exact ⟨f, o, RoundTrip.mem_of_lookupCode hl, rfl⟩
  cases sh with
  | one op o =>
    obtain ⟨rfl, _⟩ := hn
    exact .inl (row h)
  | two op o =>
    obtain ⟨rfl, _⟩ := hn
    exact .inr (.inl (row h))
  | three op o =>
    obtain ⟨rfl, _⟩ := hn
    exact .inr (.inr (row h))
  | _ => cases h

theorem isThreeSrcOpcode_of_mem : ∀ p ∈ threeTable, isThreeSrcOpcode p.1 = true := by decide

theorem not_isThreeSrcOpcode_of_mem : (∀ p ∈ oneTable, isThreeSrcOpcode p.1 = false) ∧
    ∀ p ∈ twoTable, isThreeSrcOpcode p.1 = false := by decide

/-- A compact word of an opcode runs its expansion. -/
theorem execCompact_ok {op : BitVec 7} {w : Decoded Instr} {i : Instr} {s : State}
    {run : Instr → State → Host.Outcome State Fault Refusal} (h0 : op ≠ 0#7) (ho : isOpcode op = true) (hw : w = .ok i) :
    execCompact op w run s = run i s := by
  have hc : (op == 0x00#7 || !isOpcode op) = false := by simp [h0, ho]
  simp only [execCompact, hc, hw, Bool.false_eq_true, if_false]

theorem exec_compactTwo {o : CompactTwo} {i : Instr} {s : State} (hwf : o.wf = true) (h0 : o.op ≠ 0#7)
    (he : expanded (expandTwo Config.srcIndexTable o) = .ok i) : exec (.compactTwo o) s = exec i s := by
  simp only [CompactTwo.wf, Bool.and_eq_true, Bool.not_eq_true'] at hwf
  obtain ⟨hop, h3⟩ := hwf
  refine (execCompact_ok h0 hop he).trans ?_
  have hc := expanded_cases he
  rw [ComputingFrames.expandTwo_opcode] at hc
  rcases hc with ⟨f, n, hm, rfl⟩ | ⟨f, n, hm, rfl⟩ | ⟨f, n, hm, rfl⟩
  · exact execExpandedTwo_oneTable _ hm n s
  · exact execExpandedTwo_twoTable _ hm n s
  · rw [isThreeSrcOpcode_of_mem _ hm] at h3
    cases h3

theorem exec_compactThree {o : CompactThree} {i : Instr} {s : State} (hwf : o.wf = true)
    (he : expanded (expandThree o) = .ok i) : exec (.compactThree o) s = exec i s := by
  have h0 : o.op ≠ 0#7 := by
    rintro h
    rw [CompactThree.wf, h] at hwf
    revert hwf
    decide
  refine (execCompact_ok h0 (RoundTrip.opcode_of_three_listed _ hwf) he).trans ?_
  have hc := expanded_cases he
  rw [ComputingFrames.expandThree_opcode] at hc
  have h3 : isThreeSrcOpcode o.op = true := hwf
  rcases hc with ⟨f, n, hm, rfl⟩ | ⟨f, n, hm, rfl⟩ | ⟨f, n, hm, rfl⟩
  · rw [not_isThreeSrcOpcode_of_mem.1 _ hm] at h3
    cases h3
  · rw [not_isThreeSrcOpcode_of_mem.2 _ hm] at h3
    cases h3
  · exact execExpandedThree_threeTable _ hm n s

/-- The compact words of `mov`, `add` and `mad` (R72, R76). -/
theorem compactTwo_wf {o : CompactTwo} (h : o.op = 1#7 ∨ o.op = 0x40#7) : o.wf = true ∧ o.op ≠ 0#7 := by
  unfold CompactTwo.wf
  rcases h with h | h <;> rw [h] <;> decide

theorem compactThree_wf {o : CompactThree} (h : o.op = 0x5B#7) : o.wf = true := by
  unfold CompactThree.wf
  rw [h]
  decide

/-- Settles O20. -/
theorem compactRunsItsExpansion : Obligations.CompactRunsItsExpansion := by
  refine ⟨fun s o n raw t ho he hm hr ht => ?_, fun s o n a b ho he hr t ht => ?_, fun s o n a b d ho he hp hr t ht => ?_,
    fun o i s t hwf h0 he h => (exec_compactTwo hwf h0 he).trans h, fun o i s t hwf he h => (exec_compactThree hwf he).trans h,
    fun o s ho hr hen => ?_⟩
  · obtain ⟨hwf, h0⟩ := compactTwo_wf (.inl ho)
    rw [exec_compactTwo hwf h0 he]
    exact (moveGivesSourceConverted s n raw t hm hr ht).1
  · obtain ⟨hwf, h0⟩ := compactTwo_wf (.inr ho)
    rw [exec_compactTwo hwf h0 he]
    exact (arithmeticGivesItsResult.1 s n a b hr).1 t ht
  · rw [exec_compactThree (compactThree_wf ho) he]
    exact exec_mad_ok hr hp t ht
  · have h : exec (.compactTwo o) s = (raiseIllegal s).outcome := if_pos (by rw [ho]; rfl)
    rw [h, raiseIllegal, require_ok (by rw [hr, hen]; rfl)]
    rfl

end Sys2Proof.Proofs.Results
end

section
/-! PROOF. Responses arrive and threads wait (O58): the bytes that a response writes, the registers that are busy, the steps. -/

namespace Sys2Proof.Proofs.Responses

open Sys2Proof.Machine Sys2Proof.Claims

/-! ### Registers and bytes -/

theorem reg_setReg (t : Thread) (r g : Nat) (v : HWord) (hg : g < 128) :
    (t.setReg r v).reg g = if g = r then v else t.reg g := by
  unfold Thread.reg Thread.setReg
  by_cases h : g = r
  · simp [Vector.getD, h ▸ hg, h]
  · simp [Vector.getD, hg, h, Ne.symm h]

theorem reg_setRegs : ∀ (l : List HWord) (t : Thread) (r g : Nat), g < 128 →
    (t.setRegs r l).reg g = if h : r ≤ g ∧ g < r + l.length then l[g - r]'(by omega) else t.reg g
  | [], t, r, g, _ => by
    have h : ¬ (r ≤ g ∧ g < r + ([] : List HWord).length) := by simp
    rw [dif_neg h]
    rfl
  | v :: l, t, r, g, hg => by
    rw [Thread.setRegs, reg_setRegs l _ _ _ hg, reg_setReg _ _ _ _ hg]
    by_cases h0 : g = r
    · subst h0
      simp
    by_cases h1 : r ≤ g ∧ g < r + (v :: l).length
    · have h2 : r + 1 ≤ g ∧ g < r + 1 + l.length := by
        simp only [List.length_cons] at h1
        omega
      rw [dif_pos h1, dif_pos h2]
      simp only [show g - r = g - (r + 1) + 1 by omega, List.getElem_cons_succ]
    · have h2 : ¬ (r + 1 ≤ g ∧ g < r + 1 + l.length) := by
        simp only [List.length_cons] at h1
        omega
      rw [dif_neg h1, dif_neg h2, if_neg h0]

theorem setRegs_frame : ∀ (l : List HWord) (t : Thread) (r : Nat), ∃ g, t.setRegs r l = { t with grf := g }
  | [], t, _ => ⟨t.grf, rfl⟩
  | v :: l, t, r => by
    obtain ⟨g, h⟩ := setRegs_frame l (t.setReg r v) (r + 1)
    exact ⟨g, h⟩

/-- Bytes of a register replaced one after the other. -/
theorem regByte_foldl_setByte (p : Nat → Bool) (f : Nat → Byte) {b : Nat} (hb : b < 32) : ∀ (l : List Nat) (w : HWord),
    (∀ k ∈ l, k < 32) → regByte (l.foldl (fun w k => if p k then setByte w k (f k) else w) w) b =
      if b ∈ l ∧ p b = true then f b else regByte w b
  | [], w, _ => by simp
  | k :: l, w, hl => by
    rw [List.foldl_cons, regByte_foldl_setByte p f hb l _ fun j hj => hl j (List.mem_cons_of_mem _ hj)]
    by_cases hm : b ∈ l ∧ p b = true
    · rw [if_pos hm, if_pos ⟨List.mem_cons_of_mem _ hm.1, hm.2⟩]
    rw [if_neg hm]
    by_cases hk : b = k
    · subst hk
      cases hp : p b
      · simp
      · simp only [List.mem_cons_self, and_self, if_true]
        exact setByte_same w b (f b) hb
    · have hn : ¬ (b ∈ k :: l ∧ p b = true) := by
        rintro ⟨h, hp⟩
        exact hm ⟨(List.mem_cons.1 h).resolve_left hk, hp⟩
      rw [if_neg hn]
      split
      · exact setByte_other w k b (f k) hb hk
      · rfl

/-- Bits of a DWord set one after the other. -/
theorem getLsbD_foldl_setBit (p : Nat → Bool) {b : Nat} (hb : b < 32) : ∀ (l : List Nat) (w : DWord),
    (l.foldl (fun w k => if p k then setBit w k true else w) w).getLsbD b =
      (w.getLsbD b || (decide (b ∈ l) && p b))
  | [], w => by simp
  | k :: l, w => by
    rw [List.foldl_cons, getLsbD_foldl_setBit p hb l]
    by_cases hk : b = k
    · subst hk
      cases hp : p b
      · simp
      · simp [getLsbD_setBit _ _ _ _ hb]
    · cases hp : p k
      · simp [hk]
      · simp [getLsbD_setBit _ _ _ _ hb, hk]

/-- A byte of a register some bytes of which stay. -/
theorem regByte_keepBytes (keeps : DWord) (old new : HWord) {b : Nat} (hb : b < 32) :
    regByte (keepBytes keeps old new) b = if keeps.getLsbD b then regByte old b else regByte new b := by
  unfold keepBytes
  split
  · rename_i h
    simp [h]
  · rw [regByte_foldl_setByte (fun k => keeps.getLsbD k) (fun k => old.extractLsb' (8 * k) 8) hb _ _ fun k hk =>
      List.mem_range.1 hk]
    simp only [List.mem_range, hb, true_and]
    rfl

/-- A byte keeps an instruction's value only if an instruction has written it (R587). -/
theorem raceKeeps_getLsbD {draws r : Nat} {raced : DWord} {b : Nat} (hb : b < 32) (h : raced.getLsbD b = false) :
    (raceKeeps draws r raced).getLsbD b = false := by
  unfold raceKeeps
  split
  · simp
  · rw [getLsbD_foldl_setBit (fun b => raced.getLsbD b && (Config.free draws b (1000 + r)).getLsbD 0) hb]
    simp [h]

/-- A thread that a response arrives at (R135). -/
theorem receive_received (draws : Nat) (r : Response) (x : Thread) : Received r x (x.receive draws r) := by
  unfold Thread.receive
  have hlen : ((List.range r.data.length).map fun k =>
      arrived draws x r.raced (r.base + k) (r.data.getD k ⟨0#256, 0#32⟩)).length = r.data.length := by simp
  refine ⟨?_, fun g hg ho => ?_, fun j v hv hj b hb => ?_⟩
  · obtain ⟨g, h⟩ := setRegs_frame ((List.range r.data.length).map fun k =>
      arrived draws x r.raced (r.base + k) (r.data.getD k ⟨0#256, 0#32⟩)) x r.base
    rw [h]
  · rw [reg_setRegs _ _ _ _ hg, dif_neg (by rw [hlen]; omega)]
  · obtain ⟨hjl, hjv⟩ := List.getElem?_eq_some_iff.1 hv
    have hreg : (x.setRegs r.base ((List.range r.data.length).map fun k =>
        arrived draws x r.raced (r.base + k) (r.data.getD k ⟨0#256, 0#32⟩))).reg (r.base + j) =
        arrived draws x r.raced (r.base + j) v := by
      rw [reg_setRegs _ _ _ _ hj, dif_pos (by rw [hlen]; omega)]
      simp [hjl, hjv]
    rw [hreg, arrived, regByte_keepBytes _ _ _ hb, BitVec.getLsbD_or]
    refine ⟨fun hk => ?_, fun hk hr => ?_, ?_⟩
    · simp [hk]
    · have hx : (r.raced.extractLsb' (32 * (r.base + j)) 32).getLsbD b = false := by
        rw [BitVec.getLsbD_extractLsb', hr, Bool.and_false]
      simp [hk, raceKeeps_getLsbD hb hx]
    · split
      · exact .inr rfl
      · exact .inl rfl

/-! ### Arrival -/

theorem deliverAt_arrives {s : State} {k : Nat} {r : Response} (h : s.pending[k]? = some r) :
    (s.deliverAt k).pending = s.pending.eraseIdx k ∧ Arrives s (s.deliverAt k) r := by
  have hd : s.deliverAt k = { s.deliver r with pending := s.pending.eraseIdx k } := by
    unfold State.deliverAt
    rw [h]
  rw [hd]
  refine ⟨rfl, ?_⟩
  unfold State.deliver
  by_cases ht : r.tid = s.eu.tid
  · rw [if_pos ht]
    exact ⟨rfl, fun _ => ⟨rfl, receive_received _ _ _⟩, fun h => absurd ht h⟩
  · rw [if_neg ht]
    refine ⟨rfl, fun h => absurd h ht, fun _ => ⟨rfl, List.length_map .., fun i x hx => ?_⟩⟩
    refine ⟨if x.tid = r.tid then x.receive s.draws r else x, by simp [hx], fun e => ?_, fun e => if_neg e⟩
    rw [if_pos e]
    exact receive_received _ _ _

/-- The response whose turn it is (R135). -/
theorem takeResponse_delivers {s : State} {tid base : Nat} (h : s.turn = some (.response tid base)) :
    ∃ k r, s.pending[k]? = some r ∧ r.tid = tid ∧ r.base = base ∧ s.takeResponse tid base = s.deliverAt k := by
  have hm := State.turn_mem h
  have hp : ∃ r ∈ s.pending, r.tid = tid ∧ r.base = base := by
    unfold State.agents at hm
    simp only [List.mem_append, List.mem_map] at hm
    rcases hm with ((hm | hm) | ⟨_, _, hm⟩) | ⟨r, hr, hm⟩
    · split at hm
      · cases hm
      · simp at hm
    · split at hm
      · simp at hm
      · cases hm
    · cases hm
    · cases hm
      exact ⟨r, hr, rfl, rfl⟩
  obtain ⟨r, hr, ht, hb⟩ := hp
  obtain ⟨i, hi, hir⟩ := List.getElem_of_mem hr
  generalize hks : ((List.range s.pending.length).filter fun k => s.pending[k]?.any fun r => r.tid == tid && r.base == base) = ks
  have hpos : 0 < ks.length := by
    refine List.length_pos_of_mem (a := i) (hks ▸ List.mem_filter.2 ⟨List.mem_range.2 hi, ?_⟩)
    simp [hi, hir, ht, hb]
  have hlt : (s.draw 0 33).toNat % ks.length < ks.length := Nat.mod_lt _ hpos
  have hk := List.getElem_mem hlt
  generalize hkk : ks[(s.draw 0 33).toNat % ks.length] = k at hk
  rw [← hks, List.mem_filter] at hk
  obtain ⟨hkl, hk⟩ := hk
  have hkl := List.mem_range.1 hkl
  simp only [List.getElem?_eq_getElem hkl, Option.any_some, Bool.and_eq_true, beq_iff_eq] at hk
  refine ⟨k, s.pending[k], List.getElem?_eq_getElem hkl, hk.1, hk.2, ?_⟩
  unfold State.takeResponse
  simp only [hks, List.getElem?_eq_getElem hlt, hkk]

/-! ### Waiting -/

/-- A response of the resident thread, or none. -/
theorem yieldThread_cases (u : State) :
    (∃ k r, u.pending[k]? = some r ∧ r.tid = u.eu.tid ∧ u.yieldThread = u.deliverAt k) ∨
      (∀ r ∈ u.pending, r.tid ≠ u.eu.tid) ∧ u.yieldThread = u.rotate := by
  unfold State.yieldThread
  cases h : u.pending.findIdx? fun r => r.tid == u.eu.tid with
  | none =>
    refine .inr ⟨fun r hr => ?_, rfl⟩
    simpa using List.findIdx?_eq_none_iff.1 h r hr
  | some k =>
    obtain ⟨hk, hp, _⟩ := List.findIdx?_eq_some_iff_getElem.1 h
    exact .inl ⟨k, u.pending[k], List.getElem?_eq_getElem hk, by simpa using hp, rfl⟩

theorem rotate_running {u : State} (hr : u.eu.run = .running) : (u.parked = [] → u.rotate = u) ∧
    ∀ x rest, u.parked = x :: rest → u.rotate = { u with eu := x, parked := rest ++ [u.eu] } := by
  refine ⟨fun h => ?_, fun x rest h => ?_⟩
  · unfold State.rotate
    rw [h]
  · unfold State.rotate
    rw [h, hr]

/-- The step of a thread whose instruction waits (R12, R50). -/
theorem step_of_blocked {s u : State} {w : BitVec 128} {i : Instr} (ha : ThreadActs s u) (hf : u.fetch = .ok w)
    (hd : decode w = .ok i) (hdbg : debugBit w = false ∨ u.eu.suppressed = true) (hb : u.blocked i = true) :
    step s = .next (State.tick u.yieldThread) := by
  have hw : u.executeWord w = .next u.yieldThread := by
    simp only [State.executeWord, hd, State.issue, hb, if_true]
  rw [Steps.step_of_threadActs ha, Steps.runThread_of_fetch hf hdbg, hw]
  rfl

theorem blocked_yields {u : State} (hr : u.eu.run = .running) :
    ((∃ r ∈ u.pending, r.tid = u.eu.tid) → ∃ k r, u.pending[k]? = some r ∧ r.tid = u.eu.tid ∧
      u.yieldThread.pending = u.pending.eraseIdx k ∧ Arrives u u.yieldThread r) ∧
    ((∀ r ∈ u.pending, r.tid ≠ u.eu.tid) → (u.parked = [] → u.yieldThread = u) ∧
      ∀ x rest, u.parked = x :: rest → u.yieldThread = { u with eu := x, parked := rest ++ [u.eu] }) := by
  rcases yieldThread_cases u with ⟨k, r, hk, ht, h⟩ | ⟨hn, h⟩ <;> rw [h]
  · refine ⟨fun _ => ?_, fun hn => absurd ht (hn r (List.mem_of_getElem? hk))⟩
    obtain ⟨h1, h2⟩ := deliverAt_arrives hk
    exact ⟨k, r, hk, ht, h1, h2⟩
  · exact ⟨fun ⟨r, hr, ht⟩ => absurd ht (hn r hr), fun _ => rotate_running hr⟩

/-! ### Busy registers -/

/-- A number whose bits from `a` to `b` are set. -/
theorem testBit_span {a b i : Nat} (h : a ≤ b) : (2 ^ b - 2 ^ a).testBit i = (decide (a ≤ i) && decide (i < b)) := by
  have e : 2 ^ b - 2 ^ a = 2 ^ a * (2 ^ (b - a) - 1) := by
    rw [Nat.mul_sub, ← pow_add, Nat.add_sub_cancel' h, Nat.mul_one]
  rw [e, Nat.testBit_two_pow_mul, Nat.testBit_two_pow_sub_one]
  by_cases h1 : a ≤ i
  · simp [h1]
    omega
  · simp [h1]

theorem rangeRegs_getLsbD {r n g : Nat} (h : (rangeRegs r n).getLsbD g = true) : r ≤ g ∧ g < r + n := by
  unfold rangeRegs byteRegs at h
  split at h
  · simp at h
  · rw [BitVec.getLsbD_ofNat, testBit_span (by omega)] at h
    simp only [Bool.and_eq_true, decide_eq_true_eq] at h
    omega

/-- The registers of a thread's pending responses. -/
theorem pendingRegs_getLsbD {tid g : Nat} : ∀ {l : List Response} {m : BitVec 128},
    (l.foldl (fun m r => if r.tid = tid then m ||| r.regs else m) m).getLsbD g = true →
      m.getLsbD g = true ∨ ∃ r ∈ l, r.tid = tid ∧ r.base ≤ g ∧ g < r.base + r.data.length
  | [], _, h => .inl h
  | r :: l, m, h => by
    rcases pendingRegs_getLsbD (l := l) h with h | ⟨x, hx, hxr⟩
    · dsimp only at h
      split at h
      · rename_i ht
        rw [BitVec.getLsbD_or, Bool.or_eq_true] at h
        rcases h with h | h
        · exact .inl h
        · exact .inr ⟨r, List.mem_cons_self, ht, rangeRegs_getLsbD h⟩
      · exact .inl h
    · exact .inr ⟨x, List.mem_cons_of_mem _ hx, hxr⟩

theorem exists_bit_of_ne_zero {x : BitVec 128} (h : (x != 0#128) = true) : ∃ g, g < 128 ∧ x.getLsbD g = true := by
  by_contra hn
  simp only [not_exists, not_and, Bool.not_eq_true] at hn
  have : x = 0#128 := BitVec.eq_of_getLsbD_eq fun i hi => by simpa using hn i hi
  simp [this] at h

/-- An instruction waits for a register that it uses and that is busy (R12, R50, R587). -/
theorem blocked_register {s : State} {i : Instr} (h : s.blocked i = true) : ∃ g, g < 128 ∧
    (s.eu.sb.getLsbD g = true ∨ ∃ r ∈ s.pending, r.tid = s.eu.tid ∧ r.base ≤ g ∧ g < r.base + r.data.length) ∧
    ((instrUse s.eu i).reads.getLsbD g = true ∨
      (depCtrl (operandShape i)).2 = false ∧ (instrUse s.eu i).writes.getLsbD g = true) := by
  have busy {g : Nat} (hb : (s.eu.sb ||| s.pendingRegs).getLsbD g = true) :
      s.eu.sb.getLsbD g = true ∨ ∃ r ∈ s.pending, r.tid = s.eu.tid ∧ r.base ≤ g ∧ g < r.base + r.data.length := by
    rw [BitVec.getLsbD_or, Bool.or_eq_true] at hb
    rcases hb with hb | hb
    · exact .inl hb
    · rcases pendingRegs_getLsbD hb with h0 | h1
      · simp at h0
      · exact .inr h1
  simp only [State.blocked, Bool.and_eq_true, Bool.or_eq_true, Bool.not_eq_true'] at h
  rcases h.2 with h | ⟨hc, h⟩
  · obtain ⟨g, hg, h⟩ := exists_bit_of_ne_zero h
    rw [BitVec.getLsbD_and, Bool.and_eq_true] at h
    exact ⟨g, hg, busy h.2, .inl h.1⟩
  · obtain ⟨g, hg, h⟩ := exists_bit_of_ne_zero h
    rw [BitVec.getLsbD_and, Bool.and_eq_true] at h
    exact ⟨g, hg, busy h.2, .inr ⟨hc, h.1⟩⟩

/-- Settles O58. -/
theorem responsesArriveAndBlockedThreadsWait : Obligations.ResponsesArriveAndBlockedThreadsWait := by
  refine ⟨fun s tid base h => ?_, fun s u w i ha hf hd hdbg hb => ?_, fun s i => blocked_register, fun s u tid k h hu hr hn => ?_⟩
  · obtain ⟨k, r, hk, ht, hb, hr⟩ := takeResponse_delivers h
    obtain ⟨h1, h2⟩ := deliverAt_arrives hk
    refine ⟨k, r, s.deliverAt k, hk, ht, hb, ?_, h1, h2⟩
    simp only [step, State.once, h, State.act, hr]
    rfl
  · have hrun : u.eu.run = .running := by
      obtain ⟨_, _, _, hrun⟩ := ha
      exact hrun
    exact ⟨u.yieldThread, step_of_blocked ha hf hd hdbg hb, blocked_yields hrun⟩
  · subst hu
    simp only [step, State.once, h, State.act, State.runCurrent, hr, if_neg hn]
    rfl

end Sys2Proof.Proofs.Responses
end

section
/-! PROOF. Interrupt groups (O55): the registers bit by bit, the publication of the status, the host's line. -/

namespace Sys2Proof.Proofs.Interrupts

open Sys2Proof.Machine Sys2Proof.Claims

/-- A step that takes an input is the input's meaning, and time passes. -/
theorem step_event {s u : State} {e : HostEvent} (h : EventActs s u e) : step s = ticked (State.apply u e).outcome := by
  obtain ⟨ht, rest, hi, rfl⟩ := h
  exact step_input ht hi

theorem step_event_ok {s u t : State} {e : HostEvent} (h : EventActs s u e) (he : State.apply u e = .ok t) :
    step s = .next t.tick := by
  rw [step_event h, he]
  rfl

/-! ### Registers of a group, bit by bit -/

theorem keepBits_getLsbD {old kept v : DWord} {b : Nat} (hb : b < 32) :
    (keepBits old kept v).getLsbD b = if kept.getLsbD b then old.getLsbD b else v.getLsbD b := by
  unfold keepBits
  simp only [BitVec.getLsbD_or, BitVec.getLsbD_and, BitVec.getLsbD_not, hb, decide_true, Bool.true_and]
  cases kept.getLsbD b <;> simp

theorem clear_getLsbD {q : Irq} {future v : DWord} {b : Nat} (hb : b < 32) (hf : future.getLsbD b = false) :
    (q.clear (v &&& ~~~future)).iir.getLsbD b = (q.iir.getLsbD b && (!v.getLsbD b || q.iir2.getLsbD b)) ∧
      (q.clear (v &&& ~~~future)).iir2.getLsbD b = (q.iir2.getLsbD b && !v.getLsbD b) := by
  simp only [Irq.clear, BitVec.getLsbD_and, BitVec.getLsbD_not, hb, hf, decide_true, Bool.true_and, Bool.not_false,
    Bool.and_true, Bool.not_and, Bool.not_not, and_self]

theorem raise_getLsbD {q : Irq} {c : DWord} {b : Nat} (hb : b < 32) :
    (q.raise c).isr.getLsbD b = (q.isr.getLsbD b || c.getLsbD b) ∧
      (q.raise c).iir.getLsbD b = (q.iir.getLsbD b || (c.getLsbD b && !q.isr.getLsbD b && !q.imr.getLsbD b)) ∧
      (q.raise c).iir2.getLsbD b =
        (q.iir2.getLsbD b || (c.getLsbD b && !q.isr.getLsbD b && !q.imr.getLsbD b && q.iir.getLsbD b)) := by
  simp [Irq.raise, Irq.latch, hb]

/-! ### The group's place in the machine -/

theorem writeGroup_eq (s : State) (g : IrqGroup) (r : IrqReg) (v : DWord) :
    s.writeGroup g r v = withGroup s g ((groupOf s g).write r g.futureBits v) := by
  cases g <;> rfl

theorem raiseGroup_display (s : State) (u : DisplayUnit) (c : DWord) :
    s.raiseGroup (.display u) c = withGroup s (.display u) ((groupOf s (.display u)).raise (seenBy s (.display u) c)) := rfl

/-- An engine's group with new contents is published (R574). -/
theorem setIrq_published (s : State) (e : EngineId) (q : Irq) : Published s (s.setIrq e q) (.engine e) q := by
  have hw : (s.engine e).hwsPga.toNat + 4 ≤ addressLimit := by
    have := (s.engine e).hwsPga.isLt
    simp only [addressLimit]
    omega
  unfold Published State.setIrq
  by_cases h : ((s.engine e).irq.isr ^^^ q.isr) &&& ~~~(s.engine e).hwstam = 0#32
  · simp only [h, if_true, bne_self_eq_false, Bool.false_eq_true, if_false]
    rfl
  · simp only [if_neg h, bne_iff_ne.2 h, if_true]
    have hm : ((withGroup s (.engine e) q)).mem = s.mem := State.setEngine_mem ..
    refine ⟨rfl, fun hwf => ?_, fun a ha => ?_⟩
    · refine (Memory.readLE_writeLE (hm ▸ hwf) hw).trans (Nat.mod_eq_of_lt ?_)
      have := q.isr.isLt
      omega
    · exact (Memory.read_writeLE_other ha).trans (congrArg (Memory.read · a) hm)

theorem raiseGroup_published (s : State) (g : IrqGroup) (c : DWord) :
    Published s (s.raiseGroup g c) g ((groupOf s g).raise (seenBy s g c)) := by
  cases g with
  | engine e => exact setIrq_published s e _
  | display u => exact rfl

theorem lowerGroup_published (s : State) (g : IrqGroup) (c : DWord) :
    Published s (s.lowerGroup g c) g { groupOf s g with isr := (groupOf s g).isr &&& ~~~(c &&& g.sources) } := by
  cases g with
  | engine e => exact setIrq_published s e _
  | display u => exact rfl

/-! ### The host's line -/

theorem request_iff {q : Irq} : q.request = true ↔ ∃ b, b < 32 ∧ q.iir.getLsbD b = true ∧ q.ier.getLsbD b = true := by
  unfold Irq.request
  rw [bne_iff_ne, ne_eq, ← not_iff_not, not_not]
  constructor
  · rintro h ⟨b, hb, h1, h2⟩
    have := congrArg (fun x => x.getLsbD b) h
    simp [h1, h2] at this
  · intro h
    refine BitVec.eq_of_getLsbD_eq fun b hb => ?_
    rw [BitVec.getLsbD_and, BitVec.getLsbD_zero]
    cases h1 : q.iir.getLsbD b
    · rfl
    · cases h2 : q.ier.getLsbD b
      · rfl
      · exact absurd ⟨b, hb, h1, h2⟩ h

/-- Every interrupt group. -/
def allGroups : List IrqGroup :=
  [.engine .rcs, .engine .bcs, .engine .vcs, .engine .vcs2, .engine .vecs, .display .pipeA, .display .pipeB, .display .pipeC,
    .display .port, .display .gtc, .display .srd, .display .audio]

theorem mem_allGroups (g : IrqGroup) : g ∈ allGroups := by
  rcases g with e | u
  · cases e <;> decide
  · cases u <;> decide

theorem hostInterrupt_eq (s : State) :
    s.hostInterrupt = (s.dev.masterEnable && allGroups.any fun g => (groupOf s g).request) := by
  simp only [State.hostInterrupt, allGroups, List.any_cons, List.any_nil, Bool.or_false, ← Bool.or_assoc]
  rfl

theorem hostInterrupt_iff (s : State) : s.hostInterrupt = true ↔ s.dev.masterEnable = true ∧
    ∃ g b, b < 32 ∧ (groupOf s g).iir.getLsbD b = true ∧ (groupOf s g).ier.getLsbD b = true := by
  simp only [hostInterrupt_eq, Bool.and_eq_true, List.any_eq_true, request_iff, mem_allGroups, true_and]

/-- Settles O55. -/
theorem interruptGroupsLatchAndClear : Obligations.InterruptGroupsLatchAndClear := by
  refine ⟨fun s u g r v q h hq => ⟨q.write r g.futureBits v, ?_, ?_, ?_, ?_, ?_⟩, fun s u g v q h hq =>
    ⟨q.raise (seenBy u g v), u.raiseGroup g v, step_event_ok h rfl, hq ▸ raiseGroup_published u g v, rfl, rfl,
      fun b => raise_getLsbD⟩,
    fun s u g v h => ⟨u.lowerGroup g v, step_event_ok h rfl, lowerGroup_published u g v⟩, hostInterrupt_iff⟩
  · rw [hq, ← writeGroup_eq]
    exact step_event_ok h rfl
  · cases r <;> rfl
  · rintro rfl
    exact ⟨rfl, fun b => keepBits_getLsbD⟩
  · rintro rfl
    exact ⟨rfl, fun b => keepBits_getLsbD⟩
  · rintro rfl
    exact ⟨rfl, rfl, fun b => clear_getLsbD⟩

end Sys2Proof.Proofs.Interrupts
end

section
/-! PROOF. Errors and page faults of engines (O56). -/

namespace Sys2Proof.Proofs.EngineErrors

open Sys2Proof.Machine Sys2Proof.Claims Sys2Proof.Proofs.Interrupts

/-! ### Engines after their registers are replaced -/

theorem engine_setEngine_of (s : State) (e g : EngineId) (v : Engine) :
    (s.setEngine e v).engine g = if g = e then v else s.engine g := by
  by_cases h : g = e
  · rw [h, if_pos rfl, State.engine_setEngine]
  · rw [if_neg h, State.engine_setEngine_other h]

/-- Only the group of an engine changes when it has new contents. -/
theorem engine_setIrq_of (s : State) (e g : EngineId) (q : Irq) :
    (s.setIrq e q).engine g = { s.engine g with irq := if g = e then q else (s.engine g).irq } := by
  by_cases h : g = e
  · rw [h, if_pos rfl, State.engine_setIrq]
  · rw [if_neg h, State.engine_setIrq_other h]

theorem dev_setIrq (s : State) (e : EngineId) (q : Irq) : (s.setIrq e q).dev = s.dev := by
  rcases s.setIrq_cases e q with h | h <;> rw [h] <;> cases e <;> rfl

/-- What the conditions of an engine change of an engine's registers. -/
theorem engine_raiseEngine (s : State) (e g : EngineId) (c : DWord) : (s.raiseEngine e c).engine g =
    { s.engine g with irq := if g = e then (s.engine e).irq.raise (c &&& ~~~(s.engine e).engineMask) else (s.engine g).irq } :=
  engine_setIrq_of ..

theorem engine_lowerEngine (s : State) (e g : EngineId) (c : DWord) : (s.lowerEngine e c).engine g =
    { s.engine g with irq := if g = e then (s.engine e).irq.lower c else (s.engine g).irq } := engine_setIrq_of ..

/-! ### Commands of an engine that does not parse -/

theorem not_parses {v : Engine} (h : v.ccid = none ∨ v.stuck = true ∨ v.semaphoreWaiting = true ∨
    ∃ f ∈ v.faults, f.source = .streamer) : v.parses = false := by
  rcases h with h | h | h | ⟨f, hf, hs⟩
  · simp [Engine.parses, h]
  · simp [Engine.parses, h]
  · simp [Engine.parses, Engine.waits, h]
  · have : (v.faults.any fun f => f.source == .streamer) = true := List.any_eq_true.2 ⟨f, hf, by rw [hs]; rfl⟩
    simp [Engine.parses, Engine.waits, this]

/-- A command on an engine that does not parse does nothing (R547, R548, R585). -/
theorem apply_of_not_parses {u : State} {e : EngineId} {ev : HostEvent} (hc : CommandOf e ev)
    (h : (u.engine e).parses = false) : State.apply u ev = .ok u := by
  cases hc with
  | dispatch q hq =>
    have h : u.rcs.parses = false := h
    have hn : (u.rcs.parses || (q.child && u.rcs.ccid.isSome && !u.rcs.stuck)) = false := by simp [h, hq]
    exact congrArg Except.ok (if_neg (by rw [hn]; decide))
  | _ => exact if_neg (Bool.eq_false_iff.1 h)

/-! ### Errors -/

/-- What an error changes of its engine. -/
theorem engine_engineError (s : State) (e : EngineId) (bit : DWord) : ∃ q, (s.engineError e bit).engine e =
    { s.engine e with esr := (s.engine e).esr ||| bit, eir := (s.engine e).eir ||| (bit &&& ~~~(s.engine e).emr), irq := q } ∧
    (bit &&& ~~~(s.engine e).emr = 0#32 → q = (s.engine e).irq ∧
      s.engineError e bit = s.setEngine e ((s.engineError e bit).engine e)) ∧
    (bit &&& ~~~(s.engine e).emr ≠ 0#32 → q = (s.engine e).irq.raise (e.errorBit &&& ~~~(s.engine e).engineMask)) := by
  unfold State.engineError
  by_cases h : bit &&& ~~~(s.engine e).emr = 0#32
  · simp only [h, if_true, State.engine_setEngine]
    exact ⟨_, rfl, fun _ => ⟨rfl, trivial⟩, fun hn => absurd rfl hn⟩
  · simp only [if_neg h, engine_raiseEngine, State.engine_setEngine, if_true]
    exact ⟨_, rfl, fun hz => absurd hz h, fun _ => rfl⟩

theorem one_and_emr {m : DWord} : (1#32 &&& ~~~m = 0#32) ↔ m.getLsbD 0 = true := by
  constructor
  · intro h
    have := congrArg (fun x => x.getLsbD 0) h
    simpa using this
  · intro h
    refine BitVec.eq_of_getLsbD_eq fun i hi => ?_
    by_cases h0 : i = 0
    · subst h0
      simp [h]
    · simp [h0, hi]

/-- Whether the Master Error condition that an engine's own mask lets out raises its status bit. -/
theorem raise_errorBit {q : Irq} {m c : DWord} (h : m &&& c = 0#32) : (q.raise (c &&& ~~~m)).isr = q.isr ||| c := by
  have hc : c &&& ~~~m = c := by
    refine BitVec.eq_of_getLsbD_eq fun i hi => ?_
    have := congrArg (fun x => x.getLsbD i) h
    simp only [BitVec.getLsbD_and, BitVec.getLsbD_zero, BitVec.getLsbD_not, hi, decide_true, Bool.true_and] at this ⊢
    revert this
    cases m.getLsbD i <;> simp
  rw [hc]
  rfl

theorem clientOf_unsupported {s : State} {e : EngineId} {h : DWord} (hc : clientOf h ∉ [0, 2, 3]) :
    s.supportsClient e h = false := by
  simp only [clientOf, List.mem_cons, List.not_mem_nil, or_false, not_or] at hc
  obtain ⟨h0, h2, h3⟩ := hc
  unfold State.supportsClient
  split
  · contradiction
  · contradiction
  · contradiction
  · rfl

theorem clientOf_mi {s : State} {e : EngineId} {h : DWord} (hc : clientOf h = 0) : s.supportsClient e h = true := by
  unfold clientOf at hc
  unfold State.supportsClient
  rw [hc]
  rfl

theorem parse_unsupported {u : State} {e : EngineId} {h : DWord} {p : Bool} (hp : (u.engine e).parses = true)
    (hc : clientOf h ∉ [0, 2, 3]) : State.apply u (.parse e h p) = .ok (u.instructionError e) := by
  refine (if_pos hp).trans ?_
  simp only [clientOf_unsupported hc, Bool.not_false, if_true]

theorem parse_privileged {u : State} {e : EngineId} {h : DWord} {p : Bool} (hp : (u.engine e).parses = true)
    (hc : clientOf h = 0) (hpr : p = true) (hb : (u.engine e).batchPrivileged = false) :
    State.apply u (.parse e h p) = .ok (u.engineError e 4#32) := by
  refine (if_pos hp).trans ?_
  simp only [clientOf_mi hc, Bool.not_true, Bool.false_eq_true, if_false, State.privilegedCommand, hpr, hb, Bool.not_false,
    Bool.and_self, if_true]

theorem parses_not_stuck {v : Engine} (h : v.parses = true) : v.stuck = false := by
  simp only [Engine.parses, Bool.and_eq_true, Bool.not_eq_true'] at h
  exact h.1.2

/-! ### The Error ID register -/

theorem error_left_getLsbD {x w : DWord} {b : Nat} (hb : b < 32) :
    (x &&& ~~~(w &&& ~~~1#32)).getLsbD b = (x.getLsbD b && (b == 0 || !w.getLsbD b)) := by
  by_cases h0 : b = 0
  · subst h0
    simp
  · simp only [BitVec.getLsbD_and, BitVec.getLsbD_not, BitVec.getLsbD_one, hb, h0, decide_true, decide_false, Bool.and_false,
      Bool.not_false, Bool.and_true, Bool.true_and, beq_eq_false_iff_ne.2 h0, Bool.false_or]

theorem engine_clearErrors (s : State) (e : EngineId) (w : DWord) : ∃ q, (s.clearErrors e w).engine e =
    { s.engine e with
      eir := (s.engine e).eir &&& ~~~(w &&& ~~~1#32), esr := (s.engine e).esr &&& ~~~(w &&& ~~~1#32), irq := q } ∧
    ((s.engine e).eir &&& ~~~(w &&& ~~~1#32) = 0#32 → q = (s.engine e).irq.lower e.errorBit) := by
  unfold State.clearErrors
  by_cases h : (s.engine e).eir &&& ~~~(w &&& ~~~1#32) = 0#32
  · simp only [h, if_true, engine_lowerEngine, State.engine_setEngine]
    exact ⟨_, rfl, fun _ => rfl⟩
  · simp only [if_neg h, State.engine_setEngine]
    exact ⟨_, rfl, fun hz => absurd hz h⟩

/-! ### Page faults -/

/-- The fault that waits, or is never completed (R548). -/
def pendingFault (v : Engine) (source : FaultSource) : PendingFault := ⟨(v.ccid.map contextId).getD 0#32, source⟩

theorem addFault_eq (s : State) (e : EngineId) (source : FaultSource) : s.addFault e source =
    s.setEngine e { s.engine e with faults := (s.engine e).faults ++ [pendingFault (s.engine e) source] } := by
  unfold State.addFault pendingFault
  dsimp only
  cases (s.engine e).ccid <;> rfl

/-- Only interrupt groups change by a Page Fault interrupt and a condition. -/
theorem engine_pulsePageFault (s : State) (g : EngineId) :
    ∃ q, s.pulsePageFault.engine g = { s.engine g with irq := q } := by
  unfold State.pulsePageFault State.pulse
  split
  · rw [engine_lowerEngine, engine_setIrq_of]
    exact ⟨_, rfl⟩
  · rw [engine_lowerEngine, engine_raiseEngine]
    exact ⟨_, rfl⟩

theorem pageFaultBit_getLsbD : pageFaultBit.getLsbD 7 = true := rfl

/-- Latched bits stay when conditions rise (R576). -/
theorem iir_raise {q : Irq} {c : DWord} {b : Nat} (h : q.iir.getLsbD b = true) : (q.raise c).iir.getLsbD b = true := by
  simp only [Irq.raise, Irq.latch, BitVec.getLsbD_or, h, Bool.true_or]

/-- The Page Fault interrupt is latched where its status bit was 0 and no mask holds it back (R561). -/
theorem pulsePageFault_latches {s : State} (h : s.rcs.irq.isr.getLsbD 7 = false)
    (hm : s.dev.faultRepair = true ∨ s.rcs.engineMask.getLsbD 7 = false ∧ s.rcs.irq.imr.getLsbD 7 = false) :
    (s.pulsePageFault.engine .rcs).irq.iir.getLsbD 7 = true := by
  unfold State.pulsePageFault
  by_cases hr : s.dev.faultRepair = true
  · rw [if_pos hr, engine_lowerEngine, engine_setIrq_of, if_pos rfl, if_pos rfl]
    refine ((raise_getLsbD (q := { s.rcs.irq with imr := s.rcs.irq.imr &&& ~~~pageFaultBit }) (c := pageFaultBit)
      (show 7 < 32 by decide)).2.1).trans ?_
    simp only [h, pageFaultBit_getLsbD, BitVec.getLsbD_and, BitVec.getLsbD_not, Bool.not_false, Bool.not_true, Bool.and_false,
      Bool.and_true, Bool.or_true]
  · obtain ⟨hm, hi⟩ := hm.resolve_left hr
    rw [if_neg hr, State.pulse, engine_lowerEngine, engine_raiseEngine, if_pos rfl, if_pos rfl]
    refine ((raise_getLsbD (show 7 < 32 by decide)).2.1).trans ?_
    have h : (s.engine .rcs).irq.isr.getLsbD 7 = false := h
    have hm : (s.engine .rcs).engineMask.getLsbD 7 = false := hm
    have hi : (s.engine .rcs).irq.imr.getLsbD 7 = false := hi
    simp only [h, hm, hi, pageFaultBit_getLsbD, BitVec.getLsbD_and, BitVec.getLsbD_not, Bool.not_false, Bool.and_true,
      Bool.or_true, show decide (7 < 32) = true by decide]

theorem faultWaits_iff {v : Engine} {source : FaultSource} {recoverable : Bool} :
    (v.faultMode = 1 || (v.faultMode = 2 && recoverable && match source with
      | .thread _ => true
      | .streamer | .vertexFetch => false)) = true ↔ FaultWaits v source recoverable := by
  unfold FaultWaits
  cases source <;> simp

/-- The state after an access that is never completed: the engine is stuck, the interrupts are set (R548). -/
def faultStops (s : State) (e : EngineId) : State :=
  (s.setEngine e { s.engine e with stuck := true }).pulsePageFault.raiseEngine e e.errorBit

/-- What a faulting access does (R548, R567). -/
theorem pageFault_cases {s : State} {e : EngineId} {source : FaultSource} {recoverable : Bool} (h : e = .rcs ∨ source = .streamer) :
    (FaultWaits (s.engine e) source recoverable → s.pageFault e source recoverable = .ok (s.addFault e source)) ∧
      (¬ FaultWaits (s.engine e) source recoverable →
        s.pageFault e source recoverable = .ok (faultStops (s.addFault e source) e)) := by
  have hn : (e != .rcs && source != .streamer) = false := by
    rcases h with rfl | rfl <;> simp
  constructor <;> intro hw <;> unfold State.pageFault <;> simp only [hn, Bool.false_eq_true, if_false]
  · exact if_pos (faultWaits_iff.2 hw)
  · exact if_neg (mt faultWaits_iff.1 hw)

theorem engine_faultStops (s : State) (e : EngineId) :
    ∃ q, (faultStops s e).engine e = { s.engine e with stuck := true, irq := q } := by
  unfold faultStops
  obtain ⟨q, h⟩ := engine_pulsePageFault (s.setEngine e { s.engine e with stuck := true }) e
  rw [engine_raiseEngine, h, State.engine_setEngine]
  exact ⟨_, rfl⟩

/-- The Page Fault interrupt stays latched by the conditions that follow it. -/
theorem faultStops_latches {s : State} {e : EngineId} (h : s.rcs.irq.isr.getLsbD 7 = false)
    (hm : s.dev.faultRepair = true ∨ s.rcs.engineMask.getLsbD 7 = false ∧ s.rcs.irq.imr.getLsbD 7 = false) :
    ((faultStops s e).engine .rcs).irq.iir.getLsbD 7 = true := by
  unfold faultStops
  have hl : ((s.setEngine e { s.engine e with stuck := true }).pulsePageFault.engine .rcs).irq.iir.getLsbD 7 = true :=
    pulsePageFault_latches (by cases e <;> exact h) (by cases e <;> exact hm)
  rw [engine_raiseEngine]
  by_cases he : EngineId.rcs = e
  · subst he
    rw [if_pos rfl]
    exact iir_raise hl
  · rw [if_neg he]
    exact hl

/-! ### The clauses -/

theorem commands_wait {s u : State} {e : EngineId} {ev : HostEvent} (hc : CommandOf e ev) (h : EventActs s u ev)
    (hp : (u.engine e).ccid = none ∨ (u.engine e).stuck = true ∨ (u.engine e).semaphoreWaiting = true ∨
      ∃ f ∈ (u.engine e).faults, f.source = .streamer) : step s = .next u.tick :=
  step_event_ok h (apply_of_not_parses hc (not_parses hp))

theorem parse_reports {s u : State} {e : EngineId} {h : DWord} {p : Bool} (ha : EventActs s u (.parse e h p))
    (hp : (u.engine e).parses = true) :
    (clientOf h ∉ [0, 2, 3] → ∃ t, step s = .next (State.tick t) ∧
      (t.engine e).stuck = true ∧ (t.engine e).esr = (u.engine e).esr ||| 1#32 ∧
      (t.engine e).eir = (u.engine e).eir ||| (1#32 &&& ~~~(u.engine e).emr) ∧
      ((u.engine e).emr.getLsbD 0 = true → t = u.setEngine e (t.engine e) ∧ (t.engine e).irq = (u.engine e).irq) ∧
      ((u.engine e).emr.getLsbD 0 = false → (u.engine e).engineMask &&& e.errorBit = 0#32 →
        (t.engine e).irq.isr = (u.engine e).irq.isr ||| e.errorBit)) ∧
    (clientOf h = 0 → p = true → (u.engine e).batchPrivileged = false → ∃ t, step s = .next (State.tick t) ∧
      (t.engine e).stuck = false ∧ (t.engine e).esr = (u.engine e).esr ||| 4#32 ∧
      (t.engine e).eir = (u.engine e).eir ||| (4#32 &&& ~~~(u.engine e).emr)) := by
  refine ⟨fun hc => ?_, fun hc hpr hb => ?_⟩
  · obtain ⟨q, hq, hz, hn⟩ := engine_engineError u e 1#32
    refine ⟨_, step_event_ok ha (parse_unsupported hp hc), ?_⟩
    unfold State.instructionError
    rw [State.engine_setEngine, hq]
    refine ⟨rfl, rfl, rfl, fun hm => ?_, fun hm hb => ?_⟩
    · obtain ⟨hi, he⟩ := hz (one_and_emr.2 hm)
      exact ⟨by rw [he, State.setEngine_setEngine, State.engine_setEngine, hq], hi⟩
    · have hq : q = _ := hn (mt one_and_emr.1 (by rw [hm]; decide))
      exact (congrArg Irq.isr hq).trans (raise_errorBit hb)
  · obtain ⟨q, hq, _⟩ := engine_engineError u e 4#32
    refine ⟨_, step_event_ok ha (parse_privileged hp hc hpr hb), ?_⟩
    rw [hq]
    exact ⟨parses_not_stuck hp, rfl, rfl⟩

theorem errorId_clears {s u : State} {e : EngineId} {v : QWord} (ha : EventActs s u (.writeEngine e .eir v)) :
    (v.setWidth 32 &&& ~~~e.errorBits = 0#32 → ∃ t, step s = .next (State.tick t) ∧
      (∀ b, b < 32 → (t.engine e).eir.getLsbD b = ((u.engine e).eir.getLsbD b && (b == 0 || !v.getLsbD b)) ∧
        (t.engine e).esr.getLsbD b = ((u.engine e).esr.getLsbD b && (b == 0 || !v.getLsbD b))) ∧
      (t.engine e).emr = (u.engine e).emr ∧ (t.engine e).stuck = (u.engine e).stuck ∧
      ((t.engine e).eir = 0#32 → (t.engine e).irq.isr = (u.engine e).irq.isr &&& ~~~e.errorBit)) ∧
    (v.setWidth 32 &&& ~~~e.errorBits ≠ 0#32 → ∃ r, step s = .refused r) := by
  refine ⟨fun hz => ?_, fun hz => ⟨.hostEvent "ErrorReserved", ?_⟩⟩
  · have hok : State.apply u (.writeEngine e .eir v) = .ok (u.clearErrors e (v.setWidth 32)) := by
      unfold State.apply State.writeEngine
      simp only [hz, BEq.rfl]
      rfl
    obtain ⟨q, hq, hl⟩ := engine_clearErrors u e (v.setWidth 32)
    refine ⟨_, step_event_ok ha hok, ?_⟩
    rw [hq]
    refine ⟨fun b hb => ?_, rfl, rfl, fun h0 => congrArg Irq.isr (hl h0)⟩
    have hv : (v.setWidth 32).getLsbD b = v.getLsbD b := by simp [hb]
    exact ⟨(error_left_getLsbD hb).trans (by rw [hv]), (error_left_getLsbD hb).trans (by rw [hv])⟩
  · have hne : (v.setWidth 32 &&& ~~~e.errorBits == 0#32) = false := beq_eq_false_iff_ne.2 hz
    rw [step_event ha]
    unfold State.apply State.writeEngine
    simp only [hne]
    rfl

theorem pageFault_reports {s u : State} {e : EngineId} {source : FaultSource} {recoverable : Bool}
    (ha : EventActs s u (.pageFault e source recoverable)) (hs : e = .rcs ∨ source = .streamer) :
    ∃ t, step s = .next (State.tick t) ∧
      (t.engine e).faults = (u.engine e).faults ++ [⟨((u.engine e).ccid.map contextId).getD 0#32, source⟩] ∧
      (FaultWaits (u.engine e) source recoverable → t = u.setEngine e { u.engine e with faults := (t.engine e).faults }) ∧
      (¬ FaultWaits (u.engine e) source recoverable → (t.engine e).stuck = true ∧
        (u.rcs.irq.isr.getLsbD 7 = false →
          u.dev.faultRepair = true ∨ u.rcs.engineMask.getLsbD 7 = false ∧ u.rcs.irq.imr.getLsbD 7 = false →
          t.rcs.irq.iir.getLsbD 7 = true)) := by
  obtain ⟨hw, hn⟩ := pageFault_cases (s := u) (recoverable := recoverable) hs
  by_cases h : FaultWaits (u.engine e) source recoverable
  · refine ⟨_, step_event_ok ha (hw h), ?_⟩
    rw [addFault_eq, State.engine_setEngine]
    exact ⟨rfl, fun _ => rfl, fun hn => absurd h hn⟩
  · obtain ⟨q, hq⟩ := engine_faultStops (u.addFault e source) e
    refine ⟨_, step_event_ok ha (hn h), ?_⟩
    rw [hq, addFault_eq, State.engine_setEngine]
    refine ⟨rfl, fun hw => absurd hw h, fun _ => ⟨rfl, fun h7 hm => ?_⟩⟩
    exact faultStops_latches (by cases e <;> exact h7) (by cases e <;> exact hm)

theorem faultFixed_completes {s u : State} {e : EngineId} {f : PendingFault} (ha : EventActs s u (.faultFixed e f)) :
    ((u.engine e).stuck = true → step s = .next u.tick) ∧
    ((u.engine e).stuck = false →
      step s = .next (State.tick (u.setEngine e { u.engine e with faults := (u.engine e).faults.erase f }))) := by
  have h : step s = .next (u.faultFixed e f).tick := step_event_ok ha rfl
  refine ⟨fun hs => h.trans ?_, fun hs => h.trans ?_⟩ <;> unfold State.faultFixed <;> dsimp only <;> rw [hs] <;> rfl

theorem canAct_of_fault {s : State} {t : Thread} (hr : t.run = .running) (hf : ∃ f ∈ s.rcs.faults, f.source = .thread t.tid) :
    s.canAct t = false := by
  obtain ⟨f, hf, hs⟩ := hf
  have hst : s.stalled t = true := List.any_eq_true.2 ⟨f, hf, by simp [hs]⟩
  unfold State.canAct
  rw [hr]
  simp only [hst, Bool.not_true]

/-- Settles O56. -/
theorem enginesReportErrorsAndFaults : Obligations.EnginesReportErrorsAndFaults :=
  ⟨fun _ _ _ _ hc h hp => commands_wait hc h hp, fun _ _ _ _ _ ha hp => parse_reports ha hp, fun _ _ _ _ => errorId_clears,
    fun _ _ _ _ _ ha hs => pageFault_reports ha hs, fun _ _ _ _ => faultFixed_completes, fun _ _ hr hf => canAct_of_fault hr hf⟩

end Sys2Proof.Proofs.EngineErrors
end

section
/-! PROOF. Execlists and resets (O57): what each part of a switch leaves of the engine's registers, and what it stores where. -/

namespace Sys2Proof.Proofs.Execlists

open Sys2Proof.Machine Sys2Proof.Claims Sys2Proof.Proofs.Interrupts Sys2Proof.Proofs.EngineErrors
open Sys2Proof.Proofs.InvariantSteps (contextPage_lt)

/-! ### Numbers in memory -/

theorem readLE_lt : ∀ (n : Nat) (m : Memory) (a : Nat), Memory.readLE m a n < 256 ^ n
  | 0, _, _ => by simp [Memory.readLE]
  | n + 1, m, a => by
    have h := readLE_lt n m (a + 1)
    have hb := (Memory.read m a).isLt
    rw [Memory.readLE, pow_succ]
    omega

/-- A QWord is its two DWords (R24). -/
theorem readLE_eight (m : Memory) (a : Nat) :
    Memory.readLE m a 8 = Memory.readLE m a 4 + 2 ^ 32 * Memory.readLE m (a + 4) 4 := by
  simp only [Memory.readLE, Nat.add_assoc, Nat.reduceAdd]
  omega

/-- The two DWords of a QWord that was stored. -/
theorem readLE_halves {m : Memory} {a : Nat} {hi lo : DWord} (h : Memory.readLE m a 8 = (hi ++ lo).toNat) :
    Memory.readLE m a 4 = lo.toNat ∧ Memory.readLE m (a + 4) 4 = hi.toNat := by
  have h1 := readLE_lt 4 m a
  have h2 := lo.isLt
  rw [readLE_eight, BitVec.toNat_append, Nat.shiftLeft_eq, Nat.mul_comm (hi.toNat), ← Nat.two_pow_add_eq_or_of_lt h2] at h
  omega

/-! ### The part of the status page that holds the reports -/

/-- A step of memory that leaves the bytes of the reports of a status page alone, and keeps the canonical form. -/
def KeepsReports (page : Nat) (m m' : Memory) : Prop :=
  (Memory.wf m = true → Memory.wf m' = true) ∧ ∀ a, page + 64 ≤ a → a < page + 128 → Memory.read m' a = Memory.read m a

theorem KeepsReports.refl (page : Nat) (m : Memory) : KeepsReports page m m := ⟨id, fun _ _ _ => rfl⟩

theorem KeepsReports.trans {page : Nat} {m m1 m2 : Memory} (h : KeepsReports page m m1) (k : KeepsReports page m1 m2) :
    KeepsReports page m m2 :=
  ⟨fun hm => k.1 (h.1 hm), fun a h1 h2 => (k.2 a h1 h2).trans (h.2 a h1 h2)⟩

theorem keepsReports_writeLE {page : Nat} {m : Memory} {a v n : Nat} (ha : a + n ≤ addressLimit)
    (hd : a + n ≤ page + 64 ∨ page + 128 ≤ a) : KeepsReports page m (Memory.writeLE m a v n) :=
  ⟨fun hm => Memory.wf_writeLE hm ha, fun b h1 h2 => Memory.read_writeLE_other (by omega)⟩

/-- A stored number in a page apart from the status page. -/
theorem keepsReports_page {page p : Nat} {m : Memory} {a v n : Nat} (hp : p < 2 ^ 32) (h1 : p ≤ a) (h2 : a + n ≤ p + 4096)
    (h : page + 4096 ≤ p ∨ p + 4096 ≤ page) : KeepsReports page m (Memory.writeLE m a v n) :=
  keepsReports_writeLE (by simp only [addressLimit]; omega) (by omega)

/-- A store to a context's page apart from the status page keeps the reports. -/
theorem keepsReports_storeDword {s : State} {v : Engine} {d : QWord} {k : Nat} {x : DWord} (ha : Apart v d) (hk : k < 1024) :
    KeepsReports v.hwsPga.toNat s.mem (s.storeDword (contextPage d) k x).mem :=
  keepsReports_page (contextPage_lt d) (by omega) (by omega) ha

theorem keepsReports_storeQword {s : State} {v : Engine} {d : QWord} {k : Nat} {x : QWord} (ha : Apart v d) (hk : k < 1023) :
    KeepsReports v.hwsPga.toNat s.mem (s.storeQword (contextPage d) k x).mem :=
  keepsReports_page (contextPage_lt d) (by omega) (by omega) ha

theorem reported_of_keeps {v : Engine} {m m' : Memory} {low high : DWord} (h : Reported v m low high)
    (hk : KeepsReports v.hwsPga.toNat m m') : Reported v m' low high := by
  have hlt : (v.csbLast + 1) % 6 < 6 := Nat.mod_lt _ (by decide)
  have hr (a n : Nat) (h1 : v.hwsPga.toNat + 64 ≤ a) (h2 : a + n ≤ v.hwsPga.toNat + 128) :
      Memory.readLE m' a n = Memory.readLE m a n :=
    Memory.readLE_congr fun b hb1 hb2 => hk.2 b (by omega) (by omega)
  obtain ⟨hl, hh, hi⟩ := h
  exact ⟨(hr _ _ (by omega) (by omega)).trans hl, (hr _ _ (by omega) (by omega)).trans hh,
    (hr _ _ (by omega) (by omega)).trans hi⟩

/-! ### The parts of a switch -/

theorem reportStatus_engine (s : State) (e : EngineId) (entry : QWord) : (s.reportStatus e entry).engine e =
    { s.engine e with csbLast := ((s.engine e).csbLast + 1) % 6 } := by
  unfold State.reportStatus State.storeQword State.storeDword
  simp only [State.engine_setEngine, State.engine_storeAs]

theorem reportStatus_ctx (s : State) (e : EngineId) (entry : QWord) : (s.reportStatus e entry).ctx = s.ctx := by
  unfold State.reportStatus State.storeQword State.storeDword
  simp only [State.setEngine_ctx, State.storeAs_ctx]

/-- A context status entry in the status page (R569, R574). -/
theorem reportStatus_reported {s : State} {e : EngineId} {high low : DWord} (hm : Memory.wf s.mem = true) :
    Memory.wf (s.reportStatus e (high ++ low)).mem = true ∧
      Reported (s.engine e) (s.reportStatus e (high ++ low)).mem low high := by
  have hmem : (s.reportStatus e (high ++ low)).mem =
      Memory.writeLE (Memory.writeLE s.mem ((s.engine e).hwsPga.toNat + 4 * (16 + 2 * (((s.engine e).csbLast + 1) % 6)))
        (high ++ low).toNat 8) ((s.engine e).hwsPga.toNat + 4 * 31)
        (BitVec.ofNat 32 (((s.engine e).csbLast + 1) % 6)).toNat 4 := by
    unfold State.reportStatus State.storeQword State.storeDword
    simp only [State.setEngine_mem, State.storeAs_mem]
  rw [hmem]
  have hp := (s.engine e).hwsPga.isLt
  unfold Reported
  dsimp only
  generalize (s.engine e).hwsPga.toNat = p at hp ⊢
  have hk : ((s.engine e).csbLast + 1) % 6 < 6 := Nat.mod_lt _ (by decide)
  generalize ((s.engine e).csbLast + 1) % 6 = k at hk ⊢
  have hlim : addressLimit = 2 ^ 48 := rfl
  have hw := Memory.wf_writeLE (n := 8) (a := p + 4 * (16 + 2 * k)) (v := (high ++ low).toNat) hm (by omega)
  have h8 : Memory.readLE (Memory.writeLE s.mem (p + 4 * (16 + 2 * k)) (high ++ low).toNat 8) (p + 4 * (16 + 2 * k)) 8 =
      (high ++ low).toNat :=
    (Memory.readLE_writeLE hm (by omega)).trans (Nat.mod_eq_of_lt (BitVec.isLt _))
  obtain ⟨hl, hh⟩ := readLE_halves h8
  have other (a : Nat) (h : a + 4 ≤ p + 4 * 31) (m : Memory) (v : Nat) :
      Memory.readLE (Memory.writeLE m (p + 4 * 31) v 4) a 4 = Memory.readLE m a 4 :=
    Memory.readLE_congr fun b _ _ => Memory.read_writeLE_other (by omega)
  refine ⟨Memory.wf_writeLE hw (by omega), (other _ (by omega) _ _).trans hl, (other _ (by omega) _ _).trans ?_, ?_⟩
  · rw [show p + 4 * (17 + 2 * k) = p + 4 * (16 + 2 * k) + 4 by omega]
    exact hh
  · rw [show p + 124 = p + 4 * 31 by omega, Memory.readLE_writeLE hw (by omega), BitVec.toNat_ofNat]
    omega

/-- What restoring a context changes of its engine (R565): its part of the context state. -/
theorem restoreContext_spec (s : State) (e : EngineId) (d : QWord) : ∃ h t c p,
    (s.restoreContext e d).engine e = { s.engine e with ringHead := h, ringTail := t, ctxTimestamp := c, pdp := p } ∧
    (s.restoreContext e d).mem = s.mem ∧
    ((s.engine e).restores d = false → h = (s.engine e).ringHead ∧ (s.restoreContext e d).ctx = s.ctx) ∧
    ∀ i, (s.engine e).restores d = true → (s.engine e).images.find? (fun x => x.lrca == contextLrca d) = some i →
      h = i.ringHead ∧ t = i.ringTail ∧ p = i.pdp ∧ (e = .rcs → (s.restoreContext e d).ctx = i.ctx) := by
  have load (i : ContextImage) : (s.loadImage e i).engine e =
      { s.engine e with ringHead := i.ringHead, ringTail := i.ringTail, ctxTimestamp := i.ctxTimestamp, pdp := i.pdp } ∧
      (s.loadImage e i).mem = s.mem ∧ (e = .rcs → (s.loadImage e i).ctx = i.ctx) := by
    cases e <;> exact ⟨rfl, rfl, fun h => by cases h <;> rfl⟩
  unfold State.restoreContext
  dsimp only
  cases hr : (s.engine e).restores d
  · simp only [Bool.false_eq_true, if_false]
    split
    · rw [State.engine_setEngine, State.setEngine_mem, State.setEngine_ctx]
      exact ⟨_, _, _, _, rfl, rfl, fun _ => ⟨rfl, rfl⟩, fun _ h => nomatch h⟩
    · exact ⟨_, _, _, _, rfl, rfl, fun _ => ⟨rfl, rfl⟩, fun _ h => nomatch h⟩
  · simp only [if_true]
    split
    · rename_i i hi
      obtain ⟨h1, h2, h3⟩ := load i
      refine ⟨_, _, _, _, h1, h2, fun h => Bool.noConfusion h, fun j _ hj => ?_⟩
      cases hi.symm.trans hj
      exact ⟨rfl, rfl, rfl, h3⟩
    · rename_i hi
      obtain ⟨h1, h2, _⟩ := load (s.freeImage (contextLrca d))
      exact ⟨_, _, _, _, h1, h2, fun h => Bool.noConfusion h, fun j _ hj => absurd (hi.symm.trans hj) (by simp)⟩

/-- What a context's entering changes of its engine, and where it stores (R565, R580). -/
theorem enterContext_spec (s : State) (e : EngineId) (d : QWord) (first : Bool) : ∃ h t c p,
    (s.enterContext e d first).engine e = { s.engine e with
      ringHead := h, ringTail := t, ctxTimestamp := c, pdp := p, ccid := some d, lrca := some (contextLrca d) } ∧
    ((s.engine e).restores d = false → h = (s.engine e).ringHead ∧ (s.enterContext e d first).ctx = s.ctx) ∧
    (∀ i, (s.engine e).restores d = true → (s.engine e).images.find? (fun x => x.lrca == contextLrca d) = some i →
      h = i.ringHead ∧ t = i.ringTail ∧ p = i.pdp ∧ (e = .rcs → (s.enterContext e d first).ctx = i.ctx)) ∧
    (Apart (s.engine e) d → KeepsReports (s.engine e).hwsPga.toNat s.mem (s.enterContext e d first).mem) := by
  obtain ⟨h, t, c, p, he, hm, hk, hi⟩ := restoreContext_spec s e d
  unfold State.enterContext
  dsimp only
  generalize State.restoreContext s e d = r at *
  refine ⟨h, t, c, p, ?_, ?_⟩
  · rw [State.engine_setEngine]
    split <;> simp only [State.storeQword, State.storeDword, State.engine_storeAs, he]
  rw [State.setEngine_ctx, State.setEngine_mem]
  have hctx : (if (s.engine e).restores d = true then
      (r.storeDword (contextPage d) 17 (if first then 1#32 else 0#32)).storeQword (contextPage d) 20
        (r.storeDword (contextPage d) 17 (if first then 1#32 else 0#32)).dev.timestamp
      else r.storeDword (contextPage d) 17 (if first then 1#32 else 0#32)).ctx = r.ctx := by
    split <;> rfl
  rw [hctx]
  refine ⟨hk, hi, fun ha => ?_⟩
  rw [← hm]
  split
  · exact (keepsReports_storeDword ha (by decide)).trans (keepsReports_storeQword ha (by decide))
  · exact keepsReports_storeDword ha (by decide)

/-- The Context Switch interrupt changes a group alone, and stores the status before the reports (R574). -/
theorem setIrq_keepsReports (s : State) (e : EngineId) (q : Irq) :
    KeepsReports (s.engine e).hwsPga.toNat s.mem (s.setIrq e q).mem ∧ (s.setIrq e q).ctx = s.ctx := by
  have hp := (s.engine e).hwsPga.isLt
  rcases s.setIrq_cases e q with h | h <;> rw [h]
  · rw [State.setEngine_mem, State.setEngine_ctx]
    exact ⟨KeepsReports.refl _ _, rfl⟩
  · rw [State.storeAs_mem, State.storeAs_ctx, State.setEngine_mem, State.setEngine_ctx]
    exact ⟨keepsReports_writeLE (by simp only [addressLimit]; omega) (by omega), rfl⟩

theorem pulseSwitch_spec (s : State) (e : EngineId) : ∃ q, (s.pulseSwitch e).engine e = { s.engine e with irq := q } ∧
    (s.pulseSwitch e).ctx = s.ctx ∧ KeepsReports (s.engine e).hwsPga.toNat s.mem (s.pulseSwitch e).mem := by
  unfold State.pulseSwitch
  split
  · have hpage : ((s.raiseEngine e e.switchBit).engine e).hwsPga = (s.engine e).hwsPga := by rw [engine_raiseEngine]
    have h1 := setIrq_keepsReports s e ((s.engine e).irq.raise (e.switchBit &&& ~~~(s.engine e).engineMask))
    have h2 := setIrq_keepsReports (s.raiseEngine e e.switchBit) e
      (((s.raiseEngine e e.switchBit).engine e).irq.lower e.switchBit)
    have he := engine_lowerEngine (s.raiseEngine e e.switchBit) e e e.switchBit
    rw [engine_raiseEngine] at he
    exact ⟨_, he, h2.2.trans h1.2, h1.1.trans (hpage ▸ h2.1)⟩
  · exact ⟨_, rfl, rfl, KeepsReports.refl _ _⟩

/-! ### A context that becomes current (R565) -/

theorem enterAndPulse_spec (s : State) (e : EngineId) (d : QWord) (first : Bool) : ∃ h t c p q,
    ((s.enterContext e d first).pulseSwitch e).engine e = { s.engine e with
      ringHead := h, ringTail := t, ctxTimestamp := c, pdp := p, ccid := some d, lrca := some (contextLrca d), irq := q } ∧
    ((s.engine e).restores d = false →
      h = (s.engine e).ringHead ∧ ((s.enterContext e d first).pulseSwitch e).ctx = s.ctx) ∧
    (∀ i, (s.engine e).restores d = true → (s.engine e).images.find? (fun x => x.lrca == contextLrca d) = some i →
      h = i.ringHead ∧ t = i.ringTail ∧ p = i.pdp ∧
      (e = .rcs → ((s.enterContext e d first).pulseSwitch e).ctx = i.ctx)) ∧
    (Apart (s.engine e) d →
      KeepsReports (s.engine e).hwsPga.toNat s.mem ((s.enterContext e d first).pulseSwitch e).mem) := by
  obtain ⟨h, t, c, p, he, hk, hi, hm⟩ := enterContext_spec s e d first
  obtain ⟨q, hq, hc, hr⟩ := pulseSwitch_spec (s.enterContext e d first) e
  rw [he] at hq hr
  exact ⟨h, t, c, p, q, hq, fun hn => ⟨(hk hn).1, hc.trans (hk hn).2⟩,
    fun i hn hf => ⟨(hi i hn hf).1, (hi i hn hf).2.1, (hi i hn hf).2.2.1, fun h => hc.trans ((hi i hn hf).2.2.2 h)⟩,
    fun ha => (hm ha).trans hr⟩

/-! ### Submission (R555, R565) -/

theorem submit_eq {u : State} {e : EngineId} {d0 d1 d : QWord} {rest : List QWord} (hl : submitted d0 d1 = d :: rest)
    (hc : ∀ x ∈ submitted d0 d1, checkDescriptor x = .ok ()) : u.submit e d0 d1 =
    match (u.engine e).stuck, (u.engine e).ccid with
    | true, _ => .ok (u.setEngine e { u.engine e with pendingList := d :: rest })
    | false, none =>
      if u.flushed e = false then .ok (u.setEngine e { u.engine e with pendingList := d :: rest })
      else .ok ((((u.setEngine e { u.engine e with execlist := d :: rest }).reportStatus e 1#64).enterContext e d true).pulseSwitch e)
    | false, some cur =>
      .ok ((u.setEngine e { u.engine e with pendingList := d :: rest }).storeQword (contextPage cur) 18 u.dev.timestamp) := by
  have hs : Machine.sequence ((submitted d0 d1).map checkDescriptor) = .ok ((submitted d0 d1).map fun _ => ()) :=
    sequence_map_ok checkDescriptor _ _ hc
  rw [hl] at hs
  unfold State.submit
  dsimp only
  rw [show [d0, d1].filter (fun d => d.getLsbD 0) = d :: rest from hl, hs]
  cases (u.engine e).stuck
  · cases (u.engine e).ccid
    · cases u.flushed e <;> rfl
    · rfl
  · rfl

/-- A submission that does not start a context is pending (R555). -/
theorem submit_pending {u : State} {e : EngineId} {d0 d1 d : QWord} {rest : List QWord} (hl : submitted d0 d1 = d :: rest)
    (hc : ∀ x ∈ submitted d0 d1, checkDescriptor x = .ok ())
    (h : (u.engine e).stuck = true ∨ (u.engine e).ccid ≠ none ∨ u.flushed e = false) :
    ∃ t, u.submit e d0 d1 = .ok t ∧ t.engine e = { u.engine e with pendingList := d :: rest } := by
  rw [submit_eq hl hc]
  split
  · exact ⟨_, rfl, State.engine_setEngine ..⟩
  · next hs hn =>
    have hf : u.flushed e = false := by simpa [hs, hn] using h
    rw [if_pos hf]
    exact ⟨_, rfl, State.engine_setEngine ..⟩
  · exact ⟨_, rfl, (State.engine_storeAs ..).trans (State.engine_setEngine ..)⟩

/-- A submission that starts a context (R565, R569). -/
theorem submit_starts {u : State} {e : EngineId} {d0 d1 d : QWord} {rest : List QWord} (hl : submitted d0 d1 = d :: rest)
    (hc : ∀ x ∈ submitted d0 d1, checkDescriptor x = .ok ()) (hs : (u.engine e).stuck = false)
    (hn : (u.engine e).ccid = none) (hf : u.flushed e = true) : u.submit e d0 d1 =
      .ok ((((u.setEngine e { u.engine e with execlist := d :: rest }).reportStatus e (0#32 ++ 1#32)).enterContext e d true).pulseSwitch e) := by
  rw [submit_eq hl hc, hs, hn]
  exact if_neg (by rw [hf]; decide)

/-! ### Switching (R18, R569) -/

theorem leaveContext_engine (s : State) (e : EngineId) (d : QWord) (why : SwitchReason) :
    (s.leaveContext e d why).engine e = { s.engine e with
      images := s.contextImage e (contextLrca d) :: (s.engine e).images.filter fun i => i.lrca != contextLrca d } := by
  have hsave : (s.saveContext e d).engine e = { s.engine e with
      images := s.contextImage e (contextLrca d) :: (s.engine e).images.filter fun i => i.lrca != contextLrca d } :=
    State.engine_setEngine ..
  unfold State.leaveContext State.storeQword State.storeDword
  dsimp only
  split
  · rw [State.engine_storeAs, State.engine_storeAs, State.engine_storeAs, State.engine_storeAs, hsave]
  all_goals rw [State.engine_storeAs, State.engine_storeAs, hsave]

theorem leaveContext_keeps {s : State} {e : EngineId} {d : QWord} {why : SwitchReason} (ha : Apart (s.engine e) d) :
    KeepsReports (s.engine e).hwsPga.toNat s.mem (s.leaveContext e d why).mem := by
  have hsave : KeepsReports (s.engine e).hwsPga.toNat s.mem (s.saveContext e d).mem := by
    rw [State.saveContext, State.setEngine_mem]
    exact KeepsReports.refl _ _
  unfold State.leaveContext
  dsimp only
  have h1 {x : DWord} {y : QWord} : KeepsReports (s.engine e).hwsPga.toNat s.mem
      (((s.saveContext e d).storeDword (contextPage d) 16 x).storeQword (contextPage d) 22 y).mem :=
    (hsave.trans (keepsReports_storeDword ha (by decide))).trans (keepsReports_storeQword ha (by decide))
  split
  · exact h1.trans ((keepsReports_storeQword ha (by decide)).trans (keepsReports_storeQword ha (by decide)))
  all_goals exact h1

theorem nextContexts_fst (v : Engine) (why : SwitchReason) : (nextContexts v why).1 = following v why := by
  unfold nextContexts following
  cases why with
  | preempted => rfl
  | _ =>
    rcases v.execlist with _ | ⟨_, _ | ⟨_, _⟩⟩
    · cases v.pendingList <;> rfl
    · cases v.pendingList <;> rfl
    · rfl

theorem or_or_and_self (b x y : DWord) : (b ||| x ||| y) &&& b = b := by
  refine BitVec.eq_of_getLsbD_eq fun i _ => ?_
  simp only [BitVec.getLsbD_and, BitVec.getLsbD_or]
  cases b.getLsbD i <;> simp

/-- A context switch: the context is left and reported, and what follows takes its place (R569). -/
theorem switchOut_eq {u : State} {e : EngineId} {why : SwitchReason} {cur : QWord} (hr : checkReason why = .ok ())
    (hc : (u.engine e).ccid = some cur) (hs : (u.engine e).switches = true) (hm : (u.engine e).mayLeave why = true)
    (hf : u.flushed e = true) : ∃ (low : DWord) (l : List QWord) (first : Bool), low &&& why.bits = why.bits ∧
      ∃ s1 s2, s1 = (u.leaveContext e cur why).reportStatus e (contextId cur ++ low) ∧
        s2 = s1.setEngine e { s1.engine e with
          ccid := none, execlist := following (u.engine e) why, pendingList := l, semaphoreWaiting := false } ∧
        u.switchOut e why = .ok (match following (u.engine e) why with
          | d :: _ => (s2.enterContext e d first).pulseSwitch e
          | [] => s2.pulseSwitch e) := by
  have hn : nextContexts (u.engine e) why = (following (u.engine e) why, (nextContexts (u.engine e) why).2) := by
    rw [← nextContexts_fst]
  unfold State.switchOut
  dsimp only
  rw [hr, hc, hs, hm, hf, hn]
  cases following (u.engine e) why with
  | nil => exact ⟨_, _, true, or_or_and_self .., _, _, rfl, rfl, rfl⟩
  | cons d rest => exact ⟨_, _, _, or_or_and_self .., _, _, rfl, rfl, rfl⟩

/-- What follows a switch becomes current. -/
theorem switchTo_spec (s : State) (e : EngineId) (l : List QWord) (first : Bool) (hn : (s.engine e).ccid = none) :
    ∃ h t c p q r, (match l with
      | d :: _ => (s.enterContext e d first).pulseSwitch e
      | [] => s.pulseSwitch e).engine e = { s.engine e with
        ringHead := h, ringTail := t, ctxTimestamp := c, pdp := p, ccid := l.head?, lrca := r, irq := q } ∧
      ((∀ d ∈ l, Apart (s.engine e) d) → KeepsReports (s.engine e).hwsPga.toNat s.mem (match l with
      | d :: _ => (s.enterContext e d first).pulseSwitch e
      | [] => s.pulseSwitch e).mem) := by
  cases l with
  | nil =>
    obtain ⟨q, hq, _, hk⟩ := pulseSwitch_spec s e
    rw [List.head?_nil, ← hn]
    exact ⟨_, _, _, _, _, _, hq, fun _ => hk⟩
  | cons d rest =>
    obtain ⟨h, t, c, p, q, he, _, _, hk⟩ := enterAndPulse_spec s e d first
    exact ⟨h, t, c, p, q, _, he, fun ha => hk (ha d List.mem_cons_self)⟩

/-- A switch that is not made. -/
theorem switchOut_none {u : State} {e : EngineId} {why : SwitchReason} (hr : checkReason why = .ok ())
    (h : (u.engine e).ccid = none ∨ (u.engine e).switches = false ∨ (u.engine e).mayLeave why = false ∨ u.flushed e = false) :
    u.switchOut e why = .ok u := by
  unfold State.switchOut
  dsimp only
  rw [hr]
  cases hc : (u.engine e).ccid with
  | none => rfl
  | some cur =>
    have hg : ((u.engine e).switches && (u.engine e).mayLeave why && u.flushed e) = false := by
      rcases h with h | h | h | h
      · rw [hc] at h
        cases h
      · rw [h, Bool.false_and, Bool.false_and]
      · rw [h, Bool.and_false, Bool.false_and]
      · rw [h, Bool.and_false]
    rw [hg]
    rfl

/-! ### The obligation -/

/-- Settles O57. -/
theorem execlistsSwitchContexts : Obligations.ExeclistsSwitchContexts := by
  refine ⟨fun s u e d0 d1 d rest hev hl hc => ⟨fun hs hn hf => ?_, fun h => ?_⟩,
    fun s u e why hev hr => ⟨fun cur hc hs hm hf => ?_, fun h => step_event_ok hev (switchOut_none hr h)⟩, ?_, ?_⟩
  · have hre := reportStatus_engine (u.setEngine e { u.engine e with execlist := d :: rest }) e (0#32 ++ 1#32)
    have hrc := reportStatus_ctx (u.setEngine e { u.engine e with execlist := d :: rest }) e (0#32 ++ 1#32)
    rw [State.engine_setEngine] at hre
    rw [State.setEngine_ctx] at hrc
    obtain ⟨h, t, c, p, q, he, hk, hi, hm⟩ := enterAndPulse_spec
      ((u.setEngine e { u.engine e with execlist := d :: rest }).reportStatus e (0#32 ++ 1#32)) e d true
    rw [hre] at he hk hi hm
    rw [hrc] at hk
    refine ⟨_, step_event_ok hev (submit_starts hl hc hs hn hf), ?_⟩
    rw [he]
    refine ⟨rfl, rfl, rfl, rfl, fun hw ha => reported_of_keeps ?_ (hm ha), hk, hi⟩
    have hrep := (reportStatus_reported (s := u.setEngine e { u.engine e with execlist := d :: rest }) (e := e)
      (high := 0#32) (low := 1#32) (by rwa [State.setEngine_mem])).2
    rwa [State.engine_setEngine] at hrep
  · obtain ⟨t, ht, he⟩ := submit_pending hl hc h
    exact ⟨t, step_event_ok hev ht, by rw [he], by rw [he], by rw [he]⟩
  · obtain ⟨low, l, first, hlow, s1, s2, h1, h2, ht⟩ := switchOut_eq hr hc hs hm hf
    have hle := leaveContext_engine u e cur why
    have he1 := reportStatus_engine (u.leaveContext e cur why) e (contextId cur ++ low)
    rw [← h1, hle] at he1
    have he2 := congrArg (State.engine · e) h2
    dsimp only at he2
    rw [State.engine_setEngine, he1] at he2
    obtain ⟨a, b, c, p, q, r, he, hk⟩ := switchTo_spec s2 e (following (u.engine e) why) first (by rw [he2])
    rw [he2] at he hk
    refine ⟨_, step_event_ok hev ht, ?_⟩
    rw [he]
    refine ⟨rfl, rfl, rfl, rfl, List.find?_cons_of_pos (by simp [State.contextImage]), fun hw ha hd => ⟨low, hlow, ?_⟩⟩
    have hrep := (reportStatus_reported (e := e) (high := contextId cur) (low := low) ((leaveContext_keeps (why := why) ha).1 hw)).2
    rw [hle, ← h1] at hrep
    refine reported_of_keeps hrep ?_
    have hmem : s2.mem = s1.mem := by rw [h2, State.setEngine_mem]
    exact hmem ▸ hk hd
  · intro s u e hev
    refine ⟨_, step_event_ok hev rfl, ?_⟩
    cases e <;> exact ⟨rfl, rfl, rfl, by simp [NoThreads, State.resetEngine, State.clearThreads, Thread.none], by simp [State.resetEngine]⟩
  · intro s u hev
    exact ⟨_, step_event_ok hev rfl, ⟨rfl, rfl, rfl, rfl, rfl⟩, fun e => by cases e <;> rfl, rfl, rfl, rfl, rfl⟩

end Sys2Proof.Proofs.Execlists
end

section
/-! PROOF. The blitter's solid fill (O59). The obligation asks nothing of the form of memory. In a memory that lists an address
twice, which no reachable state has (O3), a byte that is stored as 0 drops the first of the two entries alone. -/

namespace Sys2Proof.Proofs.Blits

open Sys2Proof.Machine
open Sys2Proof.Proofs.Ports (bind_ok)

/-- The raster operation F0h is the pattern (R507). -/
theorem rasterOp_pattern (p s d n : Nat) : rasterOp 0xF0#8 p s d n = p % 2 ^ n := by
  induction n generalizing p s d with
  | zero => simp [rasterOp, Nat.mod_one]
  | succ n ih =>
    have hbit : (0xF0#8).getLsbD (4 * (p % 2) + 2 * (s % 2) + d % 2) = decide (p % 2 = 1) := by
      rcases Nat.mod_two_eq_zero_or_one p with hp | hp <;> rcases Nat.mod_two_eq_zero_or_one s with hs | hs <;>
        rcases Nat.mod_two_eq_zero_or_one d with hd | hd <;> rw [hp, hs, hd] <;> rfl
    rw [rasterOp, ih, hbit, Nat.pow_succ', Nat.mod_mul]
    simp only [decide_eq_true_eq]
    split <;> omega

/-- A blit of a solid colour to an untiled destination, at 32 bits per pixel, that writes every byte (R498, R506). -/
structure SolidFill (b : Blit) : Prop where
  bytes : b.bytes = 4
  rop : b.rop = 0xF0#8
  solid : b.solid = true
  clip : b.clip = false
  writes : b.writeAlpha = true ∧ b.writeRgb = true
  source : b.colorSource = false ∧ b.monoSource = false
  pattern : b.colorPattern = false ∧ b.monoPattern = false
  transparency : b.transparency = 0

theorem maskedPixel_solid {b : Blit} (h : SolidFill b) {old new : Nat} (hn : new < 2 ^ 32) : maskedPixel b old new = new := by
  simp only [maskedPixel, h.bytes, h.writes.1, h.writes.2, if_true]
  omega

/-- A pixel of a solid fill takes the pattern's colour. -/
theorem blitPixel_solid {low high : DWord} {b : Blit} {im : Immediate} {s : State} {x y a : Nat} (h : SolidFill b)
    (ha : pixelAddress s.bcs.limit b.dst b.dstPitch b.dstTiled b.bytes x y = .ok a) :
    blitPixel low high b im s x y = .ok (s.storeAs .agent a 4 b.patternBack.toNat) := by
  have hp : patternOperand s b im x y = .ok ⟨b.patternBack.toNat, false⟩ := by
    simp [patternOperand, h.solid, h.pattern.1, h.pattern.2]
  have hs : ∃ v, sourceOperand s b im x y = .ok ⟨v, false⟩ := by
    simp [sourceOperand, h.source.1, h.source.2]
  obtain ⟨v, hs⟩ := hs
  have hw (d : Nat) : transparencyWrites b low high v d = true := by simp [transparencyWrites, h.transparency]
  have hv : rasterOp 0xF0#8 b.patternBack.toNat v (Memory.readLE s.mem a 4) 32 = b.patternBack.toNat :=
    (rasterOp_pattern ..).trans (Nat.mod_eq_of_lt b.patternBack.isLt)
  unfold blitPixel
  rw [ha, h.bytes, h.rop]
  refine (bind_ok rfl (bind_ok hp (bind_ok hs ?_)))
  simp [h.clip, hw, hv, maskedPixel_solid h b.patternBack.isLt]

/-- A blit that runs (R496, R515). -/
theorem startBlit_eq {s t : State} {data : List Byte} {im : Immediate} (hs : s.blt.stuck = false)
    (hi : splitImmediate s.blt.blit data = some im) (hc : checkBlit s.blt.blit = .ok ())
    (ht : blitPixels (s.blt.reg 18) (s.blt.reg 19) s.blt.blit im s
      ((List.range s.blt.blit.height).flatMap fun y => (List.range s.blt.blit.width).map fun x => (x, y)) = .ok t) :
    s.startBlit data = .ok { t with blt := { s.blt with br := brAfter s s.blt.blit } } := by
  unfold State.startBlit
  simp only [hs, hi, Bool.false_eq_true, if_false]
  exact bind_ok hc (bind_ok ht rfl)

/-- A blitter that fills one pixel at 0 with the colour 0, and a memory that lists the address 0 twice. -/
def listedTwice : State :=
  { State.reset with
    mem := [(0, 1#8), (0, 1#8)]
    blt := { Blitter.reset with br := ((Vector.replicate 31 0#32).set 13 0x8FF00040#32).set 14 0x00010004#32 } }

/-- `listedTwice` with BR27 written. -/
def started : State := { listedTwice with blt := { listedTwice.blt with br := listedTwice.blt.br.set 27 0#32 } }

/-- The blit that the registers describe. -/
def onePixel : Blit := started.blt.blit

theorem onePixel_solid : SolidFill onePixel := by
  constructor <;> decide +kernel

/-- The fill stores the four bytes of its one pixel. -/
theorem listedTwice_fill : ∃ t, State.writeBr listedTwice 27 0#32 [] = .ok t ∧
    t.mem = Memory.writeLE [(0, 1#8), (0, 1#8)] 0 0 4 := by
  have hp : blitPixel (started.blt.reg 18) (started.blt.reg 19) onePixel ⟨[], none⟩ started 0 0 =
      .ok (started.storeAs .agent 0 4 onePixel.patternBack.toNat) := blitPixel_solid onePixel_solid (by decide +kernel)
  have hb := startBlit_eq (s := started) (data := []) (im := ⟨[], none⟩) rfl rfl rfl (bind_ok hp rfl)
  exact ⟨_, bind_ok rfl (bind_ok rfl hb), rfl⟩

/-- Refutes O59: in `listedTwice` the byte at 0 reads 1 after it is filled with 0. -/
theorem not_solidBlitFillsItsRectangle : ¬ Obligations.SolidBlitFillsItsRectangle := by
  intro h
  obtain ⟨t, ht, hfill, _⟩ := h listedTwice 0#32 onePixel (by decide) rfl rfl (by decide) (by decide) (by decide) (by decide)
    (by decide) (by decide) (by decide) (by decide) (by decide) (by decide) (by decide) (by decide) (by decide) (by decide)
    (by decide) (fun _ => by decide)
  obtain ⟨t', ht', hm⟩ := listedTwice_fill
  cases ht'.symm.trans ht
  have h0 := hfill 0 0 0 (by decide) (by decide) (by decide)
  rw [hm] at h0
  revert h0
  decide

end Sys2Proof.Proofs.Blits
end

section
/-! PROOF. Dispatches (O60): what a new thread is, and what a dispatch adds. -/

namespace Sys2Proof.Proofs.Dispatches

open Sys2Proof.Machine Sys2Proof.Claims
open Sys2Proof.Proofs.Ports (bind_ok)

/-! ### A new thread (R4, R10, R484, R485) -/

theorem constantRows_getElem? {s : State} {q : DispatchRequest} {a n k : Nat} (hk : k < n) :
    (constantRows s q a n)[k]? = some (urbRowAt s (q.curbe + a + k)) := by
  simp [constantRows, hk]

theorem length_constantRows (s : State) (q : DispatchRequest) (a n : Nat) : (constantRows s q a n).length = n := by
  simp [constantRows]

/-- The registers of a new thread: the header, its constants, the rest of the payload. -/
theorem newThread_reg {s : State} {h : HeldDispatch} {d : Descriptor} {t tid : Nat} {group : Option Nat} {k : Nat} {v : HWord}
    (hk : k < 127) (hv : (constantsOf s h.request d t ++ h.request.payload)[k]? = some v) :
    (newThread s h d t tid group).reg (1 + k) = v := by
  have h1 : k + 1 < 128 := by omega
  rw [Nat.add_comm]
  simp [Thread.reg, newThread, Vector.getD, h1, hv]

theorem newThread_header (s : State) (h : HeldDispatch) (d : Descriptor) (t tid : Nat) (group : Option Nat) :
    (newThread s h d t tid group).reg 0 = h.request.header := by
  simp [Thread.reg, newThread, Vector.getD]

theorem newThread_cr0 (s : State) (h : HeldDispatch) (d : Descriptor) (t tid : Nat) (group : Option Nat) :
    (newThread s h d t tid group).cr0.getD 0 0#32 = d.cr00 ∧ (newThread s h d t tid group).cr0.getD 1 0#32 = d.cr01 := by
  simp [newThread, Vector.getD]

theorem cr00_getLsbD (d : Descriptor) {b : Nat} (hb : b < 32) : d.cr00.getLsbD b =
    if b = 5 then d.rounding.getLsbD 1 else if b = 4 then d.rounding.getLsbD 0 else if b = 10 then true
    else if b = 6 then true else if b = 7 then d.denorm else if b = 2 then d.singleFlow else false := by
  simp only [Descriptor.cr00, getLsbD_setBit _ _ _ _ hb, BitVec.getLsbD_zero]

theorem cr01_getLsbD (d : Descriptor) {b : Nat} (hb : b < 32) : d.cr01.getLsbD b =
    if b = 13 then d.softwareEnable else if b = 12 then d.illegalEnable else if b = 11 then d.maskEnable else false := by
  simp only [Descriptor.cr01, getLsbD_setBit _ _ _ _ hb, BitVec.getLsbD_zero]

theorem cr00_rounding (d : Descriptor) : d.cr00.extractLsb' 4 2 = d.rounding := by
  refine BitVec.eq_of_getLsbD_eq fun i hi => ?_
  rw [BitVec.getLsbD_extractLsb', cr00_getLsbD d (by omega)]
  rcases (by omega : i = 0 ∨ i = 1) with rfl | rfl <;> rfl

theorem newThread_startsAs (s : State) (h : HeldDispatch) (d : Descriptor) (t tid : Nat) (group : Option Nat) :
    StartsAs h.request d (newThread s h d t tid group) := by
  obtain ⟨h0, h1⟩ := newThread_cr0 s h d t tid group
  have b0 (b : Nat) (hb : b < 32) := (congrArg (BitVec.getLsbD · b) h0).trans (cr00_getLsbD d hb)
  have b1 (b : Nat) (hb : b < 32) := (congrArg (BitVec.getLsbD · b) h1).trans (cr01_getLsbD d hb)
  exact {
    run := rfl
    ip := ⟨rfl, rfl, fun g hg => by simp [newThread, Vector.getD, hg]⟩
    masks := ⟨rfl, rfl⟩
    scoreboard := rfl
    header := newThread_header ..
    singleFlow := b0 2 (by decide)
    rounding := (congrArg (BitVec.extractLsb' 4 2) h0).trans (cr00_rounding d)
    denorm := b0 7 (by decide)
    alt := b0 0 (by decide)
    routine := b0 31 (by decide)
    maskStack := b1 11 (by decide)
    illegalOpcode := b1 12 (by decide)
    software := b1 13 (by decide) }

/-! ### The dispatch of a media thread and of a group -/

theorem dispatchMedia_eq {s : State} {h : HeldDispatch} {d : Descriptor} (hd : readDescriptor s h = .ok d)
    (hg : h.request.gpgpu = false) (hl : 1 + d.readLength + h.request.payload.length ≤ 128) : s.dispatchNow h = .ok { s with
      parked := s.parked ++ [newThread s h d 0 s.nextTid none]
      nextTid := s.nextTid + 1
      media := { s.media with live := s.media.live ++ [(h.request.x, h.request.y, s.nextTid)] } } := by
  unfold State.dispatchNow
  rw [if_neg (by rw [hg]; decide)]
  exact bind_ok hd (bind_ok (if_pos (decide_eq_true hl)) rfl)

theorem checkGroup_ok {q : DispatchRequest} {d : Descriptor} (ht : 1 ≤ d.threads)
    (hb : d.barrier = true → d.threads ≤ Config.threadsPerSubslice)
    (hl : 1 + d.crossLength + d.readLength + q.payload.length ≤ 128) : checkGroup q d = .ok () := by
  refine bind_ok (if_pos (decide_eq_true ht)) (bind_ok (if_pos ?_) (if_pos (decide_eq_true hl)))
  cases h : d.barrier
  · rfl
  · exact decide_eq_true (hb h)

/-- The dispatch of a group whose threads need not wait for each other, or for all of which there is room. -/
theorem dispatchGroup_eq {s : State} {h : HeldDispatch} {d : Descriptor} (hd : readDescriptor s h = .ok d)
    (hg : h.request.gpgpu = true) (hc : checkGroup h.request d = .ok ())
    (hr : d.barrier = false ∨ d.threads - h.first ≤ s.room) : s.dispatchNow h = .ok { s with
      parked := s.parked ++ groupThreads s h d (min (d.threads - h.first) s.room) (h.group.getD s.nextTid)
      nextTid := s.nextTid + min (d.threads - h.first) s.room
      groups := if h.group = none then s.groups ++ [⟨s.nextTid, d.slmSize, [], d.barrier, 0, d.threads⟩] else s.groups
      media := { s.media with waiting :=
        (if min (d.threads - h.first) s.room < d.threads - h.first then
          [⟨h.request, h.asked, h.first + min (d.threads - h.first) s.room, some (h.group.getD s.nextTid)⟩] else []) ++
          s.media.waiting } } := by
  have hn : ¬ (d.barrier && decide (min (d.threads - h.first) s.room < d.threads - h.first)) = true := by
    rcases hr with hr | hr
    · simp [hr]
    · simp [Nat.min_eq_left hr]
  unfold State.dispatchNow State.dispatchGroup
  rw [if_pos hg]
  refine bind_ok hd (bind_ok hc ((if_neg hn).trans ?_))
  cases h.group <;> rfl

theorem dispatchGroup_waits {s : State} {h : HeldDispatch} {d : Descriptor} (hd : readDescriptor s h = .ok d)
    (hg : h.request.gpgpu = true) (hc : checkGroup h.request d = .ok ()) (hb : d.barrier = true)
    (hr : s.room < d.threads - h.first) :
    s.dispatchNow h = .ok { s with media := { s.media with waiting := h :: s.media.waiting } } := by
  unfold State.dispatchNow State.dispatchGroup
  rw [if_pos hg]
  refine bind_ok hd (bind_ok hc (if_pos ?_))
  rw [hb, Nat.min_eq_right (Nat.le_of_lt hr), decide_eq_true hr]
  rfl

theorem length_groupThreads (s : State) (h : HeldDispatch) (d : Descriptor) (n g : Nat) :
    (groupThreads s h d n g).length = n := by
  simp [groupThreads]

theorem groupThreads_getElem? {s : State} {h : HeldDispatch} {d : Descriptor} {n g i : Nat} {t : Thread}
    (ht : (groupThreads s h d n g)[i]? = some t) : t = newThread s h d (h.first + i) (s.nextTid + i) (some g) := by
  simp only [groupThreads, List.getElem?_map, Option.map_eq_some_iff, List.getElem?_eq_some_iff, List.getElem_range] at ht
  obtain ⟨_, ⟨_, rfl⟩, rfl⟩ := ht
  rfl

/-- Settles O60. -/
theorem dispatchStartsItsThreads : Obligations.DispatchStartsItsThreads := by
  rintro s h q d rfl hd
  refine ⟨fun hg hl => ⟨_, dispatchMedia_eq hd hg hl, rfl, rfl, newThread_startsAs .., fun k hk => ?_, fun k hk => ?_⟩,
    fun hg ht hb hl => ⟨fun hr => ?_, fun hbar hr => dispatchGroup_waits hd hg (checkGroup_ok ht hb hl) hbar hr⟩⟩
  · refine newThread_reg (by omega) ?_
    rw [List.getElem?_append_left (by simp [constantsOf, hg, length_constantRows, hk])]
    simp only [constantsOf, hg, Bool.false_eq_true, if_false]
    exact constantRows_getElem? hk
  · rw [Nat.add_assoc]
    refine newThread_reg (by omega) ?_
    have hlen : (constantsOf s h.request d 0).length = d.readLength := by simp [constantsOf, hg, length_constantRows]
    rw [List.getElem?_append_right (by omega), hlen, Nat.add_sub_cancel_left, List.getElem?_eq_getElem hk]
    simp [List.getD_eq_getElem?_getD, hk]
  · have hlen := length_groupThreads s h d (min (d.threads - h.first) s.room) (h.group.getD s.nextTid)
    refine ⟨groupThreads s h d (min (d.threads - h.first) s.room) (h.group.getD s.nextTid), ?_, hlen, fun n t hn => ?_⟩
    · rw [hlen]
      exact dispatchGroup_eq hd hg (checkGroup_ok ht hb hl) hr
    · rw [groupThreads_getElem? hn]
      refine ⟨rfl, rfl, newThread_startsAs .., fun k hk => ?_, fun k hk => ?_⟩
      · refine newThread_reg (by omega) ?_
        simp only [constantsOf, hg, if_true, List.append_assoc]
        rw [List.getElem?_append_left (by rwa [length_constantRows])]
        exact constantRows_getElem? hk
      · rw [Nat.add_assoc]
        refine newThread_reg (by omega) ?_
        simp only [constantsOf, hg, if_true, List.append_assoc]
        rw [List.getElem?_append_right (by rw [length_constantRows]; omega), length_constantRows, Nat.add_sub_cancel_left,
          List.getElem?_append_left (by rwa [length_constantRows])]
        exact constantRows_getElem? hk

end Sys2Proof.Proofs.Dispatches
end
